-- ==== Sys2Proof/Word.lean ====
section
/-! DEFINITION. The words of the control port: bytes, the 16-bit and 24-bit fields of a frame, and
the 18-bit counts of an axis port (spec 11, R199, R206, "Machine lines and electrical notes"). -/

namespace Sys2Proof

/-- One byte of a frame (R199). -/
abbrev Byte := BitVec 8

/-- A two-byte field of a frame, most significant byte first on the wire (R199). -/
abbrev Half := BitVec 16

/-- The three-byte value of SET (R206). -/
abbrev Triple := BitVec 24

/-- A position sample of an axis port: 18 bits (spec 11, electrical notes; R150: 0..262143). -/
abbrev Sample := BitVec 18

end Sys2Proof
end

