-- ==== Sys2Proof/Config.lean ====
section
/-! DEFINITION. What the part fixes once (the sizes of its collections) and the one free value the
spec leaves: the bytes of a payload to which the spec gives no value. -/

namespace Sys2Proof.Config

/-- Placement slots 0..383 (R1). -/
def slotCount : Nat := 384

/-- Dispensing stations 1..72 (R44). -/
def stationCount : Nat := 72

/-- Clip records, positions 0..80 (R67). -/
def stretchLength : Nat := 81

/-- Clips of the chain, and entries of the clip-condition table (R105). -/
def clipCount : Nat := 200

/-- FREE VALUE (log 10). A byte the part sends to which the spec gives no value: an absent field of a
LOOKUP payload "has its flag clear and no meaningful value" (R199), and an empty payload still takes
bytes of the frame. The argument numbers the byte; nothing constrains the answer. -/
opaque freeByte : Nat → Byte

end Sys2Proof.Config
end

