-- ==== Sys2Proof/Syntax.lean ====
section
/-! DEFINITION. The commands of the block: one constructor for each row of spec/opcode_table.json,
with the operands its rule gives it. A host frame's operands stand at the widths of R206; a line
event carries the number of its line and the level of each input it samples (log 4); where the rules
leave an order open inside one event, the command carries the order (log 3). -/

namespace Sys2Proof

/-- EVEN or ODD: of a board number (R25), a status slot (R3) or a move slot (R138). -/
inductive Parity where
  | even
  | odd
deriving DecidableEq, Repr

/-- The four axes, in the order of R199. -/
inductive Axis where
  | x
  | y
  | r
  | s
deriving DecidableEq, Repr

/-- The sixteen alarm kinds, in the order of the table of R191. -/
inductive AlarmKind where
  | stationLow
  | stationEmpty
  | stationJam
  | stationSuspect
  | starve
  | chainJam
  | chainSync
  | placementMissed
  | headJam
  | clinchStall
  | clinchOvercurrent
  | clinchOpen
  | axisFollow
  | boardTransfer
  | supplyLow
  | overTemp
deriving DecidableEq, Repr

/-- A block that reacts at a position of the stretch at an index completion (R70); the head at 80 is
not among them, since its judgment meets none of the others. -/
inductive Reactor where
  | scan
  | station (k : Nat)
  | verify
  | gate
  | planner
deriving DecidableEq, Repr

/-- The levels of the input lines that State holds, as POWER_ON finds them (R208). `true` is high. -/
structure LineLevels where
  stopN : Bool
  overtemp : Bool
  supplyOk : Bool
  clamped : Bool
deriving DecidableEq, Repr

/-- One command: a whole frame of the host, an event on a machine line, the expiry of a timer, or an
event that a block of the part begins once its conditions hold (00, Events). Named without them,
POWER_ON finds CS_N high; TRIP_REACHED and OVERCURRENT_RISE find ISENSE at its full scale of 12.75 A, 255
units of 0.05 A, and OVERCURRENT_FALL finds it at 0 (log 19, log 37). -/
inductive Instr where
  -- frames of the host (R205, R206)
  | nop
  | lookup (kind : Byte) (index : Half) (part : Byte)
  | admitSlot (kind : Byte) (sequence : Half) (station : Byte) (x y : Half) (span trip code : Byte)
  | amend (kind : Byte) (index : Half) (field : Byte) (value : Half)
  | retire (kind : Byte) (index : Half)
  | hold (kind : Byte) (index : Half)
  | release (kind : Byte) (index : Half)
  | skip (kind : Byte) (index : Half) (parity : Byte)
  | recallSlot (kind : Byte) (index : Half) (parity : Byte)
  | align (kind : Byte) (index : Half) (dx dy scale : Half)
  | load (kind : Byte) (index : Half) (remaining : Half)
  | stationSetting (kind : Byte) (index : Half) (item : Byte) (value : Half)
  | stationState (kind : Byte) (index : Half) (value : Half)
  | clearStation (kind : Byte) (index : Half)
  | clearClipCondition (index : Half)
  | clearAlarm (index : Half)
  | set (kind : Byte) (index : Half) (value : Triple)
  | ack
  | run (verifyPresent : Bool)
  | pause
  | resume (boardPresent : Bool)
  | drain
  | halt
  | recover
  | reset (late : Bool)
  | unknownCommand (code : Byte)
  | frameDiscard
  -- power (R208)
  | powerOn (levels : LineLevels) (csLow : Bool := false)
  -- stations (R51, R56)
  | sprocketEdge (k : Nat) (pocket : Bool)
  | advanceTimeout (k : Nat)
  -- chain (R94, R95, R96, R98)
  | indexBegin
  | indexCompletion (present leads : Bool) (order : List Reactor)
  | indexTimeout
  | homeMarkEdge
  -- boards (R27, R33, R35, R36, R37, R38)
  | boardOpen
  | exchangeBegin
  | transferDone (boardPresent openFirst : Bool)
  | boardPresentRise
  | clampedRise
  | clampedFall
  | transferTimeout
  | clampTimeout
  -- move slots and axes (R145, R152, R154)
  | slotActivation
  | positionSample (axis : Axis) (count : Sample) (boardPresent : Bool)
  | lockTimeout (axis : Axis)
  -- head (R160 to R166)
  | cycleStart (home : Bool)
  | homingStart (home : Bool)
  | formed
  | down
  | clinchEnd
  | headClear (exchangeFirst : Bool)
  | homeRise (exchangeFirst : Bool)
  | phaseTimeout (edge exchangeFirst : Bool)
  -- clinch drive (R170 to R176)
  | tripReached (current : Nat := 255)
  | offTimeExpiry
  | clinchSample (current : Nat)
  | overcurrentRise (current : Nat := 255)
  | overcurrentFall (current : Nat := 0)
  | overcurrentFilterExpiry
  | restroke
  | overtempRise
  | overtempFall
  | supplyOkFall
  | supplyOkRise
  -- machine (R185, R187, R189, R193, R208)
  | stopNFall
  | stopNRise
  | pausingQuiet
  | drainEnd
  | retryTimeout (kind : AlarmKind)
  | porNFall
deriving DecidableEq, Repr

end Sys2Proof
end

