-- ==== Sys2Proof/WellFormed.lean ====
section
/-! DEFINITION. Which commands the block can meet: the station lines are numbered 1..72 (R44, R51),
a code from 22 names no command (R206), and a frame is carried by the row that its bytes give
(log 17). Every other operand is bounded by its width. -/

namespace Sys2Proof

/-- A station line exists for the numbers 1..72 (spec 03, lines FEED k, SPROCKET k, POCKET k). -/
def stationLine (k : Nat) : Bool := decide (1 ≤ k) && decide (k ≤ Config.stationCount)

/-- A reaction named in an order belongs to a block that exists (R70). -/
def Reactor.wf : Reactor → Bool
  | .station k => stationLine k
  | _ => true

/-- The command can reach the block. -/
def Instr.wf : Instr → Bool
  | .unknownCommand code => decide (22 ≤ code.toNat)
  | .stationSetting _ _ item _ => decide (item.toNat ≠ 5)
  | .clearStation kind _ => decide (kind.toNat ≠ 5) && decide (kind.toNat ≠ 11)
  | .sprocketEdge k _ => stationLine k
  | .advanceTimeout k => stationLine k
  | .indexCompletion _ _ order => order.all Reactor.wf
  | _ => true

end Sys2Proof
end

