-- ==== Sys2Proof/Decode.lean ====
section
/-! DEFINITION. The frames of the control port: the command that the bytes of a frame carry, and the
bytes that carry a command (R199, R200, R206); and the command that a word spells, read as the bits of a
frame. -/

namespace Sys2Proof

/-! ## Frames (R199, R206) -/

/-- What a frame does not carry and its command samples or leaves open when it is taken: the levels of
VERIFY_PRESENT at RUN and of BOARD_PRESENT at RESUME, and whether the requests of the work that RESET
cuts short arrive late (log 3, log 4). -/
structure Sampled where
  verifyPresent : Bool
  boardPresent : Bool
  late : Bool
deriving DecidableEq, Repr

/-- The high byte of a two-byte field. -/
def highByte (h : Half) : Byte := h.extractLsb' 8 8

/-- The low byte of a two-byte field. -/
def lowByte (h : Half) : Byte := h.extractLsb' 0 8

/-- Two bytes of a frame, most significant first (R199). -/
def twoBytes (h : Half) : List Byte := [highByte h, lowByte h]

/-- The field that two bytes make, most significant first (R199). -/
def joined (a b : Byte) : Half := a ++ b

/-- Three bytes of a frame, most significant first (R199). -/
def threeBytes (v : Triple) : List Byte :=
  [v.extractLsb' 16 8, v.extractLsb' 8 8, v.extractLsb' 0 8]

/-- The value that three bytes make (R206). -/
def joinedThree (a b c : Byte) : Triple := a ++ b ++ c

/-- The bytes of a command frame (R199): code, record kind, index, and the operands, the bytes beyond
those the command uses 0. -/
def frame (code kind : Byte) (index : Half) (operands : List Byte) : List Byte :=
  [code, kind] ++ twoBytes index ++ operands ++ List.replicate (12 - operands.length) 0

/-- A command that names no record (R199). -/
def bareFrame (code : Byte) : List Byte := frame code 0 0 []

/-- The bytes that carry a command to the port (R206); no frame carries an event. A discarded frame is
shown by the frame of no bytes (R200). -/
def encodeFrame : Instr → Option (List Byte)
  | .nop => some (bareFrame 0)
  | .lookup kind index part => some (frame 1 kind index [part])
  | .admitSlot kind sequence station x y span trip code =>
    some
      (frame 2 kind 0
        (twoBytes sequence ++ [station] ++ twoBytes x ++ twoBytes y ++ [span, trip, code]))
  | .amend kind index field value => some (frame 3 kind index (field :: twoBytes value))
  | .retire kind index => some (frame 4 kind index [])
  | .hold kind index => some (frame 5 kind index [])
  | .release kind index => some (frame 6 kind index [])
  | .skip kind index parity => some (frame 7 kind index [parity])
  | .recallSlot kind index parity => some (frame 8 kind index [parity])
  | .align kind index dx dy scale =>
    some (frame 9 kind index (twoBytes dx ++ twoBytes dy ++ twoBytes scale))
  | .load kind index remaining => some (frame 10 kind index (twoBytes remaining))
  | .stationSetting kind index item value => some (frame 11 kind index (item :: twoBytes value))
  | .stationState kind index value => some (frame 11 kind index (5 :: twoBytes value))
  | .clearStation kind index => some (frame 12 kind index [])
  | .clearClipCondition index => some (frame 12 5 index [])
  | .clearAlarm index => some (frame 12 11 index [])
  | .set kind index value => some (frame 13 kind index (threeBytes value))
  | .ack => some (bareFrame 14)
  | .run _ => some (bareFrame 15)
  | .pause => some (bareFrame 16)
  | .resume _ => some (bareFrame 17)
  | .drain => some (bareFrame 18)
  | .halt => some (bareFrame 19)
  | .recover => some (bareFrame 20)
  | .reset _ => some (bareFrame 21)
  | .unknownCommand code => some (bareFrame code)
  | .frameDiscard => some []
  | .powerOn _ _ => none
  | .sprocketEdge _ _ => none
  | .advanceTimeout _ => none
  | .indexBegin => none
  | .indexCompletion _ _ _ => none
  | .indexTimeout => none
  | .homeMarkEdge => none
  | .boardOpen => none
  | .exchangeBegin => none
  | .transferDone _ _ => none
  | .boardPresentRise => none
  | .clampedRise => none
  | .clampedFall => none
  | .transferTimeout => none
  | .clampTimeout => none
  | .slotActivation => none
  | .positionSample _ _ _ => none
  | .lockTimeout _ => none
  | .cycleStart _ => none
  | .homingStart _ => none
  | .formed => none
  | .down => none
  | .clinchEnd => none
  | .headClear _ => none
  | .homeRise _ => none
  | .phaseTimeout _ _ => none
  | .tripReached _ => none
  | .offTimeExpiry => none
  | .clinchSample _ => none
  | .overcurrentRise _ => none
  | .overcurrentFall _ => none
  | .overcurrentFilterExpiry => none
  | .restroke => none
  | .overtempRise => none
  | .overtempFall => none
  | .supplyOkFall => none
  | .supplyOkRise => none
  | .stopNFall => none
  | .stopNRise => none
  | .pausingQuiet => none
  | .drainEnd => none
  | .retryTimeout _ => none
  | .porNFall => none

/-- The command that names no record, by its code (R206). -/
def bareCommand (v : Sampled) (code : Byte) : Instr :=
  match code.toNat with
  | 0 => .nop
  | 14 => .ack
  | 15 => .run v.verifyPresent
  | 16 => .pause
  | 17 => .resume v.boardPresent
  | 18 => .drain
  | 19 => .halt
  | 20 => .recover
  | 21 => .reset v.late
  | _ => .unknownCommand code

/-- CLEAR by its record kind (R205): a kind that CLEAR does not take is refused by CLEAR_STATION
(log 17). -/
def clearCommand (kind : Byte) (index : Half) : Instr :=
  match kind.toNat with
  | 5 => .clearClipCondition index
  | 11 => .clearAlarm index
  | _ => .clearStation kind index

/-- STATION by its item (R206): item 5 is the state. -/
def stationCommand (kind : Byte) (index : Half) (item : Byte) (value : Half) : Instr :=
  match item.toNat with
  | 5 => .stationState kind index value
  | _ => .stationSetting kind index item value

/-- The command of a whole frame (R206); its last two operand bytes are used by no
command. -/
def wholeFrame (v : Sampled) (code kind : Byte) (index : Half)
    (p0 p1 p2 p3 p4 p5 p6 p7 p8 p9 : Byte) : Instr :=
  match code.toNat with
  | 1 => .lookup kind index p0
  | 2 => .admitSlot kind (joined p0 p1) p2 (joined p3 p4) (joined p5 p6) p7 p8 p9
  | 3 => .amend kind index p0 (joined p1 p2)
  | 4 => .retire kind index
  | 5 => .hold kind index
  | 6 => .release kind index
  | 7 => .skip kind index p0
  | 8 => .recallSlot kind index p0
  | 9 => .align kind index (joined p0 p1) (joined p2 p3) (joined p4 p5)
  | 10 => .load kind index (joined p0 p1)
  | 11 => stationCommand kind index p0 (joined p1 p2)
  | 12 => clearCommand kind index
  | 13 => .set kind index (joinedThree p0 p1 p2)
  | _ => bareCommand v code

/-- The command that a frame carries: `bytes` are the whole bytes received, and `part` the number of bits
of a byte that the frame ends part way through. Exactly 16 whole bytes are taken, and a frame of any other
length is discarded (R199, R200). -/
def decodeFrame (v : Sampled) (bytes : List Byte) (part : Nat := 0) : Instr :=
  match part, bytes with
  | 0, [code, kind, hi, lo, p0, p1, p2, p3, p4, p5, p6, p7, p8, p9, _, _] =>
    wholeFrame v code kind (joined hi lo) p0 p1 p2 p3 p4 p5 p6 p7 p8 p9
  | _, _ => .frameDiscard

/-! ## Words (R206) -/

/-- DESIGN CHOICE (log 24): what a word does not carry, both lines low and no request late. -/
def Sampled.low : Sampled := { verifyPresent := false, boardPresent := false, late := false }

/-- The first `n` bytes of a word, bits 7..0 first. -/
def wordBytes : Nat → Nat → List Byte
  | 0, _ => []
  | n + 1, w => BitVec.ofNat 8 w :: wordBytes n (w / 256)

/-- The command that a word spells, read as a frame of `nbits` bits: spec/opcode_table.json gives bits to no
row, and R206 gives 16 bytes to each command of the host, byte 0 in bits 7..0. A word of any other length
than 128 bits is a discarded frame (R200, log 24). -/
def decodeTableWord (nbits w : Nat) : Option Instr :=
  some (decodeFrame Sampled.low (wordBytes (nbits / 8) w) (nbits % 8))

/-- What the frame does not carry stands in the command as it is sampled (log 3, log 4). -/
def Instr.agrees (v : Sampled) : Instr → Bool
  | .run present => decide (v.verifyPresent = present)
  | .resume present => decide (v.boardPresent = present)
  | .reset late => decide (v.late = late)
  | _ => true

end Sys2Proof
end

