-- ==== Sys2Proof/Machine/State.lean ====
section
/-! DEFINITION. The state of the VS72: every record, setting, timer and line level the spec gives it,
as plain data, and the state after power-on. INVENTORY.md lists each field with its rule and its
reset value. Timers hold the interval they were started with while they run, and are absent while
they are stopped (log 7). -/

namespace Sys2Proof.Machine

/-! ## Collections of a fixed number of like things -/

/-- One value for each parity. -/
structure Pair (α : Type) where
  even : α
  odd : α
deriving DecidableEq, Repr

/-- One value for each axis, in the order X, Y, R, S of R199. -/
structure Quad (α : Type) where
  x : α
  y : α
  r : α
  s : α
deriving DecidableEq, Repr

/-- One value for each alarm kind (R191). -/
structure PerKind (α : Type) where
  stationLow : α
  stationEmpty : α
  stationJam : α
  stationSuspect : α
  starve : α
  chainJam : α
  chainSync : α
  placementMissed : α
  headJam : α
  clinchStall : α
  clinchOvercurrent : α
  clinchOpen : α
  axisFollow : α
  boardTransfer : α
  supplyLow : α
  overTemp : α
deriving DecidableEq, Repr

/-! ## Placement table (R1 to R4) -/

/-- The rotary quadrant of a placement (R2). -/
inductive Orientation where
  | q0
  | q90
  | q180
  | q270
deriving DecidableEq, Repr

/-- The clinch stroke profile (R2, R170). -/
inductive Profile where
  | inward
  | outward
  | cutOnly
deriving DecidableEq, Repr

/-- The edit claim of a record (R13). -/
inductive Hold where
  | free
  | holdPending
  | held
deriving DecidableEq, Repr

/-- The progress of a placement in one board (R3, R4). -/
inductive PlacementState where
  | notInBoard
  | callable
  | called
  | inserted
  | skipped
  | missed
  | interrupted
deriving DecidableEq, Repr

/-- Why a placement is SKIPPED (R3). -/
inductive SkipReason where
  | host
  | outOfTravel
deriving DecidableEq, Repr

/-- A per-board status slot (R3). -/
structure StatusSlot where
  state : PlacementState
  attempts : Nat
  deferrals : Nat
  unordered : Bool
  skipReason : Option SkipReason
  clinchPeak : Option Nat
deriving DecidableEq, Repr

/-- A placement record (R2): the program fields, the hold and the two status slots. -/
structure Placement where
  sequence : Nat
  station : Nat
  substitute : Bool
  x : Nat
  y : Nat
  orientation : Orientation
  span : Nat
  tier : Nat
  clinch : Profile
  trip : Nat
  hold : Hold
  status : Pair StatusSlot
deriving DecidableEq, Repr

/-! ## Boards and the exchange (R24, R32) -/

/-- The progress of a board in calling and insertion (R24). -/
inductive BoardPhase where
  | free
  | calling
  | calledOut
  | complete
deriving DecidableEq, Repr

/-- Where a board stands with respect to the table (R32). -/
inductive TableState where
  | notLoaded
  | awaitingAlign
  | aligned
  | unloading
deriving DecidableEq, Repr

/-- The alignment of a board: dx, dy in 0.01 mm, scale in ppm (R24, R41). -/
structure Correction where
  dx : Int
  dy : Int
  scale : Int
deriving DecidableEq, Repr

/-- A board record (R24). -/
structure BoardRecord where
  number : Nat
  phase : BoardPhase
  tableState : TableState
  correction : Option Correction
  inBoard : Nat
  inserted : Nat
  skipped : Nat
  outOfTravel : Nat
  missed : Nat
  interrupted : Nat
  recalls : Nat
  deferrals : Nat
deriving DecidableEq, Repr

/-- The leaving board of an exchange: its parity (R32), with its number, which R37 names as a source
even where the record of that parity has opened again since (log 29). -/
structure Leaving where
  parity : Parity
  number : Nat
deriving DecidableEq, Repr

/-- The leg of an exchange (R32). -/
inductive Leg where
  | idle
  | move
  | transfer
  | presentWait
  | clamping
deriving DecidableEq, Repr

/-- The kind of an exchange (R32). -/
inductive ExchangeKind where
  | unload
  | load
deriving DecidableEq, Repr

/-- The exchange record (R32) with its two timers (R37). -/
structure Exchange where
  leg : Leg
  kind : ExchangeKind
  leaving : Option Leaving
  incoming : Option Parity
  waiting : Bool
  transferTimer : Option Nat
  clampTimer : Option Nat
deriving DecidableEq, Repr

/-! ## Stations (R44) -/

/-- Whether a station may feed (R45). -/
inductive StationState where
  | offline
  | ready
  | empty
  | jammed
  | suspect
deriving DecidableEq, Repr

/-- The feed operation of a station (R44). -/
inductive Feed where
  | idle
  | due
  | advancing
deriving DecidableEq, Repr

/-- The outcome of a feed, as the miss window records it (R60). -/
inductive FeedOutcome where
  | fed
  | miss
deriving DecidableEq, Repr

/-- The two working values of a feed taken on (R44). -/
structure FeedWork where
  retryLimit : Nat
  advanceTimeout : Nat
deriving DecidableEq, Repr

/-- A station record (R44). `group` is the field the spec calls class. -/
structure Station where
  state : StationState
  group : Nat
  remaining : Nat
  committed : Nat
  lowLevel : Nat
  low : Bool
  retryLimit : Nat
  advanceTimeout : Nat
  missWindow : List FeedOutcome
  missThreshold : Nat
  consecutiveMisses : Nat
  feed : Feed
  retriesUsed : Nat
  work : Option FeedWork
  advanceTimer : Option Nat
deriving DecidableEq, Repr

/-! ## Carrying stretch and chain (R67, R91, R98, R105) -/

/-- What a clip holds, as far as the part knows (R67, R68). -/
inductive ClipState where
  | empty
  | unknown
  | assigned
  | loaded
  | dropMissed
  | verified
  | bad
  | stray
  | passedEmpty
  | rejected
  | deferred
deriving DecidableEq, Repr

/-- The judgment at the verify sensors (R67, R109). -/
inductive Judgment where
  | good
  | empty
  | leadFault
  | stray
deriving DecidableEq, Repr

/-- What the call scan assigned to a clip (R67): the fields board, placement and station are present
together. -/
structure Call where
  board : Nat
  placement : Nat
  station : Nat
deriving DecidableEq, Repr

/-- A clip record (R67). -/
structure Clip where
  state : ClipState
  call : Option Call
  verify : Option Judgment
  dump : Bool
  clipId : Option Nat
deriving DecidableEq, Repr

/-- The state of the index record (R91). -/
inductive IndexState where
  | idle
  | requested
  | indexing
deriving DecidableEq, Repr

/-- The chain synchronisation state (R98). -/
inductive SyncState where
  | unlocked
  | locking
  | locked
deriving DecidableEq, Repr

/-- The index record (R91) and the synchronisation record (R98). -/
structure Chain where
  indexState : IndexState
  indexTimer : Option Nat
  markSeen : Bool
  counter : Nat
  syncState : SyncState
  missRun : Nat
  tolerance : Nat
  candidateRun : Nat
deriving DecidableEq, Repr

/-- The wear of a clip (R105). -/
inductive ConditionState where
  | ok
  | watch
  | bad
deriving DecidableEq, Repr

/-- A clip-condition entry (R105). -/
structure ClipCondition where
  state : ConditionState
  failCount : Nat
deriving DecidableEq, Repr

/-! ## Move slots and axes (R138, R150) -/

/-- The state of a move slot (R139). -/
inductive SlotState where
  | free
  | awaitingBoard
  | planned
  | active
  | void
deriving DecidableEq, Repr

/-- The position of the clip a slot serves (R138). -/
inductive SlotPosition where
  | p79
  | p80
deriving DecidableEq, Repr

/-- The kind of a move slot and of a head cycle (R138, R158). -/
inductive MoveKind where
  | insert
  | dump
deriving DecidableEq, Repr

/-- A board number and a placement slot, present together (R138, R158). -/
structure Job where
  board : Nat
  placement : Nat
deriving DecidableEq, Repr

/-- A move slot (R138). -/
structure MoveSlot where
  state : SlotState
  position : Option SlotPosition
  kind : Option MoveKind
  job : Option Job
  targets : Option (Quad Nat)
deriving DecidableEq, Repr

/-- The state of an axis (R150). -/
inductive AxisState where
  | idle
  | slew
  | settle
  | locked
deriving DecidableEq, Repr

/-- An axis record (R150). -/
structure AxisRecord where
  state : AxisState
  target : Nat
  lastPosition : Option Nat
  inRun : Nat
  outRun : Nat
  lockTimer : Option Nat
deriving DecidableEq, Repr

/-! ## Head and clinch drive (R158, R169) -/

/-- The state of the head cycle record (R158). -/
inductive HeadState where
  | idle
  | homing
  | form
  | drive
  | clinch
  | retract
deriving DecidableEq, Repr

/-- Whether the CLINCH phase waits after a stroke (R158). -/
inductive Held where
  | none
  | stall
  | open
deriving DecidableEq, Repr

/-- The profile and the trip field read at cycle start, present together (R158). -/
structure StrokePlan where
  profile : Profile
  trip : Nat
deriving DecidableEq, Repr

/-- The head cycle record (R158). -/
structure Head where
  state : HeadState
  kind : Option MoveKind
  slot : Option Parity
  job : Option Job
  plan : Option StrokePlan
  formed : Bool
  cleared : Bool
  held : Held
  peak : Nat
  phaseTimer : Option Nat
deriving DecidableEq, Repr

/-- Whether the head sequencer commands a stroke (R169). -/
inductive Stroke where
  | none
  | commanded
deriving DecidableEq, Repr

/-- The phase of chop (R169). -/
inductive ChopPhase where
  | on
  | offTime
deriving DecidableEq, Repr

/-- The drive settings a stroke runs under (R179): off-time in µs, stall limit in chops, filter time
in µs, thresholds in units of 0.05 A, and the open sample count. -/
structure StrokeSettings where
  offTime : Nat
  stallLimit : Nat
  overcurrentThreshold : Nat
  filterTime : Nat
  openThreshold : Nat
  openSamples : Nat
deriving DecidableEq, Repr

/-- The drive record (R169), the off-time timer (R170) and the settings in force for the stroke
(R179, log 22). BRIDGE_ON is a view (log 18). -/
structure Drive where
  stroke : Stroke
  chop : ChopPhase
  chopCount : Nat
  samples : Nat
  openRun : Bool
  filter : Option Nat
  offTimer : Option Nat
  strikes : Nat
  lockout : Bool
  inForce : StrokeSettings
deriving DecidableEq, Repr

/-! ## Machine controller and alarm table (R181, R191) -/

/-- The machine state (R181). -/
inductive MachineState where
  | start
  | stopped
  | running
  | pausing
  | paused
  | draining
  | halted
deriving DecidableEq, Repr

/-- The state a pause returns to (R181). -/
inductive ReturnState where
  | running
  | draining
deriving DecidableEq, Repr

/-- The machine record's own fields (R181); the reports of the blocks are views (log 18). -/
structure MachineRecord where
  state : MachineState
  returnState : Option ReturnState
deriving DecidableEq, Repr

/-- The state of an alarm record (R191). -/
inductive AlarmState where
  | clear
  | active
  | latched
deriving DecidableEq, Repr

/-- The reaction of an alarm record (R191, R194). -/
inductive Reaction where
  | note
  | pause
  | halt
deriving DecidableEq, Repr

/-- The clear mode of an alarm record (R191, R193). -/
inductive ClearMode where
  | retry
  | latch
deriving DecidableEq, Repr

/-- The phase a HEAD_JAM names, in the order of R204. -/
inductive JamPhase where
  | form
  | drive
  | retract
  | home
deriving DecidableEq, Repr

/-- What a raising names (R191). -/
inductive Source where
  | station (k : Nat)
  | counter (n : Nat)
  | slot (n : Nat)
  | phase (p : JamPhase)
  | axis (a : Axis)
  | board (n : Nat)
deriving DecidableEq, Repr

/-- An alarm record (R191). `condition` is true for PRESENT. -/
structure AlarmRecord where
  state : AlarmState
  reaction : Reaction
  clearMode : ClearMode
  condition : Bool
  retryTimer : Option Nat
  firstSource : Option Source
  lastSource : Option Source
  occurrences : Nat
deriving DecidableEq, Repr

/-! ## Control port (R199, R202) -/

/-- The reply codes (R202). -/
inductive ReplyCode where
  | ok
  | pending
  | refusedState
  | refusedRange
  | notHeld
  | tableFull
  | noRecord
  | unknownCommand
  | frameError
deriving DecidableEq, Repr

/-- The pending reply: its code, the command it answers and its payload (R199). -/
structure Reply where
  code : ReplyCode
  command : Byte
  payload : List Byte
deriving DecidableEq, Repr

/-- The control port's own state (spec 11). `awaitsRise` holds while the part waits for CS_N, found
low at the rising edge of POR_N, to rise (R208). -/
structure Port where
  reply : Reply
  frameError : Bool
  awaitsRise : Bool
deriving DecidableEq, Repr

/-! ## Settings (R203) -/

/-- The settings held once for each axis (R135, R156). -/
structure AxisSettings where
  softMin : Nat
  softMax : Nat
  settleWindow : Nat
  lockWindow : Nat
  lockCount : Nat
  unlockCount : Nat
  lockTimeout : Nat
  loadPosition : Nat
  dumpPosition : Nat
deriving DecidableEq, Repr

/-- The settings of the part (R42, R104, R114, R135, R156, R179, R196). The reaction and clear mode
of each alarm kind stand in its alarm record. -/
structure Settings where
  runLength : Nat
  alignRequired : Bool
  transferTimeout : Nat
  clampTimeout : Nat
  forwardProtection : Nat
  backwardProtection : Nat
  indexTimeout : Nat
  badThreshold : Nat
  recallLimit : Nat
  centreX : Nat
  centreY : Nat
  homeX : Nat
  homeY : Nat
  homeS : Nat
  homeR : Nat
  quarter : Nat
  axis : Quad AxisSettings
  formTimeout : Nat
  driveTimeout : Nat
  clinchTimeout : Nat
  retractTimeout : Nat
  stroke : StrokeSettings
  retryInterval : Nat
deriving DecidableEq, Repr

/-! ## Lines -/

/-- The levels of the input lines whose both edges are commands (spec 11, machine lines). `true` is
high. -/
structure Inputs where
  porN : Bool
  levels : LineLevels
deriving DecidableEq, Repr

/-- The output lines that hold a level of their own. `true` is high. -/
structure Outputs where
  rejectGate : Bool
  former : Bool
  headDrive : Bool
  profile : Profile
  transferReq : Bool
  clamp : Bool
deriving DecidableEq, Repr

/-! ## The whole -/

/-- The state of the part. `pending` is the model's queue of commands (log 2) and `freeCount` the
model's counter of free payload bytes (log 11); every other field is the spec's. -/
structure State where
  table : List (Option Placement)
  boards : Pair BoardRecord
  nextNumber : Nat
  runCounter : Nat
  exchange : Exchange
  stations : List Station
  stretch : List Clip
  chain : Chain
  conditions : List ClipCondition
  slots : Pair MoveSlot
  alternation : Parity
  axes : Quad AxisRecord
  head : Head
  drive : Drive
  machine : MachineRecord
  alarms : PerKind AlarmRecord
  port : Port
  settings : Settings
  inputs : Inputs
  outputs : Outputs
  freeCount : Nat
  pending : List Instr
deriving DecidableEq, Repr

/-- The reasons the model stops with a fault. -/
inductive Fault where
  /-- Raised by SPROCKET_EDGE and ADVANCE_TIMEOUT of a station number outside 1..72: the part has no
  such line (R44, R51). Safe: no such event reaches the part (log 23). -/
  | noSuchStationLine (k : Nat)
deriving DecidableEq, Repr

/-- The reasons the model refuses a command. -/
inductive Refusal where
  /-- Raised by no meaning of this model: every row of the table has its meaning. Safe. -/
  | notModelled (mnemonic : String)
deriving DecidableEq, Repr

/-! ## Power-on values -/

/-- R43: both board records after power-on. -/
def BoardRecord.powerOn : BoardRecord :=
  { number := 0, phase := .free, tableState := .notLoaded, correction := none, inBoard := 0,
    inserted := 0, skipped := 0, outOfTravel := 0, missed := 0, interrupted := 0, recalls := 0,
    deferrals := 0 }

/-- R43: the exchange record after power-on and RESET. DESIGN CHOICE (log 9): its kind is UNLOAD. -/
def Exchange.powerOn : Exchange :=
  { leg := .idle, kind := .unload, leaving := none, incoming := none, waiting := false,
    transferTimer := none, clampTimer := none }

/-- R44: a station record after power-on. -/
def Station.powerOn : Station :=
  { state := .offline, group := 0, remaining := 0, committed := 0, lowLevel := 20, low := false,
    retryLimit := 1, advanceTimeout := 60, missWindow := [], missThreshold := 6,
    consecutiveMisses := 0, feed := .idle, retriesUsed := 0, work := none, advanceTimer := none }

/-- R90: a clip record after power-on and RESET. -/
def Clip.unknown : Clip :=
  { state := .unknown, call := none, verify := none, dump := false, clipId := none }

/-- R91, R98, R108: the chain record after power-on and RESET. -/
def Chain.powerOn : Chain :=
  { indexState := .idle, indexTimer := none, markSeen := false, counter := 0,
    syncState := .unlocked, missRun := 0, tolerance := 0, candidateRun := 0 }

/-- R105: a clip-condition entry after power-on and after CLEAR (R107). -/
def ClipCondition.sound : ClipCondition := { state := .ok, failCount := 0 }

/-- R157: a move slot after power-on. -/
def MoveSlot.powerOn : MoveSlot :=
  { state := .free, position := none, kind := none, job := none, targets := none }

/-- R150: an axis record after power-on. -/
def AxisRecord.powerOn : AxisRecord :=
  { state := .idle, target := 0, lastPosition := none, inRun := 0, outRun := 0, lockTimer := none }

/-- R158, R180: the head cycle record after power-on and RESET. -/
def Head.powerOn : Head :=
  { state := .idle, kind := none, slot := none, job := none, plan := none, formed := false,
    cleared := false, held := .none, peak := 0, phaseTimer := none }

/-- R179: the default settings of a stroke. Currents are in units of 0.05 A. -/
def StrokeSettings.default : StrokeSettings :=
  { offTime := 50, stallLimit := 40, overcurrentThreshold := 140, filterTime := 2,
    openThreshold := 4, openSamples := 16 }

/-- R169, R180: the drive record after power-on. -/
def Drive.powerOn : Drive :=
  { stroke := .none, chop := .on, chopCount := 0, samples := 0, openRun := true, filter := none,
    offTimer := none, strikes := 0, lockout := false, inForce := StrokeSettings.default }

/-- R198: a clear alarm record with the given reaction and clear mode. -/
def AlarmRecord.fresh (reaction : Reaction) (clearMode : ClearMode) : AlarmRecord :=
  { state := .clear, reaction := reaction, clearMode := clearMode, condition := false,
    retryTimer := none, firstSource := none, lastSource := none, occurrences := 0 }

/-- R191: the alarm table after power-on, with the default reactions and clear modes. -/
def alarmsPowerOn : PerKind AlarmRecord :=
  { stationLow := .fresh .note .retry
    stationEmpty := .fresh .note .retry
    stationJam := .fresh .pause .latch
    stationSuspect := .fresh .note .latch
    starve := .fresh .note .retry
    chainJam := .fresh .halt .latch
    chainSync := .fresh .note .retry
    placementMissed := .fresh .note .latch
    headJam := .fresh .halt .latch
    clinchStall := .fresh .pause .latch
    clinchOvercurrent := .fresh .halt .latch
    clinchOpen := .fresh .pause .latch
    axisFollow := .fresh .halt .latch
    boardTransfer := .fresh .pause .latch
    supplyLow := .fresh .halt .retry
    overTemp := .fresh .halt .retry }

/-- R135, R156: the default settings of one axis with its default dump position. -/
def AxisSettings.default (dump : Nat) : AxisSettings :=
  { softMin := 0, softMax := 262143, settleWindow := 64, lockWindow := 4, lockCount := 4,
    unlockCount := 2, lockTimeout := 400, loadPosition := 0, dumpPosition := dump }

/-- The default of every setting (R42, R104, R114, R135, R156, R179, R196). -/
def Settings.default : Settings :=
  { runLength := 0, alignRequired := true, transferTimeout := 3000, clampTimeout := 200,
    forwardProtection := 2, backwardProtection := 2, indexTimeout := 250, badThreshold := 3,
    recallLimit := 2, centreX := 30000, centreY := 22500, homeX := 0, homeY := 0, homeS := 0,
    homeR := 0, quarter := 4096,
    axis := { x := .default 2000, y := .default 2000, r := .default 0, s := .default 200 },
    formTimeout := 80, driveTimeout := 80, clinchTimeout := 120, retractTimeout := 100,
    stroke := StrokeSettings.default, retryInterval := 500 }

/-- The stored output lines at their power-on levels (R43, R124, R180). -/
def Outputs.powerOn : Outputs :=
  { rejectGate := false, former := false, headDrive := false, profile := .inward,
    transferReq := false, clamp := false }

/-- DESIGN CHOICE (log 8): the line levels of State.reset, no line at a fault level and no board in
the clamp. -/
def LineLevels.quiet : LineLevels :=
  { stopN := true, overtemp := false, supplyOk := true, clamped := false }

/-- R208: the pending reply after power-on is OK for NOP with an empty payload. -/
def Port.powerOn : Port :=
  { reply := { code := .ok, command := 0, payload := [] }, frameError := false,
    awaitsRise := false }

/-- The part after power-on (R208) with no line at its fault level (log 8). -/
def State.reset : State :=
  { table := List.replicate Config.slotCount none
    boards := { even := BoardRecord.powerOn, odd := BoardRecord.powerOn }
    nextNumber := 0
    runCounter := 0
    exchange := Exchange.powerOn
    stations := List.replicate Config.stationCount Station.powerOn
    stretch := List.replicate Config.stretchLength Clip.unknown
    chain := Chain.powerOn
    conditions := List.replicate Config.clipCount ClipCondition.sound
    slots := { even := MoveSlot.powerOn, odd := MoveSlot.powerOn }
    alternation := .even
    axes := { x := AxisRecord.powerOn, y := AxisRecord.powerOn, r := AxisRecord.powerOn,
              s := AxisRecord.powerOn }
    head := Head.powerOn
    drive := Drive.powerOn
    machine := { state := .start, returnState := none }
    alarms := alarmsPowerOn
    port := Port.powerOn
    settings := Settings.default
    inputs := { porN := true, levels := LineLevels.quiet }
    outputs := Outputs.powerOn
    freeCount := 0
    pending := [] }

end Sys2Proof.Machine
end

