-- ==== Sys2Proof/Machine/Access.lean ====
section
/-! DEFINITION. Reading and writing one record of State: by parity, by axis, by alarm kind, by slot,
station and position. Each collection has one reader and one writer, and every rule goes through
them. A write to an index that the collection does not have changes nothing. -/

namespace Sys2Proof.Machine

/-! ## Parities, axes and alarm kinds -/

/-- The parity of a board number: the number modulo 2 (R25). -/
def parityOf (number : Nat) : Parity := if number % 2 = 0 then .even else .odd

/-- The other of the two parities. -/
def otherParity : Parity → Parity
  | .even => .odd
  | .odd => .even

/-- EVEN is 0 and ODD is 1 (R199). -/
def parityCode : Parity → Nat
  | .even => 0
  | .odd => 1

/-- The parity that a code names (R199); any other code names none. -/
def parityOfCode : Nat → Option Parity
  | 0 => some .even
  | 1 => some .odd
  | _ => none

/-- The axes are 0 to 3 in the order X, Y, R, S (R199). -/
def axisCode : Axis → Nat
  | .x => 0
  | .y => 1
  | .r => 2
  | .s => 3

/-- The axis that a code names (R199). -/
def axisOfCode : Nat → Option Axis
  | 0 => some .x
  | 1 => some .y
  | 2 => some .r
  | 3 => some .s
  | _ => none

/-- The alarm kind that a code names: the order of the table of R191 (R199). -/
def kindOfCode : Nat → Option AlarmKind
  | 0 => some .stationLow
  | 1 => some .stationEmpty
  | 2 => some .stationJam
  | 3 => some .stationSuspect
  | 4 => some .starve
  | 5 => some .chainJam
  | 6 => some .chainSync
  | 7 => some .placementMissed
  | 8 => some .headJam
  | 9 => some .clinchStall
  | 10 => some .clinchOvercurrent
  | 11 => some .clinchOpen
  | 12 => some .axisFollow
  | 13 => some .boardTransfer
  | 14 => some .supplyLow
  | 15 => some .overTemp
  | _ => none

def Pair.get {α : Type} (q : Pair α) : Parity → α
  | .even => q.even
  | .odd => q.odd

def Pair.put {α : Type} (q : Pair α) (p : Parity) (v : α) : Pair α :=
  match p with
  | .even => { q with even := v }
  | .odd => { q with odd := v }

def Pair.map {α β : Type} (q : Pair α) (f : α → β) : Pair β :=
  { even := f q.even, odd := f q.odd }

def Quad.get {α : Type} (q : Quad α) : Axis → α
  | .x => q.x
  | .y => q.y
  | .r => q.r
  | .s => q.s

def Quad.put {α : Type} (q : Quad α) (a : Axis) (v : α) : Quad α :=
  match a with
  | .x => { q with x := v }
  | .y => { q with y := v }
  | .r => { q with r := v }
  | .s => { q with s := v }

def Quad.map {α β : Type} (q : Quad α) (f : α → β) : Quad β :=
  { x := f q.x, y := f q.y, r := f q.r, s := f q.s }

/-- The given test holds on each of the four axes. -/
def Quad.all {α : Type} (q : Quad α) (f : α → Bool) : Bool := f q.x && f q.y && f q.r && f q.s

def PerKind.get {α : Type} (t : PerKind α) : AlarmKind → α
  | .stationLow => t.stationLow
  | .stationEmpty => t.stationEmpty
  | .stationJam => t.stationJam
  | .stationSuspect => t.stationSuspect
  | .starve => t.starve
  | .chainJam => t.chainJam
  | .chainSync => t.chainSync
  | .placementMissed => t.placementMissed
  | .headJam => t.headJam
  | .clinchStall => t.clinchStall
  | .clinchOvercurrent => t.clinchOvercurrent
  | .clinchOpen => t.clinchOpen
  | .axisFollow => t.axisFollow
  | .boardTransfer => t.boardTransfer
  | .supplyLow => t.supplyLow
  | .overTemp => t.overTemp

def PerKind.put {α : Type} (t : PerKind α) (k : AlarmKind) (v : α) : PerKind α :=
  match k with
  | .stationLow => { t with stationLow := v }
  | .stationEmpty => { t with stationEmpty := v }
  | .stationJam => { t with stationJam := v }
  | .stationSuspect => { t with stationSuspect := v }
  | .starve => { t with starve := v }
  | .chainJam => { t with chainJam := v }
  | .chainSync => { t with chainSync := v }
  | .placementMissed => { t with placementMissed := v }
  | .headJam => { t with headJam := v }
  | .clinchStall => { t with clinchStall := v }
  | .clinchOvercurrent => { t with clinchOvercurrent := v }
  | .clinchOpen => { t with clinchOpen := v }
  | .axisFollow => { t with axisFollow := v }
  | .boardTransfer => { t with boardTransfer := v }
  | .supplyLow => { t with supplyLow := v }
  | .overTemp => { t with overTemp := v }

def PerKind.map {α β : Type} (t : PerKind α) (f : α → β) : PerKind β :=
  { stationLow := f t.stationLow, stationEmpty := f t.stationEmpty, stationJam := f t.stationJam,
    stationSuspect := f t.stationSuspect, starve := f t.starve, chainJam := f t.chainJam,
    chainSync := f t.chainSync, placementMissed := f t.placementMissed, headJam := f t.headJam,
    clinchStall := f t.clinchStall, clinchOvercurrent := f t.clinchOvercurrent,
    clinchOpen := f t.clinchOpen, axisFollow := f t.axisFollow, boardTransfer := f t.boardTransfer,
    supplyLow := f t.supplyLow, overTemp := f t.overTemp }

/-- All sixteen alarm kinds (R191). -/
def alarmKinds : List AlarmKind :=
  [.stationLow, .stationEmpty, .stationJam, .stationSuspect, .starve, .chainJam, .chainSync,
   .placementMissed, .headJam, .clinchStall, .clinchOvercurrent, .clinchOpen, .axisFollow,
   .boardTransfer, .supplyLow, .overTemp]

/-- The station numbers 1..72 (R44). -/
def stationNumbers : List Nat := List.range' 1 Config.stationCount

/-! ## Records of State -/

/-- The placement record in slot `n`; absent for a FREE slot and for a number above 383 (R1). -/
def State.slot? (s : State) (n : Nat) : Option Placement := (s.table[n]?).join

def State.putSlot (s : State) (n : Nat) (r : Option Placement) : State :=
  { s with table := s.table.set n r }

def State.board (s : State) (p : Parity) : BoardRecord := s.boards.get p

def State.putBoard (s : State) (p : Parity) (b : BoardRecord) : State :=
  { s with boards := s.boards.put p b }

/-- The record of station `k`, 1..72 (R44). -/
def State.station? (s : State) (k : Nat) : Option Station :=
  if k = 0 then none else s.stations[k - 1]?

def State.putStation (s : State) (k : Nat) (st : Station) : State :=
  if k = 0 then s else { s with stations := s.stations.set (k - 1) st }

/-- The clip record at position `p`, 0..80 (R67). -/
def State.clip (s : State) (p : Nat) : Clip := s.stretch.getD p Clip.unknown

def State.putClip (s : State) (p : Nat) (c : Clip) : State :=
  { s with stretch := s.stretch.set p c }

/-- The clip-condition entry of clip `id`, 0..199 (R105). -/
def State.condition (s : State) (id : Nat) : ClipCondition :=
  s.conditions.getD id ClipCondition.sound

def State.putCondition (s : State) (id : Nat) (c : ClipCondition) : State :=
  { s with conditions := s.conditions.set id c }

def State.moveSlot (s : State) (p : Parity) : MoveSlot := s.slots.get p

def State.putMoveSlot (s : State) (p : Parity) (m : MoveSlot) : State :=
  { s with slots := s.slots.put p m }

def State.axis (s : State) (a : Axis) : AxisRecord := s.axes.get a

def State.putAxis (s : State) (a : Axis) (r : AxisRecord) : State :=
  { s with axes := s.axes.put a r }

def State.alarm (s : State) (k : AlarmKind) : AlarmRecord := s.alarms.get k

def State.putAlarm (s : State) (k : AlarmKind) (r : AlarmRecord) : State :=
  { s with alarms := s.alarms.put k r }

/-- The settings of one axis (R135, R156). -/
def State.axisSettings (s : State) (a : Axis) : AxisSettings := s.settings.axis.get a

end Sys2Proof.Machine
end

