-- ==== Sys2Proof/Machine/Flags.lean ====
section
/-! DEFINITION. What the rules compute from the records without storing it: which placements are
carried, the precedence relation, the reports of the machine record, the arbiter's claims, the output
lines that follow a record, and the status byte. Each is a view of State (log 18). -/

namespace Sys2Proof.Machine

/-! ## Boards (R24, R25, R32) -/

/-- A board record whose phase is not FREE is an open board (R24). -/
def State.isOpen (s : State) (p : Parity) : Bool := decide ((s.board p).phase ≠ .free)

/-- The parities of the open boards. -/
def State.openBoards (s : State) : List Parity := [Parity.even, Parity.odd].filter s.isOpen

/-- Open board `p` is older than open board `q`: their numbers are n and n+1 modulo 65536 (R25). -/
def State.isOlder (s : State) (p q : Parity) : Bool :=
  s.isOpen p && s.isOpen q && decide ((s.board q).number = ((s.board p).number + 1) % 65536)

/-- The open boards, the older first (R25). -/
def State.boardsByAge (s : State) : List Parity :=
  if s.isOlder .odd .even then s.openBoards.reverse else s.openBoards

/-- The board numbered `number` is open (R125: "open with number c"). -/
def State.isOpenNumber (s : State) (number : Nat) : Bool :=
  s.isOpen (parityOf number) && decide ((s.board (parityOf number)).number = number)

/-- The board numbered `number` is open and ALIGNED on the table (R125, R160). -/
def State.isAligned (s : State) (number : Nat) : Bool :=
  s.isOpenNumber number && decide ((s.board (parityOf number)).tableState = .aligned)

/-- A board is on the table while AWAITING_ALIGN, ALIGNED or UNLOADING (R32). -/
def State.onTable (s : State) (p : Parity) : Bool :=
  s.isOpen p && decide ((s.board p).tableState ≠ .notLoaded)

/-- The table is empty when neither record has a board on it (R32). -/
def State.tableEmpty (s : State) : Bool := !s.onTable .even && !s.onTable .odd

/-- The older open board that is NOT_LOADED (R36). -/
def State.nextToLoad (s : State) : Option Parity :=
  s.boardsByAge.find? fun p => decide ((s.board p).tableState = .notLoaded)

/-! ## Placement states (R4) -/

/-- CALLABLE and CALLED (R4). -/
def PlacementState.unresolved : PlacementState → Bool
  | .callable => true
  | .called => true
  | _ => false

/-- INSERTED, SKIPPED, MISSED and INTERRUPTED (R4). -/
def PlacementState.resolved : PlacementState → Bool
  | .inserted => true
  | .skipped => true
  | .missed => true
  | .interrupted => true
  | _ => false

/-- The status slot of placement `n` for parity `p` (R3). -/
def State.statusOf (s : State) (n : Nat) (p : Parity) : Option StatusSlot :=
  (s.slot? n).map fun r => r.status.get p

/-- The admitted slots, in slot order (R1). -/
def State.admitted (s : State) : List Nat :=
  s.table.zipIdx.filterMap fun e => e.1.map fun _ => e.2

/-- Every placement with every parity, for the admitted slots. -/
def State.pairs (s : State) : List (Nat × Parity) :=
  s.admitted.flatMap fun n => [(n, Parity.even), (n, Parity.odd)]

/-- Every placement of the board is resolved (R31): records that are NOT_IN_BOARD are none of its. -/
def State.allResolved (s : State) (p : Parity) : Bool :=
  s.table.all fun e =>
    match e with
    | none => true
    | some r => (r.status.get p).state.resolved || decide ((r.status.get p).state = .notInBoard)

/-- Some placement of the board is CALLABLE (R31). -/
def State.anyCallable (s : State) (p : Parity) : Bool :=
  s.table.any fun e =>
    match e with
    | none => false
    | some r => decide ((r.status.get p).state = .callable)

/-! ## Carrying (R69) -/

/-- The parity of the board that a clip's call names (R67). -/
def Call.parity (c : Call) : Parity := parityOf c.board

/-- A clip carries while ASSIGNED, LOADED, or VERIFIED with dump NO (R69). -/
def Clip.carrying (c : Clip) : Bool :=
  match c.state with
  | .assigned => true
  | .loaded => true
  | .verified => !c.dump
  | _ => false

/-- The clip carries placement `n` for the board of parity `p` (R69). -/
def Clip.carries (c : Clip) (n : Nat) (p : Parity) : Bool :=
  c.carrying &&
    match c.call with
    | some k => decide (k.placement = n) && decide (k.parity = p)
    | none => false

/-- Placement `n` is carried in the board of parity `p` (R69). -/
def State.carriedIn (s : State) (n : Nat) (p : Parity) : Bool := s.stretch.any fun c => c.carries n p

/-- Placement `n` is carried in either board (R13, R19). -/
def State.carried (s : State) (n : Nat) : Bool := s.carriedIn n .even || s.carriedIn n .odd

/-- Placement `n` is carried in the board of parity `p` by the clip at 79 or 80 (R118). -/
def State.carriedAtHead (s : State) (n : Nat) (p : Parity) : Bool :=
  (s.clip 79).carries n p || (s.clip 80).carries n p

/-- The number of carrying clips, 0..81 (R69). -/
def State.carryingCount (s : State) : Nat := s.stretch.countP Clip.carrying

/-! ## Precedence (R75) and the law of the reject gate (R118) -/

/-- Placement `p` in board `b` must precede placement `q` in board `c` (R75). -/
def State.mustPrecede (s : State) (p : Nat) (b : Parity) (q : Nat) (c : Parity) : Bool :=
  s.isOpen b && s.isOpen c &&
    match s.slot? p, s.slot? q with
    | some rp, some rq =>
      (rp.status.get b).state.unresolved && (rq.status.get c).state.unresolved &&
        (s.isOlder b c ||
          (decide (b = c) && decide (rp.tier < rq.tier) && !(rp.status.get b).unordered &&
            !(rq.status.get c).unordered))
    | _, _ => false

/-- Every pair that must precede (q, c) is carried by the clip at 79 or 80: the pass condition of
R118, and the law that R17 and R22 check. -/
def State.predecessorsAtHead (s : State) (q : Nat) (c : Parity) : Bool :=
  s.pairs.all fun e => !s.mustPrecede e.1 e.2 q c || s.carriedAtHead e.1 e.2

/-- The clip carries nothing, or every predecessor of what it carries is at 79 or 80 (R118). -/
def State.gateLawFor (s : State) (c : Clip) : Bool :=
  !c.carrying ||
    match c.call with
    | some k => s.predecessorsAtHead k.placement k.parity
    | none => true

/-- The law of R118 at positions 79 and 80: the check of R17. -/
def State.gateLaw (s : State) : Bool := s.gateLawFor (s.clip 79) && s.gateLawFor (s.clip 80)

/-- Some clip at 79 or 80 carries a placement that (p, b) must precede: check 3 of R22. -/
def State.precedesAtHead (s : State) (p : Nat) (b : Parity) : Bool :=
  [s.clip 79, s.clip 80].any fun c =>
    c.carrying &&
      match c.call with
      | some k => s.mustPrecede p b k.placement k.parity
      | none => false

/-! ## Stations (R47) and the index gate (R93) -/

/-- A station is available when it is READY and remaining is above committed (R47). -/
def Station.available (st : Station) : Bool :=
  decide (st.state = .ready) && decide (st.committed < st.remaining)

/-- The clip at station `k`'s position is ASSIGNED with serving station `k` (R49, R93). -/
def State.clipWaits (s : State) (k : Nat) : Bool :=
  decide ((s.clip k).state = .assigned) &&
    match (s.clip k).call with
    | some c => decide (c.station = k)
    | none => false

/-- The index gate, condition 3 of R93. -/
def State.gateOpen (s : State) : Bool := stationNumbers.all fun k => !s.clipWaits k

/-! ## The machine record's reports (R181) -/

/-- The machine is RUNNING or DRAINING. -/
def State.working (s : State) : Bool :=
  match s.machine.state with
  | .running => true
  | .draining => true
  | _ => false

/-- The machine is PAUSING or PAUSED. -/
def State.pausing (s : State) : Bool :=
  match s.machine.state with
  | .pausing => true
  | .paused => true
  | _ => false

/-- The machine is in START or STOPPED. -/
def State.standing (s : State) : Bool :=
  match s.machine.state with
  | .start => true
  | .stopped => true
  | _ => false

/-- Board open: some board is open (R28, R181). -/
def State.boardOpen (s : State) : Bool := s.isOpen .even || s.isOpen .odd

/-- Carrying clips: some clip carries (R69, R181). -/
def State.carryingClips (s : State) : Bool := s.stretch.any Clip.carrying

/-- Index in flight: the index state is INDEXING (R91, R181). -/
def State.indexInFlight (s : State) : Bool := decide (s.chain.indexState = .indexing)

/-- Feeds in flight: the stations whose feed is ADVANCING (R181). -/
def State.feedsInFlight (s : State) : Nat := s.stations.countP fun st => decide (st.feed = .advancing)

/-- Head in flight: HOMING, FORM, DRIVE or RETRACT, or CLINCH with held NONE (R158). -/
def Head.inFlight (h : Head) : Bool :=
  match h.state with
  | .idle => false
  | .clinch => decide (h.held = .none)
  | _ => true

/-- Axes moving: the axes whose lock timer runs (R150, R181). -/
def State.axesMoving (s : State) : Nat :=
  [s.axes.x, s.axes.y, s.axes.r, s.axes.s].countP fun a => a.lockTimer.isSome

/-- An exchange is in flight while its leg is not IDLE (R32). -/
def State.exchangeInFlight (s : State) : Bool := decide (s.exchange.leg ≠ .idle)

/-- The machine is quiet (R181). -/
def State.quiet (s : State) : Bool :=
  !s.indexInFlight && decide (s.feedsInFlight = 0) && !s.head.inFlight && decide (s.axesMoving = 0)

/-- All four axes are LOCKED (R34, R160, R162). -/
def State.allLocked (s : State) : Bool := s.axes.all fun a => decide (a.state = .locked)

/-! ## Alarms (R194, R197) -/

/-- Some record that the test picks is not CLEAR. -/
def State.anyAlarm (s : State) (test : AlarmRecord → Bool) : Bool :=
  alarmKinds.any fun k => decide ((s.alarm k).state ≠ .clear) && test (s.alarm k)

/-- A HALT-reaction record is not CLEAR: RUN and RECOVER are refused (R183, R190). -/
def State.haltAlarm (s : State) : Bool := s.anyAlarm fun r => decide (r.reaction = .halt)

/-- A PAUSE- or HALT-reaction record is not CLEAR: RESUME is refused (R186). -/
def State.stopAlarm (s : State) : Bool := s.anyAlarm fun r => decide (r.reaction ≠ .note)

/-! ## The drive arbiter (R177, R178) -/

/-- Claim 1: the machine is HALTED, or STOP_N is low. -/
def State.claimHalt (s : State) : Bool :=
  decide (s.machine.state = .halted) || !s.inputs.levels.stopN

/-- Claim 2: OVERTEMP is high. -/
def State.claimOvertemp (s : State) : Bool := s.inputs.levels.overtemp

/-- Claim 3: from the filter's expiry until the CLINCH_OVERCURRENT record is CLEAR. The expiry is the
only raising of that kind, so the claim stands while the record is not CLEAR (R174). -/
def State.claimOvercurrent (s : State) : Bool := decide ((s.alarm .clinchOvercurrent).state ≠ .clear)

/-- Claim 4: SUPPLY_OK is low. -/
def State.claimSupply (s : State) : Bool := !s.inputs.levels.supplyOk

/-- Claim 5: lockout is SET. -/
def State.claimLockout (s : State) : Bool := s.drive.lockout

/-- The drive is available while none of claims 1 to 5 is present (R178). -/
def State.driveAvailable (s : State) : Bool :=
  !s.claimHalt && !s.claimOvertemp && !s.claimOvercurrent && !s.claimSupply && !s.claimLockout

/-- BRIDGE_ON: the highest present claim decides, and with no claim it is low (R177). -/
def State.bridgeOn (s : State) : Bool :=
  s.inputs.porN &&
    (if s.claimHalt then false
     else if s.claimOvertemp then false
     else if s.claimOvercurrent then false
     else if s.claimSupply then false
     else if s.claimLockout then false
     else
      match s.drive.stroke, s.drive.chop with
      | .commanded, .on => true
      | .commanded, .offTime => false
      | .none, _ => false)

/-! ## Output lines that follow a record

While POR_N is low every output stands at its power-on level (R208). -/

/-- INDEX is high exactly while the state is INDEXING (R91). -/
def State.indexLine (s : State) : Bool := s.inputs.porN && s.indexInFlight

/-- FEED k is high for the whole of one advance (R51). -/
def State.feedLine (s : State) (k : Nat) : Bool :=
  s.inputs.porN &&
    match s.station? k with
    | some st => decide (st.feed = .advancing)
    | none => false

/-- COARSE in SLEW, FINE otherwise (R150). `true` is COARSE. -/
def State.coarseLine (s : State) (a : Axis) : Bool :=
  s.inputs.porN && decide ((s.axis a).state = .slew)

/-- The target presented on the port of an axis (R150). -/
def State.targetOutput (s : State) (a : Axis) : Nat := if s.inputs.porN then (s.axis a).target else 0

/-- ALARM_N is low while the machine is in START or any record is not CLEAR (R197). `true` is high. -/
def State.alarmN (s : State) : Bool :=
  s.inputs.porN && decide (s.machine.state ≠ .start) && !s.anyAlarm fun _ => true

/-! ## Status byte (R201) -/

/-- The code of the machine state in bits 4..2 (R201), its position in the list of R181. -/
def MachineState.code : MachineState → Nat
  | .start => 0
  | .stopped => 1
  | .running => 2
  | .pausing => 3
  | .paused => 4
  | .draining => 5
  | .halted => 6

/-- Bit `i` of a byte when `b` is set. -/
def bitAt (b : Bool) (i : Nat) : Nat := if b then 2 ^ i else 0

/-- A board record's table state is AWAITING_ALIGN (R201, BOARD_WAIT). -/
def State.boardWait (s : State) : Bool :=
  decide ((s.board .even).tableState = .awaitingAlign) ||
    decide ((s.board .odd).tableState = .awaitingAlign)

/-- The status byte (R201). -/
def State.statusByte (s : State) : Byte :=
  BitVec.ofNat 8
    (bitAt (s.anyAlarm fun _ => true) 7 + bitAt s.haltAlarm 6 + bitAt s.port.frameError 5 +
      4 * s.machine.state.code + bitAt s.boardWait 1 +
      bitAt (decide ((s.alarm .starve).state ≠ .clear)) 0)

end Sys2Proof.Machine
end

