-- ==== Sys2Proof/Machine/Ops.lean ====
section
/-! DEFINITION. The shared operations over the records: the phase rule and the board counts, the
requests to the placement table, the alarm records, the marks on the clip records, the stations'
conditions, the stroke, and HALT with the reactions. Every meaning is built from these. -/

namespace Sys2Proof.Machine

/-- Count one more, stopping at `limit` (00, Saturating counts). -/
abbrev saturate (limit n : Nat) : Nat := min limit (n + 1)

/-! ## The phase rule and the board counts (R29, R31) -/

/-- The phase that the condition found gives to an open board that is not COMPLETE (R31). -/
def State.phaseFound (s : State) (p : Parity) : BoardPhase :=
  if s.allResolved p && decide ((s.board p).tableState = .aligned) then .complete
  else if s.anyCallable p then .calling
  else .calledOut

/-- The phase evaluation of R31: a FREE or COMPLETE record keeps its phase. -/
def State.evalPhase (s : State) (p : Parity) : State :=
  match (s.board p).phase with
  | .free => s
  | .complete => s
  | _ => s.putBoard p { s.board p with phase := s.phaseFound p }

/-- The reports of the placement table (R29). -/
inductive Report where
  | call
  | returned
  | deferral
  | miss
  | insertion
  | interruption
  | skip
  | skipTravel
  | retirement
deriving DecidableEq, Repr

/-- The counts a report raises, each stopping at 65535; a retirement lowers in-board (R29, R30). -/
def BoardRecord.count (b : BoardRecord) : Report → BoardRecord
  | .call => b
  | .returned => { b with recalls := saturate 65535 b.recalls }
  | .deferral =>
    { b with recalls := saturate 65535 b.recalls, deferrals := saturate 65535 b.deferrals }
  | .miss => { b with missed := saturate 65535 b.missed }
  | .insertion => { b with inserted := saturate 65535 b.inserted }
  | .interruption => { b with interrupted := saturate 65535 b.interrupted }
  | .skip => { b with skipped := saturate 65535 b.skipped }
  | .skipTravel =>
    { b with skipped := saturate 65535 b.skipped, outOfTravel := saturate 65535 b.outOfTravel }
  | .retirement => { b with inBoard := b.inBoard - 1 }

/-- A report reaches the board supervisor: the counts, then the phase evaluation (R29). -/
def State.report (s : State) (p : Parity) (r : Report) : State :=
  (s.putBoard p ((s.board p).count r)).evalPhase p

/-! ## Requests to the placement table (R6 to R13) -/

/-- Change the status slot of placement `n` for parity `p`. -/
def State.modifyStatus (s : State) (n : Nat) (p : Parity) (f : StatusSlot → StatusSlot) : State :=
  match s.slot? n with
  | none => s
  | some r => s.putSlot n (some { r with status := r.status.put p (f (r.status.get p)) })

/-- A HOLD_PENDING hold becomes HELD once no clip carries the placement (R13). -/
def State.grantHold (s : State) (n : Nat) : State :=
  match s.slot? n with
  | none => s
  | some r =>
    if r.hold = .holdPending ∧ s.carried n = false then s.putSlot n (some { r with hold := .held })
    else s

/-- A request that leaves CALLED: applied where the board is open and the state is CALLED, ignored
otherwise (R12). Log 12: the hold is granted with the request, and an ignored request leaves it. -/
def State.request (s : State) (n : Nat) (p : Parity) (f : StatusSlot → StatusSlot) (r : Report) :
    State :=
  if s.isOpen p then
    match s.statusOf n p with
    | none => s
    | some st =>
      if st.state = .called then ((s.modifyStatus n p f).grantHold n).report p r else s
  else s

/-- The call request (R6): CALLABLE becomes CALLED. -/
def State.callRequest (s : State) (n : Nat) (p : Parity) : State :=
  (s.modifyStatus n p fun st => { st with state := .called }).report p .call

/-- The uncounted recall (R7). -/
def State.recallUncounted (s : State) (n : Nat) (p : Parity) : State :=
  s.request n p (fun st => { st with state := .callable }) .returned

/-- The deferral (R7): deferrals rise by one and stay at 15 once there. -/
def State.recallDeferral (s : State) (n : Nat) (p : Parity) : State :=
  s.request n p
    (fun st => { st with state := .callable, deferrals := saturate 15 st.deferrals }) .deferral

/-- The counted recall takes attempts above the recall limit (R7, R8). -/
def State.exceedsLimit (s : State) (n : Nat) (p : Parity) : Bool :=
  s.isOpen p &&
    match s.statusOf n p with
    | none => false
    | some st => decide (st.state = .called) && decide (s.settings.recallLimit < st.attempts + 1)

/-- The counted recall (R7), or the miss that R8 puts in its place. The raising of PLACEMENT_MISSED
is made by the caller (R8, `State.exceedsLimit`). -/
def State.recallCounted (s : State) (n : Nat) (p : Parity) : State :=
  if s.exceedsLimit n p then
    s.request n p (fun st => { st with state := .missed, attempts := st.attempts + 1 }) .miss
  else
    s.request n p (fun st => { st with state := .callable, attempts := st.attempts + 1 }) .returned

/-- The insertion request with the cycle's peak (R9). -/
def State.insertionRequest (s : State) (n : Nat) (p : Parity) (peak : Nat) : State :=
  s.request n p (fun st => { st with state := .inserted, clinchPeak := some peak }) .insertion

/-- The interruption request (R10). -/
def State.interruptionRequest (s : State) (n : Nat) (p : Parity) : State :=
  s.request n p (fun st => { st with state := .interrupted }) .interruption

/-- The out-of-travel request (R11). -/
def State.travelRequest (s : State) (n : Nat) (p : Parity) : State :=
  s.request n p (fun st => { st with state := .skipped, skipReason := some .outOfTravel }) .skipTravel

/-! ## Alarm records (R192, R193) -/

/-- The kinds whose condition is an event (R191). -/
def isEventKind : AlarmKind → Bool
  | .stationJam => true
  | .starve => true
  | .chainJam => true
  | .placementMissed => true
  | .headJam => true
  | .clinchStall => true
  | .clinchOpen => true
  | .axisFollow => true
  | .boardTransfer => true
  | _ => false

/-- A raising reaches the record (R192). -/
def AlarmRecord.raised (r : AlarmRecord) (src : Option Source) : AlarmRecord :=
  { r with
    state := .active
    condition := true
    retryTimer := none
    firstSource := if r.state = .clear then src else r.firstSource
    lastSource := src
    occurrences := if r.state = .clear then 1 else saturate 255 r.occurrences }

/-- The condition of the record ends (R193); a record whose condition is ABSENT is unchanged. -/
def AlarmRecord.ended (r : AlarmRecord) (interval : Nat) : AlarmRecord :=
  if r.condition then
    match r.clearMode with
    | .latch => { r with condition := false, state := .latched }
    | .retry => { r with condition := false, retryTimer := some interval }
  else r

/-- The report that the condition of `k` has ended (R193). -/
def State.endCondition (s : State) (k : AlarmKind) : State :=
  s.putAlarm k ((s.alarm k).ended s.settings.retryInterval)

/-- A raising as the alarm table records it, without its reaction: for an event kind the condition
ends at the same event (R192). -/
def State.raiseRecord (s : State) (k : AlarmKind) (src : Option Source) : State :=
  if isEventKind k then (s.putAlarm k ((s.alarm k).raised src)).endCondition k
  else s.putAlarm k ((s.alarm k).raised src)

/-! ## Clip records -/

/-- The clip at 80 becomes EMPTY or UNKNOWN at the head (R71): it names nothing any more and its
judgment goes (R67). Its dump mark and clip id stay until it leaves the stretch (R132, log 14). -/
def Clip.emptied (c : Clip) (state : ClipState) : Clip :=
  { c with state := state, call := none, verify := none }

/-- Write the clip's new state. -/
def State.markClip (s : State) (p : Nat) (state : ClipState) : State :=
  s.putClip p { s.clip p with state := state }

/-! ## Stations (R46, R49, R60, R65) -/

/-- The LOW flag as it is set anew (R46). -/
def Station.lowFlag (st : Station) : Bool :=
  decide (0 < st.remaining) && decide (st.remaining ≤ st.lowLevel)

/-- An outcome joins the end of the miss window; with 16 entries the oldest leaves (R60). -/
def joinWindow (w : List FeedOutcome) (o : FeedOutcome) : List FeedOutcome :=
  (w ++ [o]).drop (w.length + 1 - 16)

/-- The count of MISS entries of a window (R60). -/
def missCount (w : List FeedOutcome) : Nat := w.countP fun o => decide (o = .miss)

/-- Report the end of a lasting condition that no station holds any longer (R65). -/
def State.endIfNone (s : State) (k : AlarmKind) (holds : Station → Bool) : State :=
  if s.stations.any holds then s else s.endCondition k

/-- The three lasting conditions of the stations, judged after a change of a station record (R65). -/
def State.stationConditions (s : State) : State :=
  ((s.endIfNone .stationLow fun st => st.low).endIfNone .stationEmpty
    fun st => decide (st.state = .empty)).endIfNone .stationSuspect
    fun st => decide (st.state = .suspect)

/-- Station `k` gives up the clip at its position (R49 drop at arrival, R50, R54, R56, R58): the clip
becomes DROP_MISSED, committed falls by one, the feed is IDLE with its timer stopped, and an
uncounted recall for the placement and board the clip named goes to the table. -/
def State.dropAt (s : State) (k : Nat) : State :=
  match s.station? k with
  | none => s
  | some st =>
    let s1 := s.putStation k
      { st with committed := st.committed - 1, feed := .idle, work := none, advanceTimer := none }
    let s2 := s1.markClip k .dropMissed
    match (s.clip k).call with
    | none => s2
    | some c => s2.recallUncounted c.placement c.parity

/-- A feed is taken on: its working values are copied and its first advance begins (R49, R51). -/
def State.takeOn (s : State) (k : Nat) : State :=
  match s.station? k with
  | none => s
  | some st =>
    s.putStation k
      { st with
        feed := .advancing
        retriesUsed := 0
        work := some { retryLimit := st.retryLimit, advanceTimeout := st.advanceTimeout }
        advanceTimer := some st.advanceTimeout }

/-! ## Index requests and the head's judgment at 80 (R92, R159) -/

/-- The head requests an index (R92). -/
def State.requestIndex (s : State) : State :=
  match s.chain.indexState with
  | .idle => { s with chain := { s.chain with indexState := .requested } }
  | _ => s

/-- The clip carries nothing to handle (R159). -/
def ClipState.nothingToHandle : ClipState → Bool
  | .empty => true
  | .passedEmpty => true
  | .rejected => true
  | .deferred => true
  | _ => false

/-- While IDLE, and in RUNNING, DRAINING, PAUSING and PAUSED, the head judges the clip at 80 and
requests an index where it carries nothing to handle (R159). -/
def State.headJudge (s : State) : State :=
  if s.head.state = .idle ∧ (s.working || s.pausing) = true ∧
      (s.clip 80).state.nothingToHandle = true then s.requestIndex
  else s

/-! ## Start conditions of a head cycle (R160) -/

/-- The move slot that serves position 80 in state ACTIVE (R160, condition 4). -/
def State.activeAt80 (s : State) : Option Parity :=
  [Parity.even, Parity.odd].find? fun p =>
    decide ((s.moveSlot p).state = .active) && decide ((s.moveSlot p).position = some .p80)

/-- Conditions 3 to 5 of R160 for an INSERT cycle, or the two that replace them for a DUMP cycle. -/
def State.cycleFits (s : State) (p : Parity) : Bool :=
  match (s.moveSlot p).kind, (s.clip 80).state with
  | some .insert, .verified =>
    !(s.clip 80).dump &&
      (match (s.clip 80).call, (s.moveSlot p).job with
      | some c, some j =>
        decide (c.board = j.board) && decide (c.placement = j.placement) && s.isAligned j.board
      | _, _ => false)
  | some .dump, .verified => (s.clip 80).dump
  | some .dump, .unknown => true
  | _, _ => false

/-- The start conditions of R160 but for HOME and the head state: conditions 1, 3 to 6 and 8. The
answer names the slot the cycle would use. -/
def State.startReady (s : State) : Option Parity :=
  match s.activeAt80 with
  | none => none
  | some p => if s.working && s.allLocked && s.driveAvailable && s.cycleFits p then some p else none

/-- HOMING ends when another start condition ceases to hold (R161), and the head, now IDLE, judges the
clip at 80 (R159). -/
def State.homingCheck (s : State) : State :=
  if s.head.state = .homing ∧ s.startReady = none then
    State.headJudge { s with head := { s.head with state := .idle, phaseTimer := none } }
  else s

/-! ## The stroke (R170) -/

/-- The end of a stroke (R170): PROFILE keeps its value. BRIDGE_ON follows by the arbiter. -/
def Drive.strokeEnded (d : Drive) : Drive :=
  { d with stroke := .none, chop := .on, offTimer := none, filter := none }

/-- The beginning of a stroke with the cycle's profile; the settings of R179 are those in force for
it (log 22). -/
def State.beginStroke (s : State) : State :=
  { s with
    drive :=
      { s.drive with
        stroke := .commanded, chop := .on, chopCount := 0, samples := 0, openRun := true
        inForce := s.settings.stroke }
    outputs :=
      match s.head.plan with
      | some pl => { s.outputs with profile := pl.profile }
      | none => s.outputs }

/-! ## Move slots (R148, R149) -/

/-- A slot is released: FREE, its history kept (R138, R148). -/
def State.releaseSlot (s : State) (p : Parity) : State :=
  s.putMoveSlot p { s.moveSlot p with state := .free, position := none }

/-- An ACTIVE slot returns to PLANNED with its kind and targets kept (R149, R187). -/
def MoveSlot.deactivated (m : MoveSlot) : MoveSlot :=
  if m.state = .active then { m with state := .planned } else m

/-- Every axis IDLE with its target held (R155). -/
def AxisRecord.idled (a : AxisRecord) : AxisRecord :=
  { a with state := .idle, inRun := 0, outRun := 0, lockTimer := none }

/-! ## HALT (R188) -/

/-- HALT ends a DUE or ADVANCING feed (R50, R58). -/
def State.haltFeed (s : State) (k : Nat) : State :=
  match s.station? k with
  | none => s
  | some st => if st.feed = .idle then s else s.dropAt k

/-- Stations at a HALT. -/
def State.haltFeeds (s : State) : State := stationNumbers.foldl State.haltFeed s

/-- The chain at a HALT: an index in flight ends unshifted, a request is withdrawn (R92, R97). -/
def State.haltIndex (s : State) : State :=
  { s with
    chain :=
      { s.chain with
        indexState := .idle
        indexTimer := none
        markSeen := if s.chain.indexState = .indexing then false else s.chain.markSeen } }

/-- An exchange in flight stops where it stands (R40). -/
def State.haltExchange (s : State) : State :=
  if s.exchange.leg = .idle then s
  else
    { s with
      exchange :=
        { s.exchange with
          leg := .idle, waiting := false, leaving := none, incoming := none
          transferTimer := none, clampTimer := none }
      outputs :=
        { s.outputs with
          transferReq := false
          clamp := if s.exchange.leg = .clamping then false else s.outputs.clamp } }

/-- The head is cut in FORM, DRIVE or CLINCH of an INSERT cycle (R167). -/
def Head.interrupts (h : Head) : Bool :=
  decide (h.kind = some .insert) &&
    match h.state with
    | .form => true
    | .drive => true
    | .clinch => true
    | _ => false

/-- The clip and the placement of an interrupted insertion (R71, R167). -/
def State.interrupt (s : State) : State :=
  if s.head.interrupts then
    let s1 := s.putClip 80 ((s.clip 80).emptied .unknown)
    match s.head.job with
    | none => s1
    | some j => s1.interruptionRequest j.placement (parityOf j.board)
  else s

/-- The cycle fields go as the state becomes IDLE (R165, R167). DESIGN CHOICE (log 13): after a HALT
formed becomes NO and peak and cleared keep their values, which R167 does not state; at HOME cleared
keeps its value, which R165 does not state. -/
def Head.ended (h : Head) : Head :=
  { h with
    state := .idle, kind := none, slot := none, job := none, plan := none, formed := false
    phaseTimer := none }

/-- The cycle's slot is released at a HALT where cleared is NO (R149, R167). -/
def State.haltSlot (s : State) : State :=
  match s.head.slot, s.head.cleared with
  | some p, false => s.releaseSlot p
  | _, _ => s

/-- The further steps of a HALT on the head and the drive (R167): the outputs go low, the stroke
command is withdrawn, and the cycle ends. -/
def State.stopHead (s : State) : State :=
  { s.haltSlot with
    head := { s.head.ended with held := .none }
    drive := s.drive.strokeEnded
    outputs := { s.outputs with former := false, headDrive := false } }

/-- The head and the drive at a HALT (R167). -/
def State.haltHead (s : State) : State := s.interrupt.stopHead

/-- Slots not in use return to PLANNED (R149) and the axes become IDLE (R155). -/
def State.haltAxes (s : State) : State :=
  { s with slots := s.slots.map MoveSlot.deactivated, axes := s.axes.map AxisRecord.idled }

/-- The HALT steps of every block (R188). REJECT_GATE keeps its level (R120). -/
def State.haltBlocks (s : State) : State :=
  s.haltFeeds.haltIndex.haltExchange.haltHead.haltAxes

/-- The machine becomes HALTED and every block takes its HALT steps (R188). -/
def State.enterHalted (s : State) : State :=
  { s with machine := { state := .halted, returnState := none } }.haltBlocks

/-- HALT from STOP_N or from a reaction: RUNNING, PAUSING, PAUSED and DRAINING become HALTED, other
states do not change (R189, R194). -/
def State.haltIfMoving (s : State) : State := if s.working || s.pausing then s.enterHalted else s

/-! ## The ends of PAUSING and DRAINING (R185, R187) -/

/-- PAUSING becomes PAUSED while the machine is quiet, the return state kept (R185). -/
def State.pausingQuiet (s : State) : State :=
  if s.machine.state = .pausing ∧ s.quiet = true then
    { s with machine := { s.machine with state := .paused } }
  else s

/-- The conditions at which DRAINING ends (R187), but for the machine state. -/
def State.drainedOut (s : State) : Bool :=
  !s.boardOpen && !s.carryingClips && s.quiet && !s.exchangeInFlight

/-- DRAINING ends in STOPPED (R187): the index request is withdrawn, ACTIVE slots return to PLANNED,
and every axis becomes IDLE. -/
def State.endDraining (s : State) : State :=
  { s with
    machine := { state := .stopped, returnState := none }
    chain :=
      { s.chain with
        indexState := if s.chain.indexState = .requested then .idle else s.chain.indexState }
    slots := s.slots.map MoveSlot.deactivated
    axes := s.axes.map AxisRecord.idled }

/-- DRAINING ends where its conditions hold (R187). -/
def State.drainEnd (s : State) : State :=
  if s.machine.state = .draining ∧ s.drainedOut = true then s.endDraining else s

/-- The ends of PAUSING and of DRAINING, judged as the last step of an event that may complete their
conditions (R185, R187). DESIGN CHOICE (log 35): the reaction of a raising comes before them; and at an
event that completes both the end of DRAINING (R187) and the start conditions of a DUMP cycle (R160),
or of another row that a block begins (R33, R93, R145, R161), DRAINING ends here, so that the row finds
its conditions failed. -/
def State.settle (s : State) : State := s.pausingQuiet.drainEnd

/-- RUNNING or DRAINING becomes PAUSING, and the state left is the return state; other states do not
change (R184, R194). A head in HOMING ends it, since no cycle may start (R161); a machine that is
quiet is PAUSED at the same event (R185). -/
def State.enterPausing (s : State) : State :=
  match s.machine.state with
  | .running =>
    (State.homingCheck
      { s with machine := { state := .pausing, returnState := some .running } }).pausingQuiet
  | .draining =>
    (State.homingCheck
      { s with machine := { state := .pausing, returnState := some .draining } }).pausingQuiet
  | _ => s

/-- The reaction of a raising, on the machine state at that event (R194). -/
def State.react (s : State) : Reaction → State
  | .note => s
  | .pause => s.enterPausing
  | .halt => s.haltIfMoving

/-- A raising with its reaction (R192, R194). -/
def State.raise (s : State) (k : AlarmKind) (src : Option Source) : State :=
  (s.raiseRecord k src).react (s.alarm k).reaction

/-- The reactions of the given kinds, in order. -/
def State.reactAll (s : State) (ks : List AlarmKind) : State :=
  ks.foldl (fun t k => t.react (t.alarm k).reaction) s

end Sys2Proof.Machine
end

