-- ==== Sys2Proof/Machine/Operands.lean ====
section
/-! DEFINITION. The operands of a frame and the replies: record kinds, the program fields and their
ranges (R2, R206), the checks a command makes before its effect, and how a command that is taken
leaves the control port (R199). -/

namespace Sys2Proof.Machine

/-! ## Replies (R199, R202) -/

/-- What the owning block answers to a command: the state it leaves, the reply code and the payload. -/
structure Answer where
  state : State
  code : ReplyCode
  payload : List Byte
deriving DecidableEq, Repr

/-- The free bytes that one frame may take (log 11): 13 for the absent fields of a LOOKUP payload, and
13 for the bytes of the response frame that a shorter payload leaves without a value. -/
def freeBytesPerFrame : Nat := 26

/-- The reply OK with an empty payload. -/
def State.ok (s : State) : Answer := { state := s, code := .ok, payload := [] }

/-- A refusal, or any other reply with an empty payload; the state is the one given (R202: a refused
command changes no record). -/
def State.reply (s : State) (c : ReplyCode) : Answer := { state := s, code := c, payload := [] }

/-- The reply becomes the pending reply and the frame error flag becomes clear (R199). The numbers of
the free bytes that this frame's replies may take are spent (log 11): `freeBytesPerFrame`. -/
def State.replied (s : State) (cmd : Byte) (code : ReplyCode) (payload : List Byte) : State :=
  { s with
    port :=
      { s.port with
        reply := { code := code, command := cmd, payload := payload }, frameError := false }
    freeCount := s.freeCount + freeBytesPerFrame }

/-- An event on a line or inside the part. While POR_N is low every input is ignored (R208). -/
def event (s : State) (act : State → State) : Host.Outcome State Fault Refusal :=
  if s.inputs.porN then .next (act s) else .next s

/-- CS_N rises and the part no longer waits for it (R208). -/
def State.csRisen (s : State) : State := { s with port := { s.port with awaitsRise := false } }

/-- A frame ends (R199). Where CS_N was low when POR_N rose, the first rising edge of CS_N ends no
frame: the part goes on to wait for a falling edge, and what was sent is neither taken nor discarded
(R208). -/
def frameEnd (s : State) (act : State → State) : Host.Outcome State Fault Refusal :=
  event s fun s => if s.port.awaitsRise then s.csRisen else act s

/-- A command is taken (R199): the block acts, and its reply becomes the pending reply. -/
def taken (cmd : Byte) (s : State) (act : State → Answer) :
    Host.Outcome State Fault Refusal :=
  frameEnd s fun s => (act s).state.replied cmd (act s).code (act s).payload

/-! ## Record kinds (R206) -/

def kindPlacement : Byte := 0
def kindBoard : Byte := 1
def kindRun : Byte := 2
def kindStation : Byte := 3
def kindClip : Byte := 4
def kindClipCondition : Byte := 5
def kindMoveSlot : Byte := 6
def kindAxis : Byte := 7
def kindChain : Byte := 8
def kindHead : Byte := 9
def kindMachine : Byte := 10
def kindAlarm : Byte := 11
def kindSetting : Byte := 12

/-! ## Program fields (R2, R206) -/

def orientationOfCode : Nat → Option Orientation
  | 0 => some .q0
  | 1 => some .q90
  | 2 => some .q180
  | 3 => some .q270
  | _ => none

/-- The quadrant number of an orientation (R2). -/
def Orientation.quadrant : Orientation → Nat
  | .q0 => 0
  | .q90 => 1
  | .q180 => 2
  | .q270 => 3

def profileOfCode : Nat → Option Profile
  | 0 => some .inward
  | 1 => some .outward
  | 2 => some .cutOnly
  | _ => none

/-- The position of a profile in its list (R204). -/
def Profile.code : Profile → Nat
  | .inward => 0
  | .outward => 1
  | .cutOnly => 2

def boolOfCode : Nat → Option Bool
  | 0 => some false
  | 1 => some true
  | _ => none

/-- A status slot as ADMIT and RESET set it (R15, R23). -/
def StatusSlot.fresh : StatusSlot :=
  { state := .notInBoard, attempts := 0, deferrals := 0, unordered := false, skipReason := none,
    clinchPeak := none }

/-- The record that ADMIT's operands describe, where every operand lies in its range (R2, R15). The
code byte holds substitute in bit 7, orientation in bits 6..5, clinch in bits 4..3 and tier in bits
1..0; bit 2 is ignored (R204, R206). -/
def admittedRecord (sequence station x y span trip : Nat) (code : Byte) : Option Placement :=
  match orientationOfCode (code.toNat / 32 % 4), profileOfCode (code.toNat / 8 % 4) with
  | some orientation, some clinch =>
    if 1 ≤ station ∧ station ≤ 72 ∧ x ≤ 60000 ∧ y ≤ 45000 ∧ 50 ≤ span ∧ span ≤ 254 ∧ trip ≤ 7 then
      some
        { sequence := sequence, station := station, substitute := decide (128 ≤ code.toNat)
          x := x, y := y, orientation := orientation, span := span, tier := code.toNat % 4
          clinch := clinch, trip := trip, hold := .free
          status := { even := StatusSlot.fresh, odd := StatusSlot.fresh } }
    else none
  | _, _ => none

/-- The record with one program field amended, where the field is a program field and the value lies
in its range (R16, field numbers of R206). -/
def amendedRecord (r : Placement) (field value : Nat) : Option Placement :=
  match field with
  | 0 => some { r with sequence := value }
  | 1 => if 1 ≤ value ∧ value ≤ 72 then some { r with station := value } else none
  | 2 => (boolOfCode value).map fun b => { r with substitute := b }
  | 3 => if value ≤ 60000 then some { r with x := value } else none
  | 4 => if value ≤ 45000 then some { r with y := value } else none
  | 5 => (orientationOfCode value).map fun o => { r with orientation := o }
  | 6 => if 50 ≤ value ∧ value ≤ 254 then some { r with span := value } else none
  | 7 => if value ≤ 3 then some { r with tier := value } else none
  | 8 => (profileOfCode value).map fun c => { r with clinch := c }
  | 9 => if value ≤ 7 then some { r with trip := value } else none
  | _ => none

/-! ## Checks before the effect -/

/-- The first checks of a command that names a placement: its record kind (R202), an index above 383
and a FREE slot (R1). -/
def State.onPlacement (s : State) (kind : Byte) (index : Half) (act : Nat → Placement → Answer) :
    Answer :=
  if kind = kindPlacement ∧ index.toNat < Config.slotCount then
    match s.slot? index.toNat with
    | none => s.reply .noRecord
    | some r => act index.toNat r
  else s.reply .refusedRange

/-- The first checks of a command that names a station: its record kind (R202) and a number outside
1..72 (spec 03, Host commands on stations). -/
def State.onStation (s : State) (kind : Byte) (index : Half) (act : Nat → Station → Answer) :
    Answer :=
  if kind = kindStation then
    match s.station? index.toNat with
    | none => s.reply .refusedRange
    | some st => act index.toNat st
  else s.reply .refusedRange

/-- A board parity operand: 0 for EVEN, 1 for ODD, any other value REFUSED_RANGE (R206). -/
def State.onParity (s : State) (parity : Nat) (act : Parity → Answer) : Answer :=
  match parityOfCode parity with
  | none => s.reply .refusedRange
  | some p => act p

end Sys2Proof.Machine
end

