-- ==== Sys2Proof/Machine/Alarms.lean ====
section
/-! DEFINITION. The host's CLEAR of an alarm record and the expiry of a retry timer (spec 10, R193,
R195, R173), and the alarm table after RESET (R198). -/

namespace Sys2Proof.Machine

/-- CLEAR of CLINCH_STALL lifts the drive lockout (R173, R195). -/
def State.liftLockout (s : State) (k : AlarmKind) : State :=
  match k with
  | .clinchStall => { s with drive := { s.drive with lockout := false } }
  | _ => s

/-- CLEAR of an alarm record (R195): claim 3 of the arbiter follows the record (R174). -/
def State.clearAlarm (s : State) (k : AlarmKind) : Answer :=
  match (s.alarm k).state with
  | .latched => ((s.putAlarm k { s.alarm k with state := .clear }).liftLockout k).ok
  | .clear => (s.liftLockout k).ok
  | .active => s.reply .refusedState

/-- CLEAR_ALARM (R195): an index above 15 names no kind (R203). -/
def execClearAlarm (index : Half) (s : State) : Host.Outcome State Fault Refusal :=
  taken 12 s fun s =>
    match kindOfCode index.toNat with
    | some k => s.clearAlarm k
    | none => s.reply .refusedRange

/-- The record at the expiry of its retry timer (R193): CLEAR where the condition is ABSENT. -/
def AlarmRecord.expired (r : AlarmRecord) : AlarmRecord :=
  if r.condition then { r with retryTimer := none } else { r with retryTimer := none, state := .clear }

/-- RETRY_TIMEOUT (R193): a timer that does not run cannot expire (log 7). -/
def execRetryTimeout (kind : AlarmKind) (s : State) : Host.Outcome State Fault Refusal :=
  event s fun s =>
    if (s.alarm kind).retryTimer.isSome then s.putAlarm kind (s.alarm kind).expired else s

/-- An alarm record after RESET (R198): reaction and clear mode are kept. -/
def AlarmRecord.afterReset (r : AlarmRecord) : AlarmRecord := .fresh r.reaction r.clearMode

end Sys2Proof.Machine
end

