-- ==== Sys2Proof/Machine/Planner.lean ====
section
/-! DEFINITION. The geometry unit (spec 07) and the move planner's shared steps (spec 08): axis
targets, OUT_OF_TRAVEL, the taking of a slot, planning, activation and new targets. -/

namespace Sys2Proof.Machine

/-! ## Geometry (R127 to R131) -/

/-- The product divided by 1,000,000 and rounded to the nearest integer, halves away from zero: on
the magnitude, with the sign of the product (R127). -/
def roundMillionth (product : Int) : Int :=
  if product < 0 then -(((product.natAbs + 500000) / 1000000 : Nat) : Int)
  else (((product.natAbs + 500000) / 1000000 : Nat) : Int)

/-- The scale stage on one coordinate (R127). -/
def scaled (coordinate : Nat) (scale : Int) : Int :=
  (coordinate : Int) + roundMillionth ((coordinate : Int) * scale)

/-- The rotate stage: the point turned about (Cx, Cy) by quarter turns (R128). -/
def rotated (q : Orientation) (cx cy xs ys : Int) : Int × Int :=
  match q with
  | .q0 => (xs, ys)
  | .q90 => (cx - (ys - cy), cy + (xs - cx))
  | .q180 => (2 * cx - xs, 2 * cy - ys)
  | .q270 => (cx + (ys - cy), cy - (xs - cx))

/-- The plane check on one coordinate: 0..65535 (R129). -/
def inPlane (v : Int) : Bool := decide (0 ≤ v) && decide (v ≤ 65535)

/-- A target lies within the soft limits of its axis (R131). -/
def AxisSettings.allows (a : AxisSettings) (target : Nat) : Bool :=
  decide (a.softMin ≤ target) && decide (target ≤ a.softMax)

/-- Each of the four targets lies within the soft limits of its axis (R131). -/
def Settings.allows (g : Settings) (t : Quad Nat) : Bool :=
  g.axis.x.allows t.x && g.axis.y.allows t.y && g.axis.r.allows t.r && g.axis.s.allows t.s

/-- The offset point of a placement under a correction: stages 1 to 3 (R127, R128, R129). -/
def offsetPoint (g : Settings) (r : Placement) (c : Correction) : Int × Int :=
  ((rotated r.orientation g.centreX g.centreY (scaled r.x c.scale) (scaled r.y c.scale)).1 + c.dx,
   (rotated r.orientation g.centreX g.centreY (scaled r.x c.scale) (scaled r.y c.scale)).2 + c.dy)

/-- The count stage (R130), for an offset point that has passed the plane check. -/
def counts (g : Settings) (r : Placement) (point : Int × Int) : Quad Nat :=
  { x := g.homeX + 2 * point.1.toNat
    y := g.homeY + 2 * point.2.toNat
    s := g.homeS + 4 * r.span
    r := g.homeR + r.orientation.quadrant * g.quarter }

/-- The computation: four targets, or OUT_OF_TRAVEL as absent (R125 to R131). -/
def axisTargets (g : Settings) (r : Placement) (c : Correction) : Option (Quad Nat) :=
  let point := offsetPoint g r c
  if inPlane point.1 && inPlane point.2 && g.allows (counts g r point) then some (counts g r point)
  else none

/-- The board and placement of a clip's call. -/
def Call.job (c : Call) : Job := { board := c.board, placement := c.placement }

/-- The computation for placement and board, from the placement record and the correction as they
stand (R126). -/
def State.computed (s : State) (j : Job) : Option (Quad Nat) :=
  match s.slot? j.placement, (s.board (parityOf j.board)).correction with
  | some r, some k => axisTargets s.settings r k
  | _, _ => none

/-! ## Slots (R138 to R143) -/

/-- The position number of a slot position. -/
def SlotPosition.number : SlotPosition → Nat
  | .p79 => 79
  | .p80 => 80

/-- The slot to take: the one the alternation field names if it is FREE, otherwise the other (R141). -/
def State.slotToTake (s : State) : Parity :=
  if (s.moveSlot s.alternation).state = .free then s.alternation else otherParity s.alternation

/-- Take a slot and fill it; the alternation field then names the other slot (R141). -/
def State.takeSlot (s : State) (m : MoveSlot) : State :=
  { s.putMoveSlot s.slotToTake m with alternation := otherParity s.slotToTake }

/-- The dump-position settings as targets (R143, R156). -/
def State.dumpTargets (s : State) : Quad Nat := s.settings.axis.map fun a => a.dumpPosition

/-- The load-position settings as targets (R34, R156). -/
def State.loadTargets (s : State) : Quad Nat := s.settings.axis.map fun a => a.loadPosition

/-- An OUT_OF_TRAVEL result for the clip at `pos` (R132): the clip is marked for dump, and the
out-of-travel request goes to the table. The slot is made VOID by the caller. -/
def State.outOfTravel (s : State) (pos : Nat) (j : Job) : State :=
  (s.putClip pos { s.clip pos with dump := true }).travelRequest j.placement (parityOf j.board)

/-- A slot that serves the clip at `pos`, in a state without targets: AWAITING_BOARD (R140) or VOID
(R142). -/
def MoveSlot.without (state : SlotState) (pos : SlotPosition) (j : Job) : MoveSlot :=
  { state := state, position := some pos, kind := none, job := some j, targets := none }

/-- A slot PLANNED for an INSERT with its targets (R142). -/
def MoveSlot.planned (pos : SlotPosition) (j : Job) (t : Quad Nat) : MoveSlot :=
  { state := .planned, position := some pos, kind := some .insert, job := some j
    targets := some t }

/-- A dump plan (R143): board and placement absent. -/
def MoveSlot.dumpPlan (pos : SlotPosition) (t : Quad Nat) : MoveSlot :=
  { state := .planned, position := some pos, kind := some .dump, job := none, targets := some t }

/-- Planning for a VERIFIED clip with dump NO (R140, R142): the computation where its board is
ALIGNED, AWAITING_BOARD otherwise. -/
def State.planInsert (s : State) (pos : SlotPosition) (j : Job) : State :=
  if s.isAligned j.board then
    match s.computed j with
    | some t => s.takeSlot (MoveSlot.planned pos j t)
    | none => (s.takeSlot (MoveSlot.without .void pos j)).outOfTravel pos.number j
  else s.takeSlot (MoveSlot.without .awaitingBoard pos j)

/-- A dump plan for the record at the position (R143). -/
def State.planDump (s : State) (pos : SlotPosition) : State :=
  s.takeSlot (MoveSlot.dumpPlan pos s.dumpTargets)

/-- The computation of an AWAITING_BOARD slot whose board has become ALIGNED (R133, R142). -/
def State.computeSlot (s : State) (p : Parity) : State :=
  match (s.moveSlot p).state, (s.moveSlot p).position, (s.moveSlot p).job with
  | .awaitingBoard, some pos, some j =>
    if s.isAligned j.board then
      match s.computed j with
      | some t => s.putMoveSlot p (MoveSlot.planned pos j t)
      | none => (s.putMoveSlot p (MoveSlot.without .void pos j)).outOfTravel pos.number j
    else s
  | _, _, _ => s

/-- Every slot that awaits the board is computed, each on its own (R133). -/
def State.computeAwaiting (s : State) : State := (s.computeSlot .even).computeSlot .odd

/-- Some slot serves the position (R149: "holds no slot" is its negation). -/
def State.served (s : State) (pos : SlotPosition) : Bool :=
  [Parity.even, Parity.odd].any fun p =>
    decide ((s.moveSlot p).state ≠ .free) && decide ((s.moveSlot p).position = some pos)

/-- The planning at RUN for one position (R149). -/
def State.planAtRun (s : State) (pos : SlotPosition) : State :=
  if s.served pos then s
  else
    match (s.clip pos.number).state with
    | .unknown => s.planDump pos
    | .verified =>
      if (s.clip pos.number).dump then s.planDump pos
      else
        match (s.clip pos.number).call with
        | some c => s.planInsert pos c.job
        | none => s
    | _ => s

/-! ## New targets and activation (R147, R151) -/

/-- The magnitude of the difference of two counts. -/
def distance (a b : Nat) : Nat := (a - b) + (b - a)

/-- A new target reaches the axis (R151). -/
def AxisRecord.retarget (a : AxisRecord) (g : AxisSettings) (target : Nat) : AxisRecord :=
  { a with
    target := target
    state :=
      match a.lastPosition with
      | none => .slew
      | some v => if distance v target ≤ g.settleWindow then .settle else .slew
    inRun := 0
    outRun := 0
    lockTimer := some g.lockTimeout }

/-- The four targets are given to the four axes (R147, R34). -/
def State.giveTargets (s : State) (t : Quad Nat) : State :=
  { s with
    axes :=
      { x := s.axes.x.retarget s.settings.axis.x t.x
        y := s.axes.y.retarget s.settings.axis.y t.y
        r := s.axes.r.retarget s.settings.axis.r t.r
        s := s.axes.s.retarget s.settings.axis.s t.s } }

/-- A slot can be activated from its state: PLANNED or VOID (R145, R146). -/
def SlotState.activatable : SlotState → Bool
  | .planned => true
  | .void => true
  | _ => false

/-- Activation (R147): a VOID slot becomes a DUMP move with the dump-position settings. -/
def State.activate (s : State) (p : Parity) : State :=
  match (s.moveSlot p).state, (s.moveSlot p).targets with
  | .void, _ =>
    (s.putMoveSlot p
      { s.moveSlot p with state := .active, kind := some .dump, targets := some s.dumpTargets }
      ).giveTargets s.dumpTargets
  | .planned, some t => (s.putMoveSlot p { s.moveSlot p with state := .active }).giveTargets t
  | _, _ => s

/-- No move slot is ACTIVE (R33). -/
def State.noneActive (s : State) : Bool :=
  decide ((s.moveSlot .even).state ≠ .active) && decide ((s.moveSlot .odd).state ≠ .active)

/-- The conditions of R145 for one slot. -/
def State.mayActivate (s : State) (p : Parity) : Bool :=
  (s.moveSlot p).state.activatable && decide ((s.moveSlot p).position = some .p80) &&
    decide ((s.moveSlot (otherParity p)).state ≠ .active) && !s.exchangeInFlight && s.working

/-- Activation at head clear of the slot that serves 79 (R146, step 2). -/
def State.earlyActivation (s : State) : State :=
  if s.exchangeInFlight || !s.working then s
  else
    match [Parity.even, Parity.odd].find? fun p =>
        (s.moveSlot p).state.activatable && decide ((s.moveSlot p).position = some .p79) with
    | some p => s.activate p
    | none => s

end Sys2Proof.Machine
end

