-- ==== Sys2Proof/Machine/Boards.lean ====
section
/-! DEFINITION. The board supervisor: opening a board (R26, R27), the exchange and its legs (R33 to
R40), and ALIGN (R41). -/

namespace Sys2Proof.Machine

/-! ## Opening a board (R26, R27, R5) -/

/-- The newest open board is CALLED_OUT or COMPLETE, or no board is open (R26). -/
def State.newestDone (s : State) : Bool :=
  match s.boardsByAge.getLast? with
  | none => true
  | some p =>
    decide ((s.board p).phase = .calledOut) || decide ((s.board p).phase = .complete)

/-- The conditions of R26. -/
def State.mayOpen (s : State) : Bool :=
  decide (s.machine.state = .running) && s.newestDone && !s.isOpen (parityOf s.nextNumber) &&
    (decide (s.settings.runLength = 0) || decide (s.runCounter < s.settings.runLength))

/-- A status slot as the open request sets it (R5). -/
def openedSlot (hold : Hold) : StatusSlot :=
  { state := .callable, attempts := 0, deferrals := 0, unordered := decide (hold ≠ .free)
    skipReason := none, clinchPeak := none }

/-- The open request (R5) on the table: FREE slots are not touched. -/
def State.openRequest (s : State) (p : Parity) : State :=
  { s with
    table := s.table.map fun e =>
      e.map fun r => { r with status := r.status.put p (openedSlot r.hold) } }

/-- The number of records the open request sets (R5). -/
def State.admittedCount (s : State) : Nat := s.table.countP fun e => e.isSome

/-- Opening the next board (R27). -/
def State.openBoard (s : State) : State :=
  let p := parityOf s.nextNumber
  let b : BoardRecord :=
    { number := s.nextNumber, phase := .calling, tableState := .notLoaded, correction := none
      inBoard := s.admittedCount, inserted := 0, skipped := 0, outOfTravel := 0, missed := 0
      interrupted := 0, recalls := 0, deferrals := 0 }
  let s1 := (s.openRequest p).putBoard p b
  State.evalPhase
    { s1 with
      runCounter := saturate 65535 s.runCounter
      nextNumber := (s.nextNumber + 1) % 65536
      drive := { s.drive with strikes := 0 } } p

/-- The next board opens where the conditions of R26 hold; otherwise nothing happens (log 1). -/
def State.openIfMay (s : State) : State := if s.mayOpen then s.openBoard else s

/-- BOARD_OPEN (R26, R27). -/
def execBoardOpen (s : State) : Host.Outcome State Fault Refusal := event s State.openIfMay

/-! ## The exchange (R33 to R36) -/

/-- A leg that ends while PAUSING or PAUSED leaves the exchange waiting with the next leg due (R39). -/
def State.waitWith (s : State) (leg : Leg) : State :=
  { s with exchange := { s.exchange with leg := leg, waiting := true } }

/-- The steps that begin TRANSFER (R34): CLAMP goes low at an UNLOAD. -/
def State.beginTransfer (s : State) : State :=
  { s with
    exchange :=
      { s.exchange with
        leg := .transfer, waiting := false, transferTimer := some s.settings.transferTimeout }
    outputs :=
      { s.outputs with
        transferReq := true
        clamp := if s.exchange.kind = .unload then false else s.outputs.clamp } }

/-- CLAMPED ends CLAMPING (R36): the incoming board is on the table. -/
def State.clampingEnds (s : State) : State :=
  let e : Exchange :=
    { s.exchange with leg := .idle, leaving := none, incoming := none, clampTimer := none }
  match s.exchange.incoming with
  | none => { s with exchange := e }
  | some p =>
    let b := s.board p
    let b' : BoardRecord :=
      if s.settings.alignRequired then { b with tableState := .awaitingAlign }
      else { b with tableState := .aligned, correction := some { dx := 0, dy := 0, scale := 0 } }
    let s1 := State.putBoard { s with exchange := e } p b'
    s1.computeAwaiting.evalPhase p

/-- The steps that begin CLAMPING (R36): the incoming board is named, CLAMP goes high, the timer
starts, and the leg ends at once where CLAMPED is already true. -/
def State.beginClamping (s : State) : State :=
  let s1 : State :=
    { s with
      exchange :=
        { s.exchange with
          leg := .clamping, waiting := false, incoming := s.nextToLoad
          clampTimer := some s.settings.clampTimeout }
      outputs := { s.outputs with clamp := true } }
  if s.inputs.levels.clamped then s1.clampingEnds else s1

/-- Go on to CLAMPING, or wait with it (R39). -/
def State.clampNext (s : State) : State :=
  if s.pausing then s.waitWith .clamping else s.beginClamping

/-- The end of MOVE (R34), where all four axes are LOCKED: `present` is BOARD_PRESENT as sampled. -/
def State.moveLegEnd (s : State) (present : Bool) : State :=
  if s.exchange.leg = .move ∧ s.allLocked = true then
    if s.exchange.kind = .load ∧ present = true then s.clampNext
    else if s.pausing then s.waitWith .transfer
    else s.beginTransfer
  else s

/-- The board on the table that is COMPLETE (R33, first case). -/
def State.completeOnTable (s : State) : Option Parity :=
  [Parity.even, Parity.odd].find? fun p => s.onTable p && decide ((s.board p).phase = .complete)

/-- MOVE begins (R34): the exchange takes its kind and leaving board, and the axes take the
load-position targets. -/
def State.beginMove (s : State) (kind : ExchangeKind) (leaving : Option Leaving) : State :=
  State.giveTargets
    { s with exchange := { s.exchange with leg := .move, kind := kind, leaving := leaving } }
    s.loadTargets

/-- An exchange begins where R33 gives a case; otherwise nothing happens (log 1). -/
def State.exchangeIfMay (s : State) : State :=
  if s.exchange.leg = .idle ∧ s.working = true ∧ s.noneActive = true then
    match s.completeOnTable with
    | some p =>
      ((s.putBoard p { s.board p with tableState := .unloading }).evalPhase p).beginMove .unload
        (some { parity := p, number := (s.board p).number })
    | none =>
      if s.tableEmpty then
        if s.inputs.levels.clamped then s.beginMove .unload none
        else if s.nextToLoad.isSome then s.beginMove .load none
        else s
      else s
  else s

/-- EXCHANGE_BEGIN (R33, R34). -/
def execExchangeBegin (s : State) : Host.Outcome State Fault Refusal := event s State.exchangeIfMay

/-- Steps 1 and 2 of R35: the request ends, and the leaving board's record becomes FREE. The leaving
field stays named, with the leaving board's number, until the exchange ends (R36, R37, R40; log 29). -/
def State.transferEnds (s : State) : State :=
  let s1 : State :=
    { s with
      exchange := { s.exchange with transferTimer := none }
      outputs := { s.outputs with transferReq := false } }
  match s.exchange.leaving with
  | none => s1
  | some l =>
    s1.putBoard l.parity { s1.board l.parity with phase := .free, tableState := .notLoaded }

/-- Steps 3 to 5 of R35. -/
def State.afterTransfer (s : State) (present : Bool) : State :=
  match s.nextToLoad with
  | none =>
    { s with exchange := { s.exchange with leg := .idle, leaving := none, incoming := none } }
  | some _ =>
    if present then s.clampNext
    else
      { s with exchange := { s.exchange with leg := .presentWait, waiting := s.pausing } }

/-- A rising edge of TRANSFER_DONE (R35), ignored while TRANSFER_REQ is low (R38). `openFirst` takes
the opening that step 2 may allow before step 3 (R35, log 3). The end of the exchange, or of the last
open board, may end DRAINING (R187). -/
def State.transferDone (s : State) (present openFirst : Bool) : State :=
  if s.exchange.leg = .transfer ∧ s.outputs.transferReq = true then
    let s1 := s.transferEnds
    ((if openFirst then s1.openIfMay else s1).afterTransfer present).settle
  else s

/-- TRANSFER_DONE (R35). -/
def execTransferDone (boardPresent openFirst : Bool) (s : State) :
    Host.Outcome State Fault Refusal :=
  event s fun s => s.transferDone boardPresent openFirst

/-- BOARD_PRESENT becomes true (R36): it acts in PRESENT_WAIT with waiting NO (R38, R39). -/
def State.presentRise (s : State) : State :=
  if s.exchange.leg = .presentWait ∧ s.exchange.waiting = false then s.clampNext.settle else s

/-- BOARD_PRESENT_RISE (R36). -/
def execBoardPresentRise (s : State) : Host.Outcome State Fault Refusal := event s State.presentRise

/-- The stored level of CLAMPED. -/
def State.setClamped (s : State) (level : Bool) : State :=
  { s with
    inputs := { s.inputs with levels := { s.inputs.levels with clamped := level } } }

/-- CLAMPED rises (R36): it ends a CLAMPING leg with waiting NO, and has no other effect than its
level, which R33 reads (R38). -/
def State.clampedRise (s : State) : State :=
  if s.exchange.leg = .clamping ∧ s.exchange.waiting = false then
    (s.setClamped true).clampingEnds.settle
  else s.setClamped true

/-- CLAMPED_RISE (R36). -/
def execClampedRise (s : State) : Host.Outcome State Fault Refusal := event s State.clampedRise

/-- The number of the board that is AWAITING_ALIGN or ALIGNED on the table (R38). -/
def State.clampedBoard (s : State) : Option Nat :=
  ([Parity.even, Parity.odd].find? fun p =>
    s.isOpen p &&
      (decide ((s.board p).tableState = .awaitingAlign) ||
        decide ((s.board p).tableState = .aligned))).map fun p => (s.board p).number

/-- CLAMPED falls (R38): BOARD_TRANSFER is raised for a board AWAITING_ALIGN or ALIGNED, unless an
exchange is in flight outside a CLAMPING leg with waiting NO. -/
def State.clampedFall (s : State) : State :=
  let s1 := s.setClamped false
  if s.exchange.leg = .idle ∨ (s.exchange.leg = .clamping ∧ s.exchange.waiting = false) then
    match s.clampedBoard with
    | some n => (s1.raise .boardTransfer (some (.board n))).settle
    | none => s1
  else s1

/-- CLAMPED_FALL (R38). -/
def execClampedFall (s : State) : Host.Outcome State Fault Refusal := event s State.clampedFall

/-- The source of a BOARD_TRANSFER raised by a timer (R37): the number of the leaving board if one was
named, otherwise that of the older open board NOT_LOADED, if there is one. -/
def State.abandonSource (s : State) : Option Source :=
  match s.exchange.leaving with
  | some l => some (.board l.number)
  | none => s.nextToLoad.map fun p => .board (s.board p).number

/-- The exchange is abandoned (R37). -/
def State.abandonExchange (s : State) : State :=
  (State.raise
    { s with
      exchange :=
        { s.exchange with
          leg := .idle, leaving := none, incoming := none, transferTimer := none
          clampTimer := none }
      outputs := { s.outputs with transferReq := false, clamp := false } }
    .boardTransfer s.abandonSource).settle

/-- TRANSFER_TIMEOUT (R37): a timer that does not run cannot expire. -/
def execTransferTimeout (s : State) : Host.Outcome State Fault Refusal :=
  event s fun s => if s.exchange.transferTimer.isSome then s.abandonExchange else s

/-- CLAMP_TIMEOUT (R37): a timer that does not run cannot expire. -/
def execClampTimeout (s : State) : Host.Outcome State Fault Refusal :=
  event s fun s => if s.exchange.clampTimer.isSome then s.abandonExchange else s

/-- At RESUME an exchange that waits between legs begins the leg it holds (R39). -/
def State.exchangeContinue (s : State) (present : Bool) : State :=
  if s.exchange.waiting then
    let s1 : State := { s with exchange := { s.exchange with waiting := false } }
    match s.exchange.leg with
    | .transfer => s1.beginTransfer
    | .clamping => s1.beginClamping
    | .presentWait => if present then s1.beginClamping else s1
    | _ => s1
  else s

/-! ## Alignment (R41) -/

/-- The ranges of the operands of ALIGN (R41). -/
def correctionInRange (c : Correction) : Bool :=
  decide (-5000 ≤ c.dx) && decide (c.dx ≤ 5000) && decide (-5000 ≤ c.dy) && decide (c.dy ≤ 5000) &&
    decide (-2000 ≤ c.scale) && decide (c.scale ≤ 2000)

/-- ALIGN of a board by parity (R41). -/
def State.alignBoard (s : State) (p : Parity) (c : Correction) : Answer :=
  if !correctionInRange c then s.reply .refusedRange
  else if s.isOpen p ∧ (s.board p).tableState = .awaitingAlign then
    (((s.putBoard p { s.board p with tableState := .aligned, correction := some c }
      ).computeAwaiting).evalPhase p).ok
  else s.reply .refusedState

/-- ALIGN (R41): dx, dy and scale are signed (R206). -/
def execAlign (kind : Byte) (index : Half) (dx dy scale : Half) (s : State) :
    Host.Outcome State Fault Refusal :=
  taken 9 s fun s =>
    if kind = kindBoard then
      s.onParity index.toNat fun p =>
        s.alignBoard p { dx := dx.toInt, dy := dy.toInt, scale := scale.toInt }
    else s.reply .refusedRange

/-- A board record after RESET (R43): number, correction and counts are kept as history. -/
def BoardRecord.afterReset (b : BoardRecord) : BoardRecord :=
  { b with phase := .free, tableState := .notLoaded }

end Sys2Proof.Machine
end

