-- ==== Sys2Proof/Machine/Axes.lean ====
section
/-! DEFINITION. The activation of a move slot at 80 (R145, R147) and the axis controllers: position
samples and lock timers (spec 08, R152 to R154). -/

namespace Sys2Proof.Machine

/-! ## Activation at 80 (R145) -/

/-- The slot that meets the conditions of R145; two slots cannot both serve 80 (log 15). -/
def State.activatableAt80 (s : State) : Option Parity :=
  [Parity.even, Parity.odd].find? s.mayActivate

/-- A slot at 80 becomes ACTIVE and gives its targets to the axes (R147), and the head judges the
clip at 80 (R159); nothing happens while a condition fails (log 1). -/
def State.slotActivation (s : State) : State :=
  match s.activatableAt80 with
  | some p => (s.activate p).headJudge
  | none => s

/-- SLOT_ACTIVATION (R145). -/
def execSlotActivation (s : State) : Host.Outcome State Fault Refusal :=
  event s State.slotActivation

/-! ## Position samples (R152, R153) -/

/-- The magnitude of the error of a sample (R150). -/
abbrev AxisRecord.errorOf (a : AxisRecord) (count : Nat) : Nat := distance count a.target

/-- A sample in SLEW (R152). -/
def AxisRecord.sampleSlew (a : AxisRecord) (g : AxisSettings) (count : Nat) : AxisRecord :=
  if a.errorOf count ≤ g.settleWindow then { a with state := .settle, inRun := 0 } else a

/-- A sample in SETTLE (R152): the in-window run rises, and LOCKED is reached at the lock count. -/
def AxisRecord.sampleSettle (a : AxisRecord) (g : AxisSettings) (count : Nat) : AxisRecord :=
  if a.errorOf count ≤ g.lockWindow then
    if g.lockCount ≤ saturate 15 a.inRun then
      { a with inRun := saturate 15 a.inRun, state := .locked, lockTimer := none }
    else { a with inRun := saturate 15 a.inRun }
  else if a.errorOf count ≤ g.settleWindow then { a with inRun := 0 }
  else { a with inRun := 0, state := .slew }

/-- The sample in LOCKED at which lock is lost (R153). -/
def AxisRecord.losesLock (a : AxisRecord) (g : AxisSettings) (count : Nat) : Bool :=
  decide (a.state = .locked) && decide (g.lockWindow < a.errorOf count) &&
    decide (g.unlockCount ≤ saturate 15 a.outRun)

/-- A sample in LOCKED (R153). -/
def AxisRecord.sampleLocked (a : AxisRecord) (g : AxisSettings) (count : Nat) : AxisRecord :=
  if a.errorOf count ≤ g.lockWindow then { a with outRun := 0 }
  else if g.unlockCount ≤ saturate 15 a.outRun then
    { a with
      state := if a.errorOf count ≤ g.settleWindow then .settle else .slew
      inRun := 0, outRun := 0, lockTimer := some g.lockTimeout }
  else { a with outRun := saturate 15 a.outRun }

/-- A sample at an axis record: last position takes it, and it is judged by the state (R152). -/
def AxisRecord.sampled (a : AxisRecord) (g : AxisSettings) (count : Nat) : AxisRecord :=
  let a' : AxisRecord := { a with lastPosition := some count }
  match a.state with
  | .idle => a'
  | .slew => a'.sampleSlew g count
  | .settle => a'.sampleSettle g count
  | .locked => a'.sampleLocked g count

/-- FORM ends as soon as formed is YES and all four axes are LOCKED (R162). -/
def State.formEnds (s : State) : State :=
  if s.head.state = .form ∧ s.head.formed = true ∧ s.allLocked = true then
    { s with
      head := { s.head with state := .drive, phaseTimer := some s.settings.driveTimeout }
      outputs := { s.outputs with headDrive := true } }
  else s

/-- A head cycle is in DRIVE, CLINCH or RETRACT: a loss of lock raises AXIS_FOLLOW (R153). -/
def Head.needsLock (h : Head) : Bool :=
  match h.state with
  | .drive => true
  | .clinch => true
  | .retract => true
  | _ => false

/-- The sample that locks the last axis may end FORM (R162) or the MOVE leg (R34, `present` being
BOARD_PRESENT); one that loses lock ends HOMING (R161). -/
def State.axesChanged (s : State) (present : Bool) : State :=
  ((s.formEnds).moveLegEnd present).homingCheck

/-- A position sample (R152): AXIS_FOLLOW is raised at a loss of lock in DRIVE, CLINCH or RETRACT
(R153). The end of an axis move may end PAUSING or DRAINING (R185, R187). -/
def State.positionSample (s : State) (a : Axis) (count : Nat) (present : Bool) : State :=
  let s1 := s.putAxis a ((s.axis a).sampled (s.axisSettings a) count)
  if (s.axis a).losesLock (s.axisSettings a) count && s.head.needsLock then
    ((s1.axesChanged present).raise .axisFollow (some (.axis a))).settle
  else (s1.axesChanged present).settle

/-- POSITION_SAMPLE (R152): every sample is an event; BOARD_PRESENT is a level sampled where the MOVE
leg ends at it (log 4). -/
def execPositionSample (axis : Axis) (count : Sample) (boardPresent : Bool) (s : State) :
    Host.Outcome State Fault Refusal :=
  event s fun s => s.positionSample axis count.toNat boardPresent

/-! ## Lock timers (R154) -/

/-- The lock timer of an axis expires (R154): it stops, and AXIS_FOLLOW is raised; the axis keeps its
state and runs. A timer that does not run cannot expire (log 7). -/
def State.lockTimeout (s : State) (a : Axis) : State :=
  if (s.axis a).lockTimer.isSome then
    ((s.putAxis a { s.axis a with lockTimer := none }).raise .axisFollow (some (.axis a))).settle
  else s

/-- LOCK_TIMEOUT (R154). -/
def execLockTimeout (axis : Axis) (s : State) : Host.Outcome State Fault Refusal :=
  event s fun s => s.lockTimeout axis

end Sys2Proof.Machine
end

