-- ==== Sys2Proof/Machine/Chain.lean ====
section
/-! DEFINITION. The chain tracker and the index completion: the index record (R91 to R97), home-mark
protection (R98 to R103), the clip-condition table (R106, R107), and the reactions at the positions:
the call scan (R77 to R83), the stations (R49), verify (R109 to R113), the reject gate (R116 to R120)
and the move planner (R140 to R144). -/

namespace Sys2Proof.Machine

/-! ## The index (R93, R94, R96) -/

/-- The conditions of R93. -/
def State.mayIndex (s : State) : Bool :=
  decide (s.chain.indexState = .requested) && s.working && s.gateOpen

/-- Beginning an index (R94); REJECT_GATE goes low (R120). -/
def State.beginIndex (s : State) : State :=
  { s with
    chain :=
      { s.chain with
        indexState := .indexing, markSeen := false, indexTimer := some s.settings.indexTimeout }
    outputs := { s.outputs with rejectGate := false } }

/-- INDEX_BEGIN (R93, R94): nothing happens while a condition fails (log 1). -/
def execIndexBegin (s : State) : Host.Outcome State Fault Refusal :=
  event s fun s => if s.mayIndex then s.beginIndex else s

/-- The index timer expires (R96): a timer that does not run cannot expire. -/
def State.chainJam (s : State) : State :=
  if s.chain.indexState = .indexing ∧ s.chain.indexTimer.isSome then
    (State.raise
      { s with
        chain := { s.chain with indexState := .idle, indexTimer := none, markSeen := false } }
      .chainJam (some (.counter s.chain.counter))).settle
  else s

/-- INDEX_TIMEOUT (R96). -/
def execIndexTimeout (s : State) : Host.Outcome State Fault Refusal := event s State.chainJam

/-- A rising edge of HOME_MARK (R98): it sets mark seen while INDEXING, and is ignored otherwise. -/
def State.markEdge (s : State) : State :=
  if s.chain.indexState = .indexing then { s with chain := { s.chain with markSeen := true } }
  else s

/-- HOME_MARK_EDGE (R98). -/
def execHomeMarkEdge (s : State) : Host.Outcome State Fault Refusal := event s State.markEdge

/-! ## The home mark (R99 to R102) -/

/-- What the judgment of a home mark does to the clip ids of the stretch (R103). -/
inductive IdChange where
  | none
  | given
  | absent
deriving DecidableEq, Repr

/-- The chain record after the judgment, what it does to the ids, and whether lock was lost. -/
structure MarkJudgment where
  chain : Chain
  ids : IdChange
  lost : Bool
deriving DecidableEq, Repr

/-- Reaching LOCKED (R100): miss run, w and the candidate run become 0 and the ids are given. -/
def Chain.locks (c : Chain) : MarkJudgment :=
  { chain :=
      { c with
        syncState := .locked, counter := 0, missRun := 0, tolerance := 0, candidateRun := 0 }
    ids := .given
    lost := false }

/-- No change beyond the counter's rise. -/
def Chain.keeps (c : Chain) : MarkJudgment := { chain := c, ids := .none, lost := false }

/-- UNLOCKED (R99). -/
def Chain.judgeUnlocked (c : Chain) (nb : Nat) : MarkJudgment :=
  if c.markSeen then
    if nb ≤ 1 then c.locks
    else Chain.keeps { c with counter := 0, candidateRun := 1, syncState := .locking }
  else c.keeps

/-- LOCKING (R100). -/
def Chain.judgeLocking (c : Chain) (nb : Nat) : MarkJudgment :=
  if c.markSeen then
    if c.counter = 0 then
      if nb ≤ saturate 7 c.candidateRun then c.locks
      else Chain.keeps { c with candidateRun := saturate 7 c.candidateRun }
    else Chain.keeps { c with counter := 0, candidateRun := 1 }
  else if c.counter = 0 then Chain.keeps { c with syncState := .unlocked, candidateRun := 0 }
  else c.keeps

/-- A mark off its expected completion lies within the tolerance (R101). -/
def Chain.withinTolerance (c : Chain) : Bool :=
  (decide (1 ≤ c.counter) && decide (c.counter ≤ c.tolerance)) ||
    (decide (200 - c.tolerance ≤ c.counter) && decide (c.counter ≤ 199))

/-- LOCKED (R101), with the loss of lock (R102). -/
def Chain.judgeLocked (c : Chain) (nf : Nat) : MarkJudgment :=
  if c.markSeen then
    if c.counter = 0 then Chain.keeps { c with missRun := 0, tolerance := 0 }
    else if c.withinTolerance then
      { chain := { c with counter := 0, missRun := 0, tolerance := 0 }, ids := .given, lost := false }
    else c.keeps
  else if c.counter = 0 then
    if nf ≤ saturate 7 c.missRun then
      { chain :=
          { c with syncState := .unlocked, missRun := 0, tolerance := 0, candidateRun := 0 }
        ids := .absent
        lost := true }
    else
      Chain.keeps
        { c with missRun := saturate 7 c.missRun, tolerance := saturate 3 c.tolerance }
  else c.keeps

/-- Steps 1 to 3 of a completion on the chain record (R95): the index ends, the counter rises, and
the mark is judged by the present synchronisation state. -/
def Chain.completed (c : Chain) (nf nb : Nat) : MarkJudgment :=
  let c1 : Chain :=
    { c with indexState := .idle, indexTimer := none, counter := (c.counter + 1) % 200 }
  match c.syncState with
  | .unlocked => c1.judgeUnlocked nb
  | .locking => c1.judgeLocking nb
  | .locked => c1.judgeLocked nf

/-- The clip id of the record at position `p` (R103). -/
def clipIdAt (counter p : Nat) : Nat := (counter + 200 - p) % 200

/-- Every record takes its id by its position (R103). -/
def giveIds (counter : Nat) (l : List Clip) : List Clip :=
  l.zipIdx.map fun e => { e.1 with clipId := some (clipIdAt counter e.2) }

/-- The record that enters at position 0 (R70). -/
def enteringClip (c : Chain) : Clip :=
  { state := .empty, call := none, verify := none, dump := false
    clipId := if c.syncState = .locked then some c.counter else none }

/-- The stretch shifts: every record moves up one position and the last one leaves (R70). -/
def shifted (c : Chain) (l : List Clip) : List Clip := (enteringClip c :: l).take l.length

/-- The stretch after step 4 of R95: shifted, with the ids that R103 gives after step 3. -/
def shiftedWithIds (j : MarkJudgment) (l : List Clip) : List Clip :=
  match j.ids with
  | .none => shifted j.chain l
  | .given => giveIds j.chain.counter (shifted j.chain l)
  | .absent => (shifted j.chain l).map fun c => { c with clipId := none }

/-- A slot whose position is 79 takes position 80 (R144). -/
def MoveSlot.advanced (m : MoveSlot) : MoveSlot :=
  match m.position with
  | some .p79 => { m with position := some .p80 }
  | _ => m

/-- Steps 1 to 4 of a completion (R95) with the slots' advance (R144): the alarms of R102 are raised
in the table, or their condition ends (R100). -/
def State.shift (s : State) : State :=
  let j := s.chain.completed s.settings.forwardProtection s.settings.backwardProtection
  let s1 : State :=
    { s with
      chain := j.chain
      stretch := shiftedWithIds j s.stretch
      slots := s.slots.map MoveSlot.advanced }
  if j.lost then s1.raiseRecord .chainSync none
  else if s.chain.syncState ≠ .locked ∧ j.chain.syncState = .locked then s1.endCondition .chainSync
  else s1

/-- Lock is lost at this completion (R102). -/
def State.losesLock (s : State) : Bool :=
  (s.chain.completed s.settings.forwardProtection s.settings.backwardProtection).lost

/-! ## The call scan (R77 to R83) -/

/-- A station is available, and not among those treated as not available for this entering clip
(R47, R82). -/
def State.availableFor (s : State) (excluded : List Nat) (k : Nat) : Bool :=
  !excluded.contains k &&
    match s.station? k with
    | some st => st.available
    | none => false

/-- The serving station of a placement (R79). -/
def State.servingStation (s : State) (excluded : List Nat) (r : Placement) : Option Nat :=
  if s.availableFor excluded r.station then some r.station
  else if r.substitute then
    match s.station? r.station with
    | none => none
    | some named =>
      if named.group = 0 then none
      else
        stationNumbers.find? fun k =>
          s.availableFor excluded k &&
            match s.station? k with
            | some st => decide (st.group = named.group)
            | none => false
  else none

/-- Conditions 1 to 3 of R78: the pair is CALLABLE in an open board, its hold is FREE, and no
placement that must precede it is uncarried. -/
def State.mayBeCalled (s : State) (n : Nat) (p : Parity) : Bool :=
  s.isOpen p &&
    match s.slot? n with
    | none => false
    | some r =>
      decide ((r.status.get p).state = .callable) && decide (r.hold = .free) &&
        s.pairs.all fun e => !s.mustPrecede e.1 e.2 n p || s.carriedIn e.1 e.2

/-- The terms of the calling key (R80) that a record gives: tier, sequence and slot. -/
def callingKey (n : Nat) (r : Placement) : Nat × Nat × Nat := (r.tier, r.sequence, n)

/-- A calling key is less than another, term by term (R80). -/
def keyLess (a b : Nat × Nat × Nat) : Bool :=
  decide (a.1 < b.1) ||
    (decide (a.1 = b.1) &&
      (decide (a.2.1 < b.2.1) || (decide (a.2.1 = b.2.1) && decide (a.2.2 < b.2.2))))

/-- A placement that the scan may choose, with its record. -/
structure Candidate where
  slot : Nat
  record : Placement
deriving DecidableEq, Repr

/-- The candidate with the lesser key (R80). -/
def lesser (a b : Candidate) : Candidate :=
  if keyLess (callingKey b.slot b.record) (callingKey a.slot a.record) then b else a

/-- The candidate of least key in a list (R80). -/
def leastCandidate : List Candidate → Option Candidate
  | [] => none
  | c :: cs =>
    match leastCandidate cs with
    | none => some c
    | some d => some (lesser c d)

/-- The placements of board `p` that meet conditions 1 to 3 of R78 and the given test of condition
4. -/
def State.candidates (s : State) (p : Parity) (fourth : Placement → Bool) : List Candidate :=
  s.admitted.filterMap fun n =>
    match s.slot? n with
    | none => none
    | some r => if s.mayBeCalled n p && fourth r then some { slot := n, record := r } else none

/-- The pair of least calling key among those that meet conditions 1 to 3 and the test (R80): the
older board first. -/
def State.leastPair (s : State) (fourth : Placement → Bool) : Option (Parity × Candidate) :=
  s.boardsByAge.findSome? fun p =>
    (leastCandidate (s.candidates p fourth)).map fun c => (p, c)

/-- A commit request (R48): granted if the station is available at that moment. -/
def State.commit (s : State) (k : Nat) : Option State :=
  match s.station? k with
  | none => none
  | some st =>
    if st.available then some (s.putStation k { st with committed := st.committed + 1 }) else none

/-- The assignment of R81 after a granted commit: the entering record, then the call request. -/
def State.assign (s : State) (p : Parity) (n k : Nat) : State :=
  (s.putClip 0
    { s.clip 0 with
      state := .assigned
      call := some { board := (s.board p).number, placement := n, station := k } }).callRequest n p

/-- The judgment of starvation (R83): the least starved pair's named station, if there is one. -/
def State.starvedStation (s : State) (excluded : List Nat) : Option Nat :=
  (s.leastPair fun r => (s.servingStation excluded r).isNone).map fun e => e.2.record.station

/-- The choice of the scan (R80 to R83): after a refused commit it chooses again with that station
treated as not available (R82). The answer names the station of a starving completion. -/
def State.scanFrom (s : State) : Nat → List Nat → State × Option Nat
  | 0, _ => (s, none)
  | fuel + 1, excluded =>
    match s.leastPair fun r => (s.servingStation excluded r).isSome with
    | none => (s, s.starvedStation excluded)
    | some (p, c) =>
      match s.servingStation excluded c.record with
      | none => (s, none)
      | some k =>
        match s.commit k with
        | some t => (t.assign p c.slot k, none)
        | none => s.scanFrom fuel (k :: excluded)

/-- The entering clip is BAD in the clip-condition table while LOCKED (R77). -/
def State.enteringIsBad (s : State) : Bool :=
  decide (s.chain.syncState = .locked) &&
    match (s.clip 0).clipId with
    | some id => decide ((s.condition id).state = .bad)
    | none => false

/-- The call scan at a completion (R77): the state, and the kinds it raised. -/
def State.callScan (s : State) : State × List AlarmKind :=
  if s.working && !s.enteringIsBad then
    match s.scanFrom (Config.stationCount + 1) [] with
    | (t, some k) => (t.raiseRecord .starve (some (.station k)), [.starve])
    | (t, none) => (t, [])
  else (s, [])

/-! ## The stations at a completion (R49) -/

/-- Station `k` looks at the clip that has come to its position (R49). -/
def State.stationReacts (s : State) (k : Nat) : State :=
  if s.clipWaits k then
    match s.station? k with
    | none => s
    | some st =>
      if st.state ≠ .ready then s.dropAt k
      else if s.working then s.takeOn k
      else s.putStation k { st with feed := .due }
  else s

/-! ## Verify at 76 (R109 to R113) -/

/-- The clip-condition entry after a judgment of a LOADED clip (R106). -/
def ClipCondition.judged (e : ClipCondition) (threshold : Nat) : Judgment → ClipCondition
  | .good => ClipCondition.sound
  | _ =>
    { failCount := saturate 7 e.failCount
      state := if threshold ≤ saturate 7 e.failCount then .bad else .watch }

/-- The report of a judgment to the chain tracker (R106, R113): an absent id changes no entry. -/
def State.reportCondition (s : State) (id : Option Nat) (j : Judgment) : State :=
  match id with
  | none => s
  | some n => s.putCondition n ((s.condition n).judged s.settings.badThreshold j)

/-- The judgment of a LOADED clip from the two lines (R110). -/
def judgeLoaded (present leads : Bool) : Judgment :=
  if present then if leads then .good else .leadFault else .empty

/-- Verify writes its judgment on the record at 76 (R109). -/
def State.writeJudgment (s : State) (state : ClipState) (j : Judgment) : State :=
  s.putClip 76 { s.clip 76 with state := state, verify := some j }

/-- The judgment of a record that carries nothing (R111). -/
def State.judgeUncarried (s : State) (present : Bool) : State :=
  if present then s.writeJudgment .stray .stray else s.writeJudgment .passedEmpty .empty

/-- The clip stops carrying at a failing judgment (R110): a counted recall, or a miss that raises
PLACEMENT_MISSED (R8, R115). -/
def State.countedRecallOf (s : State) (c : Option Call) : State × List AlarmKind :=
  match c with
  | none => (s, [])
  | some k =>
    if s.exceedsLimit k.placement k.parity then
      ((s.recallCounted k.placement k.parity).raiseRecord .placementMissed
        (some (.slot k.placement)), [.placementMissed])
    else (s.recallCounted k.placement k.parity, [])

/-- Verify at a completion (R109): the state, and the kinds it raised. -/
def State.verifyReacts (s : State) (present leads : Bool) : State × List AlarmKind :=
  match (s.clip 76).state with
  | .loaded =>
    let j := judgeLoaded present leads
    let s1 := s.reportCondition (s.clip 76).clipId j
    if j = .good then (s1.writeJudgment .verified .good, [])
    else (s1.writeJudgment .bad j).countedRecallOf (s.clip 76).call
  | .empty => (s.judgeUncarried present, [])
  | .unknown => (s.judgeUncarried present, [])
  | .dropMissed => (s.judgeUncarried present, [])
  | _ => (s, [])

/-! ## The reject gate at 78 (R116 to R120) -/

/-- REJECT_GATE goes high (R120). -/
def State.eject (s : State) : State := { s with outputs := { s.outputs with rejectGate := true } }

/-- The reject gate at a completion (R116). -/
def State.gateReacts (s : State) : State :=
  match (s.clip 78).state with
  | .bad => s.eject.markClip 78 .rejected
  | .stray => s.eject.markClip 78 .rejected
  | .verified =>
    match (s.clip 78).call with
    | none => s
    | some c =>
      if s.predecessorsAtHead c.placement c.parity then s
      else (s.eject.markClip 78 .deferred).recallDeferral c.placement c.parity
  | _ => s

/-! ## The move planner at 79 (R140) -/

/-- The move planner at a completion (R140). -/
def State.plannerReacts (s : State) : State :=
  match (s.clip 79).state with
  | .unknown => s.planDump .p79
  | .verified =>
    if (s.clip 79).dump then s
    else
      match (s.clip 79).call with
      | none => s
      | some c => s.planInsert .p79 c.job
  | _ => s

/-! ## The completion (R95, R70) -/

/-- One block reacts (R70). -/
def State.reacts (s : State) (present leads : Bool) : Reactor → State × List AlarmKind
  | .scan => s.callScan
  | .station k => (s.stationReacts k, [])
  | .verify => s.verifyReacts present leads
  | .gate => (s.gateReacts, [])
  | .planner => (s.plannerReacts, [])

/-- The blocks react in the order given; the kinds raised are gathered in order. -/
def State.reactInOrder (present leads : Bool) : List Reactor → State → State × List AlarmKind
  | [], s => (s, [])
  | r :: rs, s =>
    let a := s.reacts present leads r
    let b := State.reactInOrder present leads rs a.1
    (b.1, a.2 ++ b.2)

/-- Every block that reacts at a completion, in the order of the path of a component reversed: the
rules give them no order (R70). -/
def allReactors : List Reactor :=
  [.planner, .gate, .verify] ++ stationNumbers.map Reactor.station ++ [.scan]

/-- The order taken at a completion: first the blocks that the command names, each once, then the
others (log 3). -/
def fullOrder (named : List Reactor) : List Reactor :=
  (named.filter fun r => allReactors.contains r).eraseDups ++
    allReactors.filter fun r => !named.contains r

/-- INDEX_DONE rises (R95): ignored outside INDEXING. Every block reacts once on the shifted stretch,
the head judges the clip at 80 (R159), and the reactions of the alarms raised are then taken in the
order of their raising (R97, log 5). The end of the index may end PAUSING or DRAINING (R185, R187). -/
def State.indexCompletion (s : State) (present leads : Bool) (order : List Reactor) : State :=
  if s.chain.indexState = .indexing then
    let r := State.reactInOrder present leads (fullOrder order) s.shift
    (r.1.homingCheck.headJudge.reactAll (if s.losesLock then .chainSync :: r.2 else r.2)).settle
  else s

/-- INDEX_COMPLETION (R95): VERIFY_PRESENT and VERIFY_LEADS as they stand at the event (R109). -/
def execIndexCompletion (present leads : Bool) (order : List Reactor) (s : State) :
    Host.Outcome State Fault Refusal :=
  event s fun s => s.indexCompletion present leads order

/-! ## CLEAR of a clip-condition entry (R107) -/

/-- CLEAR_CLIP_CONDITION (R107). -/
def execClearClipCondition (index : Half) (s : State) : Host.Outcome State Fault Refusal :=
  taken 12 s fun s =>
    if index.toNat < Config.clipCount then
      (s.putCondition index.toNat ClipCondition.sound).ok
    else s.reply .refusedRange

end Sys2Proof.Machine
end

