-- ==== Sys2Proof/Machine/Head.lean ====
section
/-! DEFINITION. The head sequencer: the start of a cycle, HOMING, the four phases and their timeouts
(spec 09, R160 to R168, R171), and the stall of a stroke, which both the head's phase timer and the
clinch drive bring about. -/

namespace Sys2Proof.Machine

/-! ## Starting a cycle (R160, R161) -/

/-- The stroke plan an INSERT cycle reads from its placement record at cycle start (R160). -/
def State.strokePlan (s : State) (j : Job) : Option StrokePlan :=
  (s.slot? j.placement).map fun r => { profile := r.clinch, trip := r.trip }

/-- The cycle fields a cycle takes from the move slot (R158, R160): board, placement, profile and trip
belong to an INSERT cycle. -/
def State.cycleHead (s : State) (p : Parity) : Head :=
  let m := s.moveSlot p
  let job := if m.kind = some .insert then m.job else none
  { state := .form, kind := m.kind, slot := some p, job := job, plan := job.bind s.strokePlan
    formed := false, cleared := false, held := .none, peak := 0
    phaseTimer := some s.settings.formTimeout }

/-- The start of a cycle with slot `p` (R160). -/
def State.startCycle (s : State) (p : Parity) : State :=
  { s with head := s.cycleHead p, outputs := { s.outputs with former := true } }

/-- A cycle starts where every condition of R160 holds; otherwise nothing happens (log 1). The event is
the row CYCLE_START, but for the rise of HOME that ends HOMING, which judges it itself (R161). -/
def State.cycleStart (s : State) (home : Bool) : State :=
  if s.head.state = .idle ∧ home = true then
    match s.startReady with
    | some p => s.startCycle p
    | none => s
  else s

/-- CYCLE_START (R160): HOME is the level as sampled (log 4). -/
def execCycleStart (home : Bool) (s : State) : Host.Outcome State Fault Refusal :=
  event s fun s => s.cycleStart home

/-- The head enters HOMING where every condition of R160 holds but for HOME, which is low (R161). -/
def State.homingStart (s : State) (home : Bool) : State :=
  if s.head.state = .idle ∧ home = false ∧ s.startReady.isSome = true then
    { s with
      head := { s.head with state := .homing, phaseTimer := some s.settings.retractTimeout } }
  else s

/-- HOMING_START (R161). -/
def execHomingStart (home : Bool) (s : State) : Host.Outcome State Fault Refusal :=
  event s fun s => s.homingStart home

/-! ## FORM and DRIVE (R162, R163) -/

/-- A rising edge of FORMED (R162): ignored outside FORM and with formed YES (R168). -/
def State.formedEdge (s : State) : State :=
  if s.head.state = .form ∧ s.head.formed = false then
    State.formEnds { s with head := { s.head with formed := true, phaseTimer := none } }
  else s

/-- FORMED (R162). -/
def execFormed (s : State) : Host.Outcome State Fault Refusal := event s State.formedEdge

/-- A stroke is commanded with the clinch timeout running (R163, R172). -/
def State.enterStroke (s : State) : State :=
  State.beginStroke
    { s with
      head :=
        { s.head with
          state := .clinch, held := .none, phaseTimer := some s.settings.clinchTimeout } }

/-- The head enters RETRACT: FORMER and HEAD_DRIVE low, the retract timer running, and the clip at 80
EMPTY (R163, R164, R71). -/
def State.enterRetract (s : State) : State :=
  State.putClip
    { s with
      head :=
        { s.head with
          state := .retract, held := .none, phaseTimer := some s.settings.retractTimeout }
      outputs := { s.outputs with former := false, headDrive := false } }
    80 ((s.clip 80).emptied .empty)

/-- A rising edge of DOWN (R163): ignored outside DRIVE (R168). -/
def State.downEdge (s : State) : State :=
  if s.head.state = .drive then
    match s.head.kind with
    | some .insert => s.enterStroke
    | some .dump => s.enterRetract
    | none => s
  else s

/-- DOWN (R163). -/
def execDown (s : State) : Host.Outcome State Fault Refusal := event s State.downEdge

/-! ## CLINCH (R164, R171) -/

/-- The insertion request of a cycle for its placement (R9, R164). -/
def State.requestInsertion (s : State) (h : Head) : State :=
  match h.job with
  | none => s
  | some j => s.insertionRequest j.placement (parityOf j.board) h.peak

/-- A rising edge of CLINCH_END (R164), whatever held is; ignored outside CLINCH (R168). -/
def State.clinchEnd (s : State) : State :=
  if s.head.state = .clinch then
    State.requestInsertion
      (State.enterRetract { s with drive := s.drive.strokeEnded }) s.head
  else s

/-- CLINCH_END (R164). -/
def execClinchEnd (s : State) : Host.Outcome State Fault Refusal := event s State.clinchEnd

/-- The placement slot that a clinch alarm names (R171, R174, R175). -/
def Head.placementSource (h : Head) : Option Source := h.job.map fun j => .slot j.placement

/-- The drive at a stall: the stroke ends, the strike is counted, and a fifth strike sets lockout
(R171). -/
def Drive.stalled (d : Drive) : Drive :=
  { d.strokeEnded with
    strikes := saturate 255 d.strikes
    lockout := d.lockout || decide (5 ≤ saturate 255 d.strikes) }

/-- The stroke stalls (R171): the head is no longer in flight, which may end PAUSING (R185). -/
def State.stall (s : State) : State :=
  (State.raise
    { s with
      drive := s.drive.stalled
      head := { s.head with held := .stall, phaseTimer := none } }
    .clinchStall s.head.placementSource).settle

/-! ## RETRACT (R165) -/

/-- The release of the cycle's slot (R148, R165). -/
def State.releaseCycleSlot (s : State) : State :=
  match s.head.slot with
  | some p => s.releaseSlot p
  | none => s

/-- The steps of head clear (R165, R146). `exchangeFirst` takes the exchange that the release of the
slot may allow before the activation of the slot at 79 (R33, R146, log 3). -/
def State.headClearSteps (s : State) (exchangeFirst : Bool) : State :=
  let s1 := State.releaseCycleSlot { s with head := { s.head with cleared := true } }
  (if exchangeFirst then s1.exchangeIfMay else s1).earlyActivation.requestIndex

/-- A rising edge of CLEAR (R165): the first in RETRACT is head clear; others are ignored. -/
def State.headClear (s : State) (exchangeFirst : Bool) : State :=
  if s.head.state = .retract ∧ s.head.cleared = false then s.headClearSteps exchangeFirst else s

/-- HEAD_CLEAR (R165). -/
def execHeadClear (exchangeFirst : Bool) (s : State) : Host.Outcome State Fault Refusal :=
  event s fun s => s.headClear exchangeFirst

/-- HOMING ends, and the head, now IDLE, judges the clip at 80 (R161, R159). -/
def State.homingEnds (s : State) : State :=
  State.headJudge { s with head := { s.head with state := .idle, phaseTimer := none } }

/-- RETRACT ends, with head clear first where it has not been taken, and the head, now IDLE, judges the
clip at 80 (R165, R159). -/
def State.retractEnds (s : State) (exchangeFirst : Bool) : State :=
  let s1 := s.headClear exchangeFirst
  State.headJudge { s1 with head := s1.head.ended }

/-- HOME ends HOMING: the start conditions are judged at once, with HOME high, so the cycle starts if
they still hold (R161, R160). -/
def State.homingArrives (s : State) : State := s.homingEnds.cycleStart true

/-- A rising edge of HOME (R165, R161): it ends RETRACT and HOMING, and so may end PAUSING or DRAINING
(R185, R187); elsewhere it is ignored. -/
def State.homeRise (s : State) (exchangeFirst : Bool) : State :=
  match s.head.state with
  | .retract => (s.retractEnds exchangeFirst).settle
  | .homing => s.homingArrives.settle
  | _ => s

/-- HOME_RISE (R165, R161). -/
def execHomeRise (exchangeFirst : Bool) (s : State) : Host.Outcome State Fault Refusal :=
  event s fun s => s.homeRise exchangeFirst

/-! ## The phase timer (R161, R166, R171) -/

/-- HEAD_JAM in FORM, DRIVE or RETRACT (R166): the timer stops and the outputs keep their levels. The
sensor edge that the timer waited for, where it comes with the expiry, is taken before the HALT of
the reaction (log 3). -/
def State.headJam (s : State) (phase : JamPhase) (edge : State → State) : State :=
  ((edge (State.raiseRecord { s with head := { s.head with phaseTimer := none } } .headJam
    (some (.phase phase)))).react (s.alarm .headJam).reaction).settle

/-- HOMING times out (R161): the state becomes IDLE and HEAD_JAM is raised with source HOME. -/
def State.homingJam (s : State) : State :=
  (s.homingEnds.raise .headJam (some (.phase .home))).settle

/-- The edge taken with an expiry, if there is one. -/
def withEdge (edge : Bool) (f : State → State) : State → State := if edge then f else id

/-- The phase timer expires: a jam (R161, R166), or a stall in CLINCH (R171). A timer that does not
run cannot expire (log 7).

DESIGN CHOICE (log 39): an edge of CLINCH_END that arrives with a stall, the stall first, is a command of
its own after it. Where CLINCH_STALL has reaction HALT, that HALT comes before it and the placement is
INTERRUPTED (R194, R167), although R171 lets the edge make the insertion.

DESIGN CHOICE (log 40): an edge of HOME that arrives with the expiry in HOMING, the expiry first, is a
command of its own after it. The HALT of HEAD_JAM comes before it: R166 names FORM, DRIVE and RETRACT
alone, and R161 gives no order. -/
def State.phaseTimeout (s : State) (edge exchangeFirst : Bool) : State :=
  if s.head.phaseTimer.isSome then
    match s.head.state with
    | .idle => s
    | .homing => s.homingJam
    | .form => s.headJam .form (withEdge edge State.formedEdge)
    | .drive => s.headJam .drive (withEdge edge State.downEdge)
    | .clinch => s.stall
    | .retract => s.headJam .retract (withEdge edge fun t => t.retractEnds exchangeFirst)
  else s

/-- PHASE_TIMEOUT (R166): `edge` is the sensor edge that the timer waits for, arriving with the
expiry in FORM, DRIVE or RETRACT and taken after it; in CLINCH and HOMING it carries nothing (log 39,
log 40). -/
def execPhaseTimeout (edge exchangeFirst : Bool) (s : State) : Host.Outcome State Fault Refusal :=
  event s fun s => s.phaseTimeout edge exchangeFirst

end Sys2Proof.Machine
end

