-- ==== Sys2Proof/Machine/Drive.lean ====
section
/-! DEFINITION. The clinch drive: chopping, current samples, over-current, the restroke, and the lines
OVERTEMP and SUPPLY_OK (spec 09, R170 to R176). BRIDGE_ON follows by the arbiter (R177, Flags). -/

namespace Sys2Proof.Machine

/-! ## Chopping (R170) -/

/-- The trip current of a stroke, in units of 0.05 A (R169): 1.5 A plus 0.5 A for each step of the
cycle's trip field. -/
def StrokePlan.tripCurrent (pl : StrokePlan) : Nat := 30 + 10 * pl.trip

/-- ISENSE, in units of 0.05 A, stands at or above the trip current of the cycle (R169, R170). -/
def Head.tripsAt (h : Head) (current : Nat) : Bool :=
  match h.plan with
  | some pl => decide (pl.tripCurrent ≤ current)
  | none => false

/-- A trip in phase ON (R170): one chop, and the off-time begins. A stroke that has tripped is not open,
so the open run ends (R175). -/
def Drive.tripped (d : Drive) : Drive :=
  { d with
    chop := .offTime
    chopCount := saturate 255 d.chopCount
    offTimer := some d.inForce.offTime
    openRun := false }

/-- ISENSE reaches `current` (R170): at the trip current it is a trip, and the stroke stalls when the
count equals the stall limit (R171); below the trip current, outside a stroke and in OFF_TIME there is
no effect. -/
def State.tripReached (s : State) (current : Nat) : State :=
  if s.drive.stroke = .commanded ∧ s.drive.chop = .on ∧ s.head.tripsAt current = true then
    if saturate 255 s.drive.chopCount = s.drive.inForce.stallLimit then
      State.stall { s with drive := s.drive.tripped }
    else { s with drive := s.drive.tripped }
  else s

/-- TRIP_REACHED (R170): `current` is ISENSE in units of 0.05 A (log 19). -/
def execTripReached (s : State) (current : Nat := 255) : Host.Outcome State Fault Refusal :=
  event s fun s => s.tripReached current

/-- The off-time timer expires (R170): the chop returns to ON. -/
def State.offTimeExpiry (s : State) : State :=
  if s.drive.offTimer.isSome then { s with drive := { s.drive with chop := .on, offTimer := none } }
  else s

/-- OFF_TIME_EXPIRY (R170). -/
def execOffTimeExpiry (s : State) : Host.Outcome State Fault Refusal := event s State.offTimeExpiry

/-! ## Samples and the open run (R170, R175) -/

/-- The drive at one sample (R170, R175): below the open sample count the sample is counted, and one
at or above the open threshold ends the open run. -/
def Drive.sampled (d : Drive) (current : Nat) : Drive :=
  if d.samples < d.inForce.openSamples then
    { d with
      samples := d.samples + 1
      openRun := d.openRun && decide (current < d.inForce.openThreshold) }
  else d

/-- The sample at which the open run is complete (R175): an open load. -/
def Drive.findsOpen (d : Drive) (current : Nat) : Bool :=
  decide (d.samples < d.inForce.openSamples) &&
    decide ((d.sampled current).samples = d.inForce.openSamples) && (d.sampled current).openRun

/-- The stroke ends with an open load (R175): no strike is counted. The head is no longer in flight,
which may end PAUSING (R185). -/
def State.openLoad (s : State) : State :=
  (State.raise
    { s with
      drive := s.drive.strokeEnded
      head := { s.head with held := .open, phaseTimer := none } }
    .clinchOpen s.head.placementSource).settle

/-- A current sample in a stroke (R170): the peak takes it if it is higher, stopping at 255. -/
def State.clinchSample (s : State) (current : Nat) : State :=
  if s.drive.stroke = .commanded then
    let s1 : State :=
      { s with
        drive := s.drive.sampled current
        head := { s.head with peak := max s.head.peak (min 255 current) } }
    if s.drive.findsOpen current then s1.openLoad else s1
  else s

/-- CLINCH_SAMPLE (R170): the sample in units of 0.05 A (log 19). -/
def execClinchSample (current : Nat) (s : State) : Host.Outcome State Fault Refusal :=
  event s fun s => s.clinchSample current

/-! ## Over-current (R174) -/

/-- ISENSE, in units of 0.05 A, stands above the over-current threshold (R174): that of the stroke in
force, since a changed threshold applies from the next stroke begun (R179). -/
def Drive.overcurrentAt (d : Drive) (current : Nat) : Bool :=
  decide (d.inForce.overcurrentThreshold < current)

/-- ISENSE rises to `current` (R174): above the over-current threshold, in a stroke, it starts the
filter; at or below it there is no effect. -/
def State.overcurrentRise (s : State) (current : Nat) : State :=
  if s.drive.stroke = .commanded ∧ s.drive.overcurrentAt current = true then
    { s with drive := { s.drive with filter := some s.drive.inForce.filterTime } }
  else s

/-- OVERCURRENT_RISE (R174): `current` is ISENSE in units of 0.05 A (log 19). -/
def execOvercurrentRise (s : State) (current : Nat := 255) : Host.Outcome State Fault Refusal :=
  event s fun s => s.overcurrentRise current

/-- ISENSE falls to `current` (R174): at or below the threshold the filter stops, and the condition of
CLINCH_OVERCURRENT ends; above it there is no effect. -/
def State.overcurrentFall (s : State) (current : Nat) : State :=
  if s.drive.overcurrentAt current then s
  else State.endCondition { s with drive := { s.drive with filter := none } } .clinchOvercurrent

/-- OVERCURRENT_FALL (R174): `current` is ISENSE in units of 0.05 A (log 19). -/
def execOvercurrentFall (s : State) (current : Nat := 0) : Host.Outcome State Fault Refusal :=
  event s fun s => s.overcurrentFall current

/-- The filter expires (R174): the claim stands from here (the record is not CLEAR), and
CLINCH_OVERCURRENT is raised. A filter that does not run cannot expire. -/
def State.filterExpiry (s : State) : State :=
  if s.drive.filter.isSome then
    (State.raise { s with drive := { s.drive with filter := none } } .clinchOvercurrent
      s.head.placementSource).settle
  else s

/-- OVERCURRENT_FILTER_EXPIRY (R174). -/
def execOvercurrentFilterExpiry (s : State) : Host.Outcome State Fault Refusal :=
  event s State.filterExpiry

/-! ## Restroke (R172) -/

/-- The record that held the CLINCH phase is CLEAR (R172, condition 3). -/
def State.holdLifted (s : State) : Bool :=
  match s.head.held with
  | .none => false
  | .stall => decide ((s.alarm .clinchStall).state = .clear)
  | .open => decide ((s.alarm .clinchOpen).state = .clear)

/-- A held CLINCH phase restrokes where the conditions of R172 hold; otherwise nothing happens
(log 1). -/
def State.restroke (s : State) : State :=
  if s.head.state = .clinch ∧ s.working = true ∧ s.driveAvailable = true ∧ s.holdLifted = true then
    s.enterStroke
  else s

/-- RESTROKE (R172). -/
def execRestroke (s : State) : Host.Outcome State Fault Refusal := event s State.restroke

/-! ## OVERTEMP and SUPPLY_OK (R176) -/

/-- The stored level of OVERTEMP. -/
def State.setOvertemp (s : State) (level : Bool) : State :=
  { s with inputs := { s.inputs with levels := { s.inputs.levels with overtemp := level } } }

/-- The stored level of SUPPLY_OK. -/
def State.setSupply (s : State) (level : Bool) : State :=
  { s with inputs := { s.inputs with levels := { s.inputs.levels with supplyOk := level } } }

/-- OVERTEMP_RISE (R176): the claim of the arbiter follows the level. HOMING ends, since the drive is
no longer available (R161). -/
def execOvertempRise (s : State) : Host.Outcome State Fault Refusal :=
  event s fun s => ((s.setOvertemp true).homingCheck.raise .overTemp none).settle

/-- OVERTEMP_FALL (R176): the condition of OVER_TEMP ends. -/
def execOvertempFall (s : State) : Host.Outcome State Fault Refusal :=
  event s fun s => (s.setOvertemp false).endCondition .overTemp

/-- SUPPLY_OK_FALL (R176). -/
def execSupplyOkFall (s : State) : Host.Outcome State Fault Refusal :=
  event s fun s => ((s.setSupply false).homingCheck.raise .supplyLow none).settle

/-- SUPPLY_OK_RISE (R176): the condition of SUPPLY_LOW ends. -/
def execSupplyOkRise (s : State) : Host.Outcome State Fault Refusal :=
  event s fun s => (s.setSupply true).endCondition .supplyLow

end Sys2Proof.Machine
end

