-- ==== Sys2Proof/Machine/MachineStates.lean ====
section
/-! DEFINITION. The machine controller: ACK, RUN, PAUSE, RESUME, DRAIN, HALT and RECOVER, the ends of
PAUSING and DRAINING, and STOP_N (spec 10, R182 to R190). -/

namespace Sys2Proof.Machine

/-- The machine record in state `m` with no return state. -/
def State.enter (s : State) (m : MachineState) : State :=
  { s with machine := { state := m, returnState := none } }

/-! ## ACK and RUN (R182, R183) -/

/-- ACK (R182): START becomes STOPPED. -/
def State.ack (s : State) : Answer :=
  match s.machine.state with
  | .start => (s.enter .stopped).ok
  | _ => s.reply .refusedState

/-- ACK (R182). -/
def execAck (s : State) : Host.Outcome State Fault Refusal := taken 14 s State.ack

/-- The conditions of RUN (R183). -/
def State.mayRun (s : State) : Bool :=
  decide (s.machine.state = .stopped) && !s.haltAlarm && s.inputs.levels.stopN

/-- The run counter at RUN: 0 where no board is open (R28, R183). -/
def State.runCounterAtRun (s : State) : Nat := if s.boardOpen then s.runCounter else 0

/-- The verify judgment at RUN of an UNKNOWN record at 76 (R112). -/
def State.judgeAtRun (s : State) (present : Bool) : State :=
  if (s.clip 76).state = .unknown then s.judgeUncarried present else s

/-- The machine enters RUNNING by RUN: the judgment at 76 (R112), the planning at 80 and then at 79
(R149), and the head's judgment at 80 (R159). Opening, exchange and activation follow as events of
their own (log 1). -/
def State.enterRunning (s : State) (present : Bool) : State :=
  ((((State.enter { s with runCounter := s.runCounterAtRun } .running).judgeAtRun
    present).planAtRun .p80).planAtRun .p79).headJudge

/-- RUN (R183). -/
def State.run (s : State) (present : Bool) : Answer :=
  if s.mayRun then (s.enterRunning present).ok else s.reply .refusedState

/-- RUN (R183): VERIFY_PRESENT as it stands when RUN is taken (R112, log 4). -/
def execRun (verifyPresent : Bool) (s : State) : Host.Outcome State Fault Refusal :=
  taken 15 s fun s => s.run verifyPresent

/-! ## PAUSE and RESUME (R184 to R186) -/

/-- PAUSE (R184). -/
def State.pause (s : State) : Answer :=
  if s.working then s.enterPausing.ok
  else if s.pausing then s.ok
  else s.reply .refusedState

/-- PAUSE (R184). -/
def execPause (s : State) : Host.Outcome State Fault Refusal := taken 16 s State.pause

/-- PAUSING_QUIET (R185): PAUSING becomes PAUSED while the machine is quiet. Every event that ends work
in flight judges this itself (`State.settle`), so that a queued row finds it done (log 1). -/
def execPausingQuiet (s : State) : Host.Outcome State Fault Refusal := event s State.pausingQuiet

/-- A DUE feed is resolved at RESUME (R50): taken on at a READY station, dropped at any other. -/
def State.resolveDue (s : State) (k : Nat) : State :=
  match s.station? k with
  | none => s
  | some st =>
    if st.feed = .due then if st.state = .ready then s.takeOn k else s.dropAt k else s

/-- Every DUE feed is resolved (R50). -/
def State.resolveDueFeeds (s : State) : State := stationNumbers.foldl State.resolveDue s

/-- The state a return state names (R186). -/
def ReturnState.machine : ReturnState → MachineState
  | .running => .running
  | .draining => .draining

/-- The machine returns to RUNNING or DRAINING by RESUME (R186): the DUE feeds (R50), the exchange
that waits between legs (R39, `present` being BOARD_PRESENT), the head's judgment at 80 (R159), and in
DRAINING the judgment of its end (R187). -/
def State.resumeTo (s : State) (m : MachineState) (present : Bool) : State :=
  ((((s.enter m).resolveDueFeeds).exchangeContinue present).headJudge).settle

/-- RESUME (R186). -/
def State.resume (s : State) (present : Bool) : Answer :=
  match s.machine.state, s.machine.returnState with
  | .paused, some r =>
    if s.stopAlarm then s.reply .refusedState else (s.resumeTo r.machine present).ok
  | _, _ => s.reply .refusedState

/-- RESUME (R186). -/
def execResume (boardPresent : Bool) (s : State) : Host.Outcome State Fault Refusal :=
  taken 17 s fun s => s.resume boardPresent

/-! ## DRAIN (R187) -/

/-- DRAIN (R187): entering DRAINING, the head judges the clip at 80 (R159, log 26), and DRAINING ends at
once where its conditions hold. -/
def State.drain (s : State) : Answer :=
  match s.machine.state with
  | .running => (s.enter .draining).headJudge.settle.ok
  | .pausing => State.ok { s with machine := { s.machine with returnState := some .draining } }
  | .paused => State.ok { s with machine := { s.machine with returnState := some .draining } }
  | .draining => s.ok
  | _ => s.reply .refusedState

/-- DRAIN (R187). -/
def execDrain (s : State) : Host.Outcome State Fault Refusal := taken 18 s State.drain

/-- DRAIN_END (R187): DRAINING becomes STOPPED where its conditions hold. Every event that may complete
them judges this itself (`State.settle`), so that a queued row finds it done (log 1). -/
def execDrainEnd (s : State) : Host.Outcome State Fault Refusal := event s State.drainEnd

/-! ## HALT, STOP_N and RECOVER (R188 to R190) -/

/-- HALT as a command (R188). -/
def State.halt (s : State) : Answer :=
  if s.standing then s.reply .refusedState
  else if s.machine.state = .halted then s.ok
  else s.enterHalted.ok

/-- HALT (R188). -/
def execHalt (s : State) : Host.Outcome State Fault Refusal := taken 19 s State.halt

/-- The conditions of RECOVER (R190). -/
def State.mayRecover (s : State) : Bool :=
  decide (s.machine.state = .halted) && !s.haltAlarm && s.inputs.levels.stopN

/-- RECOVER (R190). -/
def State.recover (s : State) : Answer :=
  if s.mayRecover then (s.enter .stopped).ok else s.reply .refusedState

/-- RECOVER (R190). -/
def execRecover (s : State) : Host.Outcome State Fault Refusal := taken 20 s State.recover

/-- The stored level of STOP_N. -/
def State.setStopN (s : State) (level : Bool) : State :=
  { s with inputs := { s.inputs with levels := { s.inputs.levels with stopN := level } } }

/-- STOP_N_FALL (R189): a HALT in RUNNING, PAUSING, PAUSED and DRAINING. -/
def execStopNFall (s : State) : Host.Outcome State Fault Refusal :=
  event s fun s => (s.setStopN false).haltIfMoving

/-- STOP_N_RISE (R189): it changes no machine state. -/
def execStopNRise (s : State) : Host.Outcome State Fault Refusal :=
  event s fun s => s.setStopN true

end Sys2Proof.Machine
end

