-- ==== Sys2Proof/Machine/SettingItems.lean ====
section
/-! DEFINITION. The setting items (R203), their values as SET and LOOKUP code them (R206), and SET with
its checks in order (R207, R42, R104, R114, R135, R136, R156, R179, R196). -/

namespace Sys2Proof.Machine

/-! ## Items (R203) -/

/-- A setting item. -/
inductive SettingItem where
  | runLength
  | alignRequired
  | transferTimeout
  | clampTimeout
  | forwardProtection
  | backwardProtection
  | indexTimeout
  | badThreshold
  | recallLimit
  | centreX
  | centreY
  | homeX
  | homeY
  | homeS
  | homeR
  | quarter
  | softMin (a : Axis)
  | softMax (a : Axis)
  | settleWindow (a : Axis)
  | lockWindow (a : Axis)
  | lockCount (a : Axis)
  | unlockCount (a : Axis)
  | lockTimeout (a : Axis)
  | loadPosition (a : Axis)
  | dumpPosition (a : Axis)
  | formTimeout
  | driveTimeout
  | clinchTimeout
  | retractTimeout
  | offTime
  | stallLimit
  | overcurrentThreshold
  | filterTime
  | openThreshold
  | openSamples
  | reaction (k : AlarmKind)
  | clearMode (k : AlarmKind)
  | retryInterval
deriving DecidableEq, Repr

/-- The items that are held once, 0 to 15 (R203). -/
def firstItem : Nat → Option SettingItem
  | 0 => some .runLength
  | 1 => some .alignRequired
  | 2 => some .transferTimeout
  | 3 => some .clampTimeout
  | 4 => some .forwardProtection
  | 5 => some .backwardProtection
  | 6 => some .indexTimeout
  | 7 => some .badThreshold
  | 8 => some .recallLimit
  | 9 => some .centreX
  | 10 => some .centreY
  | 11 => some .homeX
  | 12 => some .homeY
  | 13 => some .homeS
  | 14 => some .homeR
  | 15 => some .quarter
  | _ => none

/-- The items held once for each axis, in groups of four from item 16 (R203). -/
def axisItem (group : Nat) (a : Axis) : Option SettingItem :=
  match group with
  | 0 => some (.softMin a)
  | 1 => some (.softMax a)
  | 2 => some (.settleWindow a)
  | 3 => some (.lockWindow a)
  | 4 => some (.lockCount a)
  | 5 => some (.unlockCount a)
  | 6 => some (.lockTimeout a)
  | 7 => some (.loadPosition a)
  | 8 => some (.dumpPosition a)
  | _ => none

/-- The head and drive items, from item 52 (R203). -/
def headItem : Nat → Option SettingItem
  | 0 => some .formTimeout
  | 1 => some .driveTimeout
  | 2 => some .clinchTimeout
  | 3 => some .retractTimeout
  | 4 => some .offTime
  | 5 => some .stallLimit
  | 6 => some .overcurrentThreshold
  | 7 => some .filterTime
  | 8 => some .openThreshold
  | 9 => some .openSamples
  | _ => none

/-- The item that a number names (R203); a number above 94 names none. -/
def itemOfNumber (n : Nat) : Option SettingItem :=
  if n < 16 then firstItem n
  else if n < 52 then (axisOfCode ((n - 16) % 4)).bind (axisItem ((n - 16) / 4))
  else if n < 62 then headItem (n - 52)
  else if n < 78 then (kindOfCode (n - 62)).map .reaction
  else if n < 94 then (kindOfCode (n - 78)).map .clearMode
  else if n = 94 then some .retryInterval
  else none

/-! ## Values (R206) -/

/-- The position of a reaction in NOTE, PAUSE, HALT (R206). -/
def Reaction.code : Reaction → Nat
  | .note => 0
  | .pause => 1
  | .halt => 2

def reactionOfCode : Nat → Option Reaction
  | 0 => some .note
  | 1 => some .pause
  | 2 => some .halt
  | _ => none

/-- The position of a clear mode in RETRY, LATCH (R206). -/
def ClearMode.code : ClearMode → Nat
  | .retry => 0
  | .latch => 1

def clearModeOfCode : Nat → Option ClearMode
  | 0 => some .retry
  | 1 => some .latch
  | _ => none

/-- The present value of an item, as SET codes it (R203, R206). -/
def State.itemValue (s : State) : SettingItem → Nat
  | .runLength => s.settings.runLength
  | .alignRequired => if s.settings.alignRequired then 0 else 1
  | .transferTimeout => s.settings.transferTimeout
  | .clampTimeout => s.settings.clampTimeout
  | .forwardProtection => s.settings.forwardProtection
  | .backwardProtection => s.settings.backwardProtection
  | .indexTimeout => s.settings.indexTimeout
  | .badThreshold => s.settings.badThreshold
  | .recallLimit => s.settings.recallLimit
  | .centreX => s.settings.centreX
  | .centreY => s.settings.centreY
  | .homeX => s.settings.homeX
  | .homeY => s.settings.homeY
  | .homeS => s.settings.homeS
  | .homeR => s.settings.homeR
  | .quarter => s.settings.quarter
  | .softMin a => (s.axisSettings a).softMin
  | .softMax a => (s.axisSettings a).softMax
  | .settleWindow a => (s.axisSettings a).settleWindow
  | .lockWindow a => (s.axisSettings a).lockWindow
  | .lockCount a => (s.axisSettings a).lockCount
  | .unlockCount a => (s.axisSettings a).unlockCount
  | .lockTimeout a => (s.axisSettings a).lockTimeout
  | .loadPosition a => (s.axisSettings a).loadPosition
  | .dumpPosition a => (s.axisSettings a).dumpPosition
  | .formTimeout => s.settings.formTimeout
  | .driveTimeout => s.settings.driveTimeout
  | .clinchTimeout => s.settings.clinchTimeout
  | .retractTimeout => s.settings.retractTimeout
  | .offTime => s.settings.stroke.offTime
  | .stallLimit => s.settings.stroke.stallLimit
  | .overcurrentThreshold => s.settings.stroke.overcurrentThreshold
  | .filterTime => s.settings.stroke.filterTime
  | .openThreshold => s.settings.stroke.openThreshold
  | .openSamples => s.settings.stroke.openSamples
  | .reaction k => (s.alarm k).reaction.code
  | .clearMode k => (s.alarm k).clearMode.code
  | .retryInterval => s.settings.retryInterval

/-- The kinds whose reaction is fixed at HALT (R191, R196). -/
def fixedReaction : AlarmKind → Bool
  | .chainJam => true
  | .headJam => true
  | .clinchOvercurrent => true
  | .supplyLow => true
  | .overTemp => true
  | _ => false

/-- The value lies between the two bounds. -/
def between (lo hi v : Nat) : Bool := decide (lo ≤ v) && decide (v ≤ hi)

/-- The value lies in the item's range, and its reaction is not fixed (R207, check 2). Currents are
in units of 0.05 A. -/
def SettingItem.takes : SettingItem → Nat → Bool
  | .runLength, v => between 0 65535 v
  | .alignRequired, v => between 0 1 v
  | .transferTimeout, v => between 100 10000 v
  | .clampTimeout, v => between 10 1000 v
  | .forwardProtection, v => between 1 7 v
  | .backwardProtection, v => between 1 7 v
  | .indexTimeout, v => between 50 1000 v
  | .badThreshold, v => between 1 7 v
  | .recallLimit, v => between 0 3 v
  | .centreX, v => between 0 60000 v
  | .centreY, v => between 0 60000 v
  | .homeX, v => between 0 65535 v
  | .homeY, v => between 0 65535 v
  | .homeS, v => between 0 65535 v
  | .homeR, v => between 0 65535 v
  | .quarter, v => between 1 16383 v
  | .softMin _, v => between 0 262143 v
  | .softMax _, v => between 0 262143 v
  | .settleWindow _, v => between 1 4095 v
  | .lockWindow _, v => between 1 255 v
  | .lockCount _, v => between 1 15 v
  | .unlockCount _, v => between 1 15 v
  | .lockTimeout _, v => between 10 2000 v
  | .loadPosition _, v => between 0 262143 v
  | .dumpPosition _, v => between 0 262143 v
  | .formTimeout, v => between 10 500 v
  | .driveTimeout, v => between 10 500 v
  | .clinchTimeout, v => between 10 500 v
  | .retractTimeout, v => between 10 500 v
  | .offTime, v => [25, 50, 75, 100].contains v
  | .stallLimit, v => between 8 255 v
  | .overcurrentThreshold, v => between 110 160 v && decide (v % 10 = 0)
  | .filterTime, v => between 1 2 v
  | .openThreshold, v => between 1 20 v
  | .openSamples, v => [16, 128].contains v
  | .reaction k, v => between 0 2 v && !fixedReaction k
  | .clearMode _, v => between 0 1 v
  | .retryInterval, v => between 50 5000 v

/-- The state check of an item's group (R207, check 3). -/
def State.itemOpen (s : State) : SettingItem → Bool
  | .recallLimit => s.standing && !s.boardOpen
  | .reaction _ => true
  | .clearMode _ => true
  | .retryInterval => true
  | _ => s.standing

/-! ## Consistency checks (R136, R156) -/

/-- A slot in PLANNED or ACTIVE holds a target of axis `a` outside the limits (R136, check 2). -/
def MoveSlot.holdsOutside (m : MoveSlot) (a : Axis) (lo hi : Nat) : Bool :=
  (decide (m.state = .planned) || decide (m.state = .active)) &&
    match m.targets with
    | some t => !between lo hi (t.get a)
    | none => false

/-- The checks of new soft limits for axis `a`: minimum above maximum, then a slot's target (R136), and
the load and dump positions (R156). DESIGN CHOICE (log 36): R136, R156 and R207 give no order between
the slot's target (REFUSED_STATE) and the load and dump positions (REFUSED_RANGE); the target is first. -/
def State.checkLimits (s : State) (a : Axis) (lo hi : Nat) : ReplyCode :=
  if hi < lo then .refusedRange
  else if (s.moveSlot .even).holdsOutside a lo hi || (s.moveSlot .odd).holdsOutside a lo hi then
    .refusedState
  else if !between lo hi (s.axisSettings a).loadPosition ||
      !between lo hi (s.axisSettings a).dumpPosition then .refusedRange
  else .ok

/-- The consistency checks of the owning rule (R207, check 4). -/
def State.checkItem (s : State) : SettingItem → Nat → ReplyCode
  | .softMin a, v => s.checkLimits a v (s.axisSettings a).softMax
  | .softMax a, v => s.checkLimits a (s.axisSettings a).softMin v
  | .settleWindow a, v => if v < (s.axisSettings a).lockWindow then .refusedRange else .ok
  | .lockWindow a, v => if (s.axisSettings a).settleWindow < v then .refusedRange else .ok
  | .loadPosition a, v =>
    if between (s.axisSettings a).softMin (s.axisSettings a).softMax v then .ok else .refusedRange
  | .dumpPosition a, v =>
    if between (s.axisSettings a).softMin (s.axisSettings a).softMax v then .ok else .refusedRange
  | _, _ => .ok

/-! ## SET (R207) -/

def State.putSettings (s : State) (g : Settings) : State := { s with settings := g }

/-- Change the settings of one axis. -/
def State.putAxisSettings (s : State) (a : Axis) (g : AxisSettings) : State :=
  s.putSettings { s.settings with axis := s.settings.axis.put a g }

/-- Change the settings of the strokes to come (R179). -/
def State.putStroke (s : State) (g : StrokeSettings) : State :=
  s.putSettings { s.settings with stroke := g }

/-- Store a value that has passed the checks (R207). -/
def State.storeItem (s : State) : SettingItem → Nat → State
  | .runLength, v => s.putSettings { s.settings with runLength := v }
  | .alignRequired, v => s.putSettings { s.settings with alignRequired := decide (v = 0) }
  | .transferTimeout, v => s.putSettings { s.settings with transferTimeout := v }
  | .clampTimeout, v => s.putSettings { s.settings with clampTimeout := v }
  | .forwardProtection, v => s.putSettings { s.settings with forwardProtection := v }
  | .backwardProtection, v => s.putSettings { s.settings with backwardProtection := v }
  | .indexTimeout, v => s.putSettings { s.settings with indexTimeout := v }
  | .badThreshold, v => s.putSettings { s.settings with badThreshold := v }
  | .recallLimit, v => s.putSettings { s.settings with recallLimit := v }
  | .centreX, v => s.putSettings { s.settings with centreX := v }
  | .centreY, v => s.putSettings { s.settings with centreY := v }
  | .homeX, v => s.putSettings { s.settings with homeX := v }
  | .homeY, v => s.putSettings { s.settings with homeY := v }
  | .homeS, v => s.putSettings { s.settings with homeS := v }
  | .homeR, v => s.putSettings { s.settings with homeR := v }
  | .quarter, v => s.putSettings { s.settings with quarter := v }
  | .softMin a, v => s.putAxisSettings a { s.axisSettings a with softMin := v }
  | .softMax a, v => s.putAxisSettings a { s.axisSettings a with softMax := v }
  | .settleWindow a, v => s.putAxisSettings a { s.axisSettings a with settleWindow := v }
  | .lockWindow a, v => s.putAxisSettings a { s.axisSettings a with lockWindow := v }
  | .lockCount a, v => s.putAxisSettings a { s.axisSettings a with lockCount := v }
  | .unlockCount a, v => s.putAxisSettings a { s.axisSettings a with unlockCount := v }
  | .lockTimeout a, v => s.putAxisSettings a { s.axisSettings a with lockTimeout := v }
  | .loadPosition a, v => s.putAxisSettings a { s.axisSettings a with loadPosition := v }
  | .dumpPosition a, v => s.putAxisSettings a { s.axisSettings a with dumpPosition := v }
  | .formTimeout, v => s.putSettings { s.settings with formTimeout := v }
  | .driveTimeout, v => s.putSettings { s.settings with driveTimeout := v }
  | .clinchTimeout, v => s.putSettings { s.settings with clinchTimeout := v }
  | .retractTimeout, v => s.putSettings { s.settings with retractTimeout := v }
  | .offTime, v => s.putStroke { s.settings.stroke with offTime := v }
  | .stallLimit, v => s.putStroke { s.settings.stroke with stallLimit := v }
  | .overcurrentThreshold, v => s.putStroke { s.settings.stroke with overcurrentThreshold := v }
  | .filterTime, v => s.putStroke { s.settings.stroke with filterTime := v }
  | .openThreshold, v => s.putStroke { s.settings.stroke with openThreshold := v }
  | .openSamples, v => s.putStroke { s.settings.stroke with openSamples := v }
  | .reaction k, v =>
    match reactionOfCode v with
    | some r => s.putAlarm k { s.alarm k with reaction := r }
    | none => s
  | .clearMode k, v =>
    match clearModeOfCode v with
    | some m => s.putAlarm k { s.alarm k with clearMode := m }
    | none => s
  | .retryInterval, v => s.putSettings { s.settings with retryInterval := v }

/-- SET of an item, with checks 2 to 4 of R207 in order. -/
def State.setItem (s : State) (item : SettingItem) (value : Nat) : Answer :=
  if !item.takes value then s.reply .refusedRange
  else if !s.itemOpen item then s.reply .refusedState
  else
    match s.checkItem item value with
    | .ok => (s.storeItem item value).ok
    | refused => s.reply refused

/-- SET (R207): the kind, then the item number. -/
def execSet (kind : Byte) (index : Half) (value : Triple) (s : State) :
    Host.Outcome State Fault Refusal :=
  taken 13 s fun s =>
    if kind = kindSetting then
      match itemOfNumber index.toNat with
      | some item => s.setItem item value.toNat
      | none => s.reply .refusedRange
    else s.reply .refusedRange

end Sys2Proof.Machine
end

