-- ==== Sys2Proof/Machine/Payload.lean ====
section
/-! DEFINITION. The layout of each LOOKUP part (R204): fields of several values by their position in
their list, bits, two- and three-byte values most significant byte first, and free bytes where an
optional field is absent (R199: "no meaningful value", log 10). -/

namespace Sys2Proof.Machine

/-! ## Positions of named values in their lists (R204) -/

def Hold.code : Hold → Nat
  | .free => 0
  | .holdPending => 1
  | .held => 2

def PlacementState.code : PlacementState → Nat
  | .notInBoard => 0
  | .callable => 1
  | .called => 2
  | .inserted => 3
  | .skipped => 4
  | .missed => 5
  | .interrupted => 6

def BoardPhase.code : BoardPhase → Nat
  | .free => 0
  | .calling => 1
  | .calledOut => 2
  | .complete => 3

def TableState.code : TableState → Nat
  | .notLoaded => 0
  | .awaitingAlign => 1
  | .aligned => 2
  | .unloading => 3

def Leg.code : Leg → Nat
  | .idle => 0
  | .move => 1
  | .transfer => 2
  | .presentWait => 3
  | .clamping => 4

def StationState.code : StationState → Nat
  | .offline => 0
  | .ready => 1
  | .empty => 2
  | .jammed => 3
  | .suspect => 4

def Feed.code : Feed → Nat
  | .idle => 0
  | .due => 1
  | .advancing => 2

def ClipState.code : ClipState → Nat
  | .empty => 0
  | .unknown => 1
  | .assigned => 2
  | .loaded => 3
  | .dropMissed => 4
  | .verified => 5
  | .bad => 6
  | .stray => 7
  | .passedEmpty => 8
  | .rejected => 9
  | .deferred => 10

def Judgment.code : Judgment → Nat
  | .good => 0
  | .empty => 1
  | .leadFault => 2
  | .stray => 3

def ConditionState.code : ConditionState → Nat
  | .ok => 0
  | .watch => 1
  | .bad => 2

def SlotState.code : SlotState → Nat
  | .free => 0
  | .awaitingBoard => 1
  | .planned => 2
  | .active => 3
  | .void => 4

def AxisState.code : AxisState → Nat
  | .idle => 0
  | .slew => 1
  | .settle => 2
  | .locked => 3

def IndexState.code : IndexState → Nat
  | .idle => 0
  | .requested => 1
  | .indexing => 2

def SyncState.code : SyncState → Nat
  | .unlocked => 0
  | .locking => 1
  | .locked => 2

def HeadState.code : HeadState → Nat
  | .idle => 0
  | .homing => 1
  | .form => 2
  | .drive => 3
  | .clinch => 4
  | .retract => 5

def Held.code : Held → Nat
  | .none => 0
  | .stall => 1
  | .open => 2

def AlarmState.code : AlarmState → Nat
  | .clear => 0
  | .active => 1
  | .latched => 2

def JamPhase.code : JamPhase → Nat
  | .form => 0
  | .drive => 1
  | .retract => 2
  | .home => 3

/-- The number that an alarm source is sent as (R204). -/
def Source.code : Source → Nat
  | .station k => k
  | .counter n => n
  | .slot n => n
  | .phase p => p.code
  | .axis a => axisCode a
  | .board n => n

/-! ## Bits of the two-valued fields (R204) -/

def isOdd (p : Parity) : Bool := decide (p = .odd)

def isDump (k : MoveKind) : Bool := decide (k = .dump)

/-! ## Bytes -/

/-- One byte. -/
def byte (n : Nat) : Byte := BitVec.ofNat 8 n

/-- A two-byte value, most significant byte first (R199). -/
def half (n : Nat) : List Byte := [byte (n / 256), byte n]

/-- A signed two-byte value in two's complement (R199). -/
def signedHalf (i : Int) : List Byte := half (BitVec.ofInt 16 i).toNat

/-- A three-byte value, most significant byte first (R204). -/
def three (n : Nat) : List Byte := [byte (n / 65536), byte (n / 256), byte n]

/-- Bytes that are not listed are 0 (R204): a part always fills the 13 bytes of the payload. -/
def fill (l : List Byte) : List Byte := l ++ List.replicate (13 - l.length) 0

/-- The free bytes of one payload, by their place in it (log 10). -/
abbrev Free := Nat → Byte

/-- `n` free bytes from place `i`. -/
def Free.bytes (f : Free) (i n : Nat) : List Byte := (List.range' i n).map f

/-- The value of an optional bit of byte `i`: the bit as it stands, or a free bit (log 10). -/
def Free.bit (f : Free) (i b : Nat) (o : Option Bool) : Nat :=
  match o with
  | some v => bitAt v b
  | none => bitAt ((f i).getLsbD b) b

/-- A field of two bits or more at bit `b` of byte `i`, or free bits of its width. -/
def Free.field (f : Free) (i b width : Nat) (o : Option Nat) : Nat :=
  match o with
  | some v => v * 2 ^ b
  | none => ((f i).toNat / 2 ^ b % 2 ^ width) * 2 ^ b

/-- An optional byte at place `i`. -/
def Free.byte (f : Free) (i : Nat) (o : Option Nat) : List Byte :=
  match o with
  | some v => [Machine.byte v]
  | none => f.bytes i 1

/-- An optional two-byte value from place `i`. -/
def Free.half (f : Free) (i : Nat) (o : Option Nat) : List Byte :=
  match o with
  | some v => Machine.half v
  | none => f.bytes i 2

/-- An optional three-byte value from place `i`. -/
def Free.three (f : Free) (i : Nat) (o : Option Nat) : List Byte :=
  match o with
  | some v => Machine.three v
  | none => f.bytes i 3

/-! ## Layouts (R204) -/

/-- The code byte of a placement: substitute, orientation, clinch and tier (R204). -/
def Placement.codeByte (r : Placement) : Byte :=
  byte (bitAt r.substitute 7 + 32 * r.orientation.quadrant + 8 * r.clinch.code + r.tier)

def placementPart0 (r : Placement) : List Byte :=
  half r.sequence ++ [byte r.station] ++ half r.x ++ half r.y ++
    [byte r.span, byte r.trip, r.codeByte, byte r.hold.code]

/-- One status slot from place `i` (R204). -/
def statusBytes (f : Free) (i : Nat) (t : StatusSlot) : List Byte :=
  [byte
    (32 * t.state.code + bitAt t.unordered 4 + bitAt t.skipReason.isSome 3 +
      f.bit i 2 (t.skipReason.map fun r => decide (r = .outOfTravel)) +
      bitAt t.clinchPeak.isSome 1),
   byte (16 * t.attempts + t.deferrals)] ++ f.byte (i + 2) t.clinchPeak

def placementPart1 (f : Free) (r : Placement) : List Byte :=
  statusBytes f 0 r.status.even ++ statusBytes f 3 r.status.odd

/-- The correction from place 3, or free bytes. -/
def correctionBytes (f : Free) : Option Correction → List Byte
  | some c => signedHalf c.dx ++ signedHalf c.dy ++ signedHalf c.scale
  | none => f.bytes 3 6

def boardPart0 (f : Free) (b : BoardRecord) : List Byte :=
  half b.number ++
    [byte (64 * b.phase.code + 16 * b.tableState.code + bitAt b.correction.isSome 0)] ++
    correctionBytes f b.correction ++ half b.inBoard ++ half b.inserted

def boardPart1 (b : BoardRecord) : List Byte :=
  half b.skipped ++ half b.outOfTravel ++ half b.missed ++ half b.interrupted ++ half b.recalls ++
    half b.deferrals

def runPart (f : Free) (s : State) : List Byte :=
  half s.runCounter ++ half s.nextNumber ++
    [byte s.exchange.leg.code,
     byte
      (bitAt (decide (s.exchange.kind = .load)) 7 + bitAt s.exchange.waiting 6 +
        bitAt s.exchange.leaving.isSome 5 + f.bit 5 4 (s.exchange.leaving.map fun l => isOdd l.parity) +
        bitAt s.exchange.incoming.isSome 3 + f.bit 5 2 (s.exchange.incoming.map isOdd))]

def stationPart0 (st : Station) : List Byte :=
  [byte st.state.code, byte st.group] ++ half st.remaining ++ [byte st.committed] ++
    half st.lowLevel ++
    [byte st.retryLimit, byte st.advanceTimeout, byte st.missThreshold,
     byte
      (bitAt st.low 7 + 32 * st.feed.code + 8 * st.consecutiveMisses + st.retriesUsed)]

/-- The bits of a miss window, the oldest highest; FED is 0 and MISS is 1 (R204, R44). -/
def windowBits : List FeedOutcome → Nat → Nat
  | [], _ => 0
  | o :: os, b => bitAt (decide (o = .miss)) b + windowBits os (b - 1)

/-- A miss window holds at most 16 entries (R44). -/
def stationPart1 (st : Station) : List Byte :=
  [byte st.missWindow.length] ++ half (windowBits (st.missWindow.take 16) 15)

def clipPart (f : Free) (c : Clip) : List Byte :=
  [byte c.state.code,
   byte
    (bitAt c.call.isSome 7 + bitAt c.verify.isSome 6 +
      f.field 1 4 2 (c.verify.map Judgment.code) + bitAt c.dump 3 + bitAt c.clipId.isSome 2)] ++
    f.half 2 (c.call.map Call.board) ++ f.half 4 (c.call.map Call.placement) ++
    f.byte 6 (c.call.map Call.station) ++ f.byte 7 c.clipId

def conditionPart (e : ClipCondition) : List Byte := [byte e.state.code, byte e.failCount]

def slotPart0 (f : Free) (m : MoveSlot) (alternation : Parity) : List Byte :=
  [byte m.state.code,
   byte
    (bitAt m.position.isSome 7 + f.bit 1 6 (m.position.map fun p => decide (p = .p80)) +
      bitAt m.kind.isSome 5 + f.bit 1 4 (m.kind.map isDump) + bitAt m.job.isSome 3 +
      bitAt (isOdd alternation) 0)] ++
    f.half 2 (m.job.map Job.board) ++ f.half 4 (m.job.map Job.placement)

def slotPart1 (f : Free) (m : MoveSlot) : List Byte :=
  [byte (bitAt m.targets.isSome 0)] ++
    (match m.targets with
    | some t => three t.x ++ three t.y ++ three t.r ++ three t.s
    | none => f.bytes 1 12)

def axisPart (f : Free) (a : AxisRecord) : List Byte :=
  [byte
    (64 * a.state.code + bitAt a.lockTimer.isSome 5 + bitAt a.lastPosition.isSome 4)] ++
    three a.target ++ f.three 4 a.lastPosition ++ [byte a.inRun, byte a.outRun]

def chainPart (c : Chain) : List Byte :=
  [byte c.indexState.code, byte (bitAt c.indexTimer.isSome 7 + bitAt c.markSeen 6),
   byte c.counter, byte c.syncState.code, byte c.missRun, byte c.tolerance, byte c.candidateRun]

/-- Board, placement, profile and trip of the head record stand together (R204). -/
def headPart0 (f : Free) (h : Head) : List Byte :=
  [byte h.state.code,
   byte
    (bitAt h.kind.isSome 7 + f.bit 1 6 (h.kind.map isDump) + bitAt h.slot.isSome 5 +
      f.bit 1 4 (h.slot.map isOdd) + bitAt h.job.isSome 3 + bitAt h.formed 2 +
      bitAt h.cleared 1 + bitAt h.phaseTimer.isSome 0)] ++
    f.half 2 (h.job.map Job.board) ++ f.half 4 (h.job.map Job.placement) ++
    [byte
      (f.field 6 6 2 (h.plan.map fun p => p.profile.code) +
        f.field 6 0 3 (h.plan.map StrokePlan.trip)),
     byte h.held.code, byte h.peak]

def headPart1 (s : State) : List Byte :=
  [byte
    (bitAt (decide (s.drive.stroke = .commanded)) 7 +
      bitAt (decide (s.drive.chop = .offTime)) 6 + bitAt s.drive.openRun 5 +
      bitAt s.drive.filter.isSome 4 + bitAt s.drive.lockout 3 + bitAt s.bridgeOn 2),
   byte s.drive.chopCount, byte s.drive.samples, byte s.drive.strikes]

def machinePart (f : Free) (s : State) : List Byte :=
  [byte s.machine.state.code,
   byte
    (bitAt s.machine.returnState.isSome 7 +
      f.bit 1 6 (s.machine.returnState.map fun r => decide (r = .draining)) +
      bitAt s.boardOpen 5 + bitAt s.carryingClips 4 + bitAt s.indexInFlight 3 +
      bitAt s.head.inFlight 2 + bitAt s.exchangeInFlight 1),
   byte s.feedsInFlight, byte s.axesMoving]

def alarmPart (f : Free) (r : AlarmRecord) : List Byte :=
  [byte
    (64 * r.state.code + 16 * r.reaction.code + bitAt (decide (r.clearMode = .latch)) 3 +
      bitAt r.condition 2 + bitAt r.retryTimer.isSome 1),
   byte (bitAt r.firstSource.isSome 7 + bitAt r.lastSource.isSome 6)] ++
    f.half 2 (r.firstSource.map Source.code) ++ f.half 4 (r.lastSource.map Source.code) ++
    [byte r.occurrences]

end Sys2Proof.Machine
end

