-- ==== Sys2Proof/Machine/Port.lean ====
section
/-! DEFINITION. The control port: NOP, LOOKUP, a code that names no command, a discarded frame, and the
response frame (spec 11, R199 to R206). -/

namespace Sys2Proof.Machine

/-! ## NOP (R205) -/

/-- NOP (R205): it changes no record and replies OK. -/
def execNop (s : State) : Host.Outcome State Fault Refusal := taken 0 s State.ok

/-! ## LOOKUP (R203) -/

/-- The free bytes of a payload read now (log 10). -/
def State.free (s : State) : Free := fun i => Config.freeByte (s.freeCount + i)

/-- The answer to LOOKUP of a record of one part (R203). -/
def State.onePart (s : State) (part : Nat) (bytes : List Byte) : Answer :=
  match part with
  | 0 => { state := s, code := .ok, payload := fill bytes }
  | _ => s.reply .refusedRange

/-- The answer to LOOKUP of a record of two parts (R203). -/
def State.twoParts (s : State) (part : Nat) (first second : List Byte) : Answer :=
  match part with
  | 0 => { state := s, code := .ok, payload := fill first }
  | 1 => { state := s, code := .ok, payload := fill second }
  | _ => s.reply .refusedRange

/-- LOOKUP of a placement: index, FREE slot, part (R1, R203; log 30). -/
def State.lookupPlacement (s : State) (index part : Nat) : Answer :=
  if index < Config.slotCount then
    match s.slot? index with
    | some r => s.twoParts part (placementPart0 r) (placementPart1 s.free r)
    | none => s.reply .noRecord
  else s.reply .refusedRange

def State.lookupBoard (s : State) (index part : Nat) : Answer :=
  match parityOfCode index with
  | some p => s.twoParts part (boardPart0 s.free (s.board p)) (boardPart1 (s.board p))
  | none => s.reply .refusedRange

def State.lookupStation (s : State) (index part : Nat) : Answer :=
  match s.station? index with
  | some st => s.twoParts part (stationPart0 st) (stationPart1 st)
  | none => s.reply .refusedRange

def State.lookupClip (s : State) (index part : Nat) : Answer :=
  if index < Config.stretchLength then s.onePart part (clipPart s.free (s.clip index))
  else s.reply .refusedRange

def State.lookupCondition (s : State) (index part : Nat) : Answer :=
  if index < Config.clipCount then s.onePart part (conditionPart (s.condition index))
  else s.reply .refusedRange

def State.lookupSlot (s : State) (index part : Nat) : Answer :=
  match parityOfCode index with
  | some p =>
    s.twoParts part (slotPart0 s.free (s.moveSlot p) s.alternation)
      (slotPart1 s.free (s.moveSlot p))
  | none => s.reply .refusedRange

def State.lookupAxis (s : State) (index part : Nat) : Answer :=
  match axisOfCode index with
  | some a => s.onePart part (axisPart s.free (s.axis a))
  | none => s.reply .refusedRange

def State.lookupAlarm (s : State) (index part : Nat) : Answer :=
  match kindOfCode index with
  | some k => s.onePart part (alarmPart s.free (s.alarm k))
  | none => s.reply .refusedRange

def State.lookupSetting (s : State) (index part : Nat) : Answer :=
  match itemOfNumber index with
  | some item => s.onePart part (three (s.itemValue item))
  | none => s.reply .refusedRange

/-- LOOKUP of a record that there is once: its index is 0 (R203). -/
def State.lookupSingle (s : State) (index : Nat) (answer : Answer) : Answer :=
  if index = 0 then answer else s.reply .refusedRange

/-- LOOKUP by record kind (R203, kind codes of R206); any other kind is REFUSED_RANGE (R202). -/
def State.lookup (s : State) (kind index part : Nat) : Answer :=
  match kind with
  | 0 => s.lookupPlacement index part
  | 1 => s.lookupBoard index part
  | 2 => s.lookupSingle index (s.onePart part (runPart s.free s))
  | 3 => s.lookupStation index part
  | 4 => s.lookupClip index part
  | 5 => s.lookupCondition index part
  | 6 => s.lookupSlot index part
  | 7 => s.lookupAxis index part
  | 8 => s.lookupSingle index (s.onePart part (chainPart s.chain))
  | 9 => s.lookupSingle index (s.twoParts part (headPart0 s.free s.head) (headPart1 s))
  | 10 => s.lookupSingle index (s.onePart part (machinePart s.free s))
  | 11 => s.lookupAlarm index part
  | 12 => s.lookupSetting index part
  | _ => s.reply .refusedRange

/-- LOOKUP (R203): the snapshot is made when the command is taken, and no record changes. -/
def execLookup (kind : Byte) (index : Half) (part : Byte) (s : State) :
    Host.Outcome State Fault Refusal :=
  taken 1 s fun s => s.lookup kind.toNat index.toNat part.toNat

/-! ## Frames that carry no command -/

/-- UNKNOWN_COMMAND (R202, R206): the frame is taken, and no record changes. -/
def execUnknownCommand (code : Byte) (s : State) : Host.Outcome State Fault Refusal :=
  taken code s fun s => s.reply .unknownCommand

/-- A discarded frame (R200): the frame error flag is set, and the pending reply is FRAME_ERROR for
NOP. -/
def State.discardFrame (s : State) : State :=
  { s with
    port :=
      { s.port with
        reply := { code := .frameError, command := 0, payload := [] }, frameError := true }
    freeCount := s.freeCount + freeBytesPerFrame }

/-- FRAME_DISCARD (R200). -/
def execFrameDiscard (s : State) : Host.Outcome State Fault Refusal := frameEnd s State.discardFrame

/-! ## The response frame (R199) -/

/-- The reply codes of R202. -/
def ReplyCode.code : ReplyCode → Nat
  | .ok => 0
  | .pending => 1
  | .refusedState => 2
  | .refusedRange => 3
  | .notHeld => 4
  | .tableFull => 5
  | .noRecord => 6
  | .unknownCommand => 7
  | .frameError => 8

/-- The payload bytes that a shorter payload leaves without a value (log 10). -/
def State.padding (s : State) : List Byte :=
  (List.range' s.port.reply.payload.length (13 - s.port.reply.payload.length)).map fun i =>
    Config.freeByte (s.freeCount + 13 + i)

/-- The 16 bytes that a frame beginning now shifts out (R199, log 16): the status byte, the reply code
and the command of the pending reply, and its payload. -/
def State.responseFrame (s : State) : List Byte :=
  [s.statusByte, byte s.port.reply.code.code, s.port.reply.command] ++ s.port.reply.payload ++
    s.padding

end Sys2Proof.Machine
end

