-- ==== Sys2Proof/Machine/Stations.lean ====
section
/-! DEFINITION. The station controller: the sprocket edge with its outcomes, the advance timeout, and
LOAD, STATION and CLEAR of a station (spec 03, R51 to R64). -/

namespace Sys2Proof.Machine

/-- Station `k` takes a new record whose remaining or low level may have changed: LOW is set anew
(R46), and the lasting conditions of the stations are judged (R65). -/
def State.setStation (s : State) (k : Nat) (st : Station) : State :=
  (s.putStation k { st with low := st.lowFlag }).stationConditions

/-- STATION_LOW is raised when LOW has gone from NO to YES (R46). -/
def State.raiseIfLow (s : State) (k : Nat) (wasLow : Bool) : State :=
  match s.station? k with
  | none => s
  | some st => if st.low && !wasLow then s.raise .stationLow (some (.station k)) else s

/-- STATION_EMPTY is raised at the entry into EMPTY (R65). -/
def State.raiseIfEmptied (s : State) (k : Nat) (before : StationState) : State :=
  match s.station? k with
  | none => s
  | some st =>
    if st.state = .empty ∧ before ≠ .empty then s.raise .stationEmpty (some (.station k)) else s

/-! ## The advance (R51 to R56) -/

/-- The record of a station after a FED outcome (R52), EMPTY where it was READY and its last part
went. -/
def Station.fed (st : Station) : Station :=
  { st with
    remaining := st.remaining - 1
    committed := st.committed - 1
    missWindow := joinWindow st.missWindow .fed
    consecutiveMisses := 0
    feed := .idle
    work := none
    advanceTimer := none
    state := if st.state = .ready ∧ st.remaining - 1 = 0 then .empty else st.state }

/-- A FED outcome (R52): the clip becomes LOADED and goes on carrying. -/
def State.fedOutcome (s : State) (k : Nat) (st : Station) : State :=
  (((s.markClip k .loaded).setStation k st.fed).raiseIfLow k st.low).raiseIfEmptied k st.state

/-- A retry (R53): one more advance. -/
def Station.retried (st : Station) (w : FeedWork) : Station :=
  { st with retriesUsed := st.retriesUsed + 1, advanceTimer := some w.advanceTimeout }

/-- An empty pocket gives a retry where all three conditions of R53 hold. -/
def State.mayRetry (s : State) (st : Station) (w : FeedWork) : Bool :=
  decide (st.retriesUsed < w.retryLimit) && decide (s.chain.indexState ≠ .requested) && s.working

/-- The window and the misses of a station after a MISS outcome (R54). -/
def Station.missed (st : Station) : Station :=
  { st with
    missWindow := joinWindow st.missWindow .miss
    consecutiveMisses := min 3 (st.consecutiveMisses + 1) }

/-- The state a MISS outcome leaves a station in (R55); only a READY station changes (R57). -/
def Station.judgedState (st : Station) : StationState :=
  if st.state ≠ .ready then st.state
  else if st.consecutiveMisses = 3 then .empty
  else if st.missThreshold ≤ missCount st.missWindow then .suspect
  else .ready

/-- STATION_SUSPECT is raised at the entry into SUSPECT (R55). -/
def State.raiseIfSuspect (s : State) (k : Nat) (before : StationState) : State :=
  match s.station? k with
  | none => s
  | some st =>
    if st.state = .suspect ∧ before ≠ .suspect then s.raise .stationSuspect (some (.station k))
    else s

/-- A MISS outcome (R54, R55): the clip becomes DROP_MISSED with an uncounted recall. -/
def State.missOutcome (s : State) (k : Nat) (st : Station) : State :=
  let s1 := s.dropAt k
  match s1.station? k with
  | none => s1
  | some st1 =>
    (((s1.putStation k
      { st1.missed with state := st1.missed.judgedState }).stationConditions).raiseIfEmptied
        k st.state).raiseIfSuspect k st.state

/-- A rising edge of SPROCKET k (R51): outside an advance it is ignored (R59). The end of the feed may
end PAUSING or DRAINING (R185, R187). -/
def State.sprocket (s : State) (k : Nat) (pocket : Bool) : State :=
  match s.station? k with
  | none => s
  | some st =>
    match st.feed, st.work with
    | .advancing, some w =>
      if pocket then (s.fedOutcome k st).settle
      else if s.mayRetry st w then s.putStation k (st.retried w)
      else (s.missOutcome k st).settle
    | _, _ => s

/-- SPROCKET_EDGE (R51, R52, R53, R54, R59). A station number that has no line is a fault (log 23). -/
def execSprocketEdge (k : Nat) (pocket : Bool) (s : State) : Host.Outcome State Fault Refusal :=
  if 1 ≤ k ∧ k ≤ Config.stationCount then event s fun s => s.sprocket k pocket
  else .fault (.noSuchStationLine k)

/-- The expiry of the advance timer (R56): the feed ends as a jam, which may end PAUSING or DRAINING
(R185, R187). -/
def State.jam (s : State) (k : Nat) : State :=
  match s.station? k with
  | none => s
  | some st =>
    if st.advanceTimer = none then s
    else
      let s1 := s.dropAt k
      match s1.station? k with
      | none => s1
      | some st1 =>
        (((s1.putStation k
          { st1 with state := if st1.state = .ready then .jammed else st1.state }).stationConditions
          ).raise .stationJam (some (.station k))).settle

/-- ADVANCE_TIMEOUT (R56). -/
def execAdvanceTimeout (k : Nat) (s : State) : Host.Outcome State Fault Refusal :=
  if 1 ≤ k ∧ k ≤ Config.stationCount then event s fun s => s.jam k
  else .fault (.noSuchStationLine k)

/-! ## Host commands (R61 to R64) -/

/-- The record of a station as an accepted LOAD leaves it (R61). -/
def Station.loaded (st : Station) (value : Nat) : Station :=
  match st.state with
  | .empty =>
    if 0 < value then { st with remaining := value, state := .ready, consecutiveMisses := 0 }
    else { st with remaining := value }
  | .ready =>
    if value = 0 then { st with remaining := value, state := .empty }
    else { st with remaining := value }
  | _ => { st with remaining := value }

/-- LOAD (R61). -/
def State.loadStation (s : State) (k value : Nat) (st : Station) : Answer :=
  if value < st.committed then s.reply .refusedRange
  else
    (((s.setStation k (st.loaded value)).raiseIfLow k st.low).raiseIfEmptied k st.state).ok

/-- LOAD (R61). -/
def execLoad (kind : Byte) (index : Half) (remaining : Half) (s : State) :
    Host.Outcome State Fault Refusal :=
  taken 10 s fun s => s.onStation kind index fun k st => s.loadStation k remaining.toNat st

/-- The record of a station with one setting changed, where the item is a setting and the value lies
in its range (R62, item numbers of R206). -/
def Station.withSetting (st : Station) (item value : Nat) : Option Station :=
  match item with
  | 0 => if value ≤ 255 then some { st with group := value } else none
  | 1 => some { st with lowLevel := value }
  | 2 => if value ≤ 3 then some { st with retryLimit := value } else none
  | 3 => if 10 ≤ value ∧ value ≤ 250 then some { st with advanceTimeout := value } else none
  | 4 => if 1 ≤ value ∧ value ≤ 16 then some { st with missThreshold := value } else none
  | _ => none

/-- STATION with a setting item (R62): LOW is set anew at a change of low level (R46). -/
def State.stationSetting (s : State) (k item value : Nat) (st : Station) : Answer :=
  match st.withSetting item value with
  | none => s.reply .refusedRange
  | some st' =>
    if item = 1 then ((s.setStation k st').raiseIfLow k st.low).ok else (s.putStation k st').ok

/-- STATION_SETTING (R62). -/
def execStationSetting (kind : Byte) (index : Half) (item : Byte) (value : Half) (s : State) :
    Host.Outcome State Fault Refusal :=
  taken 11 s fun s =>
    s.onStation kind index fun k st => s.stationSetting k item.toNat value.toNat st

/-- STATION OFFLINE (R63): accepted from every state. -/
def State.stationOffline (s : State) (k : Nat) (st : Station) : Answer :=
  ((s.putStation k { st with state := .offline }).stationConditions).ok

/-- STATION ONLINE (R63). -/
def State.stationOnline (s : State) (k : Nat) (st : Station) : Answer :=
  match st.state with
  | .offline =>
    if 0 < st.remaining then ((s.putStation k { st with state := .ready }).stationConditions).ok
    else
      (((s.putStation k { st with state := .empty }).stationConditions).raiseIfEmptied k
        st.state).ok
  | .ready => s.ok
  | _ => s.reply .refusedState

/-- STATION_STATE (R63, R206): 0 is OFFLINE and 1 is ONLINE. -/
def execStationState (kind : Byte) (index : Half) (value : Half) (s : State) :
    Host.Outcome State Fault Refusal :=
  taken 11 s fun s =>
    s.onStation kind index fun k st =>
      match boolOfCode value.toNat with
      | some false => s.stationOffline k st
      | some true => s.stationOnline k st
      | none => s.reply .refusedRange

/-- CLEAR of a station (R64). -/
def State.clearStation (s : State) (k : Nat) (st : Station) : Answer :=
  if st.state = .jammed ∨ st.state = .suspect then
    (((s.putStation k
      { st with
        missWindow := []
        consecutiveMisses := 0
        state := if 0 < st.remaining then .ready else .empty }).stationConditions).raiseIfEmptied
          k st.state).ok
  else s.reply .refusedState

/-- CLEAR_STATION (R64): a CLEAR whose record kind no CLEAR takes is refused here (log 17). -/
def execClearStation (kind : Byte) (index : Half) (s : State) : Host.Outcome State Fault Refusal :=
  taken 12 s fun s => s.onStation kind index fun k st => s.clearStation k st

/-- A station record after RESET (R66). -/
def Station.afterReset (st : Station) : Station :=
  { st with committed := 0, feed := .idle, retriesUsed := 0, work := none, advanceTimer := none }

end Sys2Proof.Machine
end

