-- ==== Sys2Proof/Machine/Table.lean ====
section
/-! DEFINITION. The commands of the placement table: ADMIT, AMEND, RETIRE, HOLD, RELEASE, SKIP and
RECALL (spec 01, R15 to R22), and the table's values after RESET (R23). -/

namespace Sys2Proof.Machine

/-- The lowest-numbered FREE slot (R15). -/
def State.lowestFree (s : State) : Option Nat :=
  (s.table.zipIdx.find? fun e => e.1.isNone).map fun e => e.2

/-- The payload of an accepted ADMIT: the slot number in bytes 0 and 1 (R206). -/
def slotPayload (n : Nat) : List Byte := [BitVec.ofNat 8 (n / 256), BitVec.ofNat 8 n]

/-- ADMIT (R15): the ranges, then TABLE_FULL, then the lowest FREE slot takes the record. -/
def State.admitRecord (s : State) (record : Option Placement) : Answer :=
  match record, s.lowestFree with
  | none, _ => s.reply .refusedRange
  | some _, none => s.reply .tableFull
  | some r, some n =>
    { state := s.putSlot n (some r), code := .ok, payload := slotPayload n }

/-- ADMIT (R15, R206): the index is ignored. -/
def execAdmit (kind : Byte) (sequence : Half) (station : Byte) (x y : Half) (span trip code : Byte)
    (s : State) : Host.Outcome State Fault Refusal :=
  taken 2 s fun s =>
    if kind = kindPlacement then
      s.admitRecord
        (admittedRecord sequence.toNat station.toNat x.toNat y.toNat span.toNat trip.toNat code)
    else s.reply .refusedRange

/-- AMEND after its range checks (R16): the hold outside START and STOPPED, then R17 for a tier.

DESIGN CHOICE (log 38): the check of R17 is made on the whole state with the new tier in place. Where the
law of R118 is broken already, a tier is refused even for a record that takes no part in the tier order,
which R17 also says passes the check. -/
def State.amend (s : State) (n field value : Nat) (r : Placement) : Answer :=
  match amendedRecord r field value with
  | none => s.reply .refusedRange
  | some r' =>
    if !s.standing && decide (r.hold ≠ .held) then s.reply .notHeld
    else if decide (field = 7) && !(s.putSlot n (some r')).gateLaw then s.reply .refusedState
    else (s.putSlot n (some r')).ok

/-- AMEND (R16, R17). -/
def execAmend (kind : Byte) (index : Half) (field : Byte) (value : Half) (s : State) :
    Host.Outcome State Fault Refusal :=
  taken 3 s fun s =>
    s.onPlacement kind index fun n r => s.amend n field.toNat value.toNat r

/-- A retirement is reported for each open board of which the record was a placement (R18). -/
def State.reportRetirement (s : State) (r : Placement) (p : Parity) : State :=
  if s.isOpen p && decide ((r.status.get p).state ≠ .notInBoard) then s.report p .retirement else s

/-- RETIRE (R18). -/
def State.retire (s : State) (n : Nat) (r : Placement) : Answer :=
  if !s.standing && decide (r.hold ≠ .held) then s.reply .notHeld
  else if s.standing && s.carried n then s.reply .refusedState
  else (((s.putSlot n none).reportRetirement r .even).reportRetirement r .odd).ok

/-- RETIRE (R18). -/
def execRetire (kind : Byte) (index : Half) (s : State) : Host.Outcome State Fault Refusal :=
  taken 4 s fun s => s.onPlacement kind index fun n r => s.retire n r

/-- HOLD marks a slot of an open board unordered while its state is unresolved (R14, R19). -/
def State.markUnordered (s : State) (p : Parity) (st : StatusSlot) : StatusSlot :=
  if s.isOpen p && st.state.unresolved then { st with unordered := true } else st

/-- HOLD (R19). -/
def State.holdRecord (s : State) (n : Nat) (r : Placement) : Answer :=
  match r.hold with
  | .held => s.ok
  | .holdPending => s.reply .pending
  | .free =>
    let r' :=
      { r with
        hold := if s.carried n then .holdPending else .held
        status :=
          { even := s.markUnordered .even r.status.even, odd := s.markUnordered .odd r.status.odd } }
    if s.carried n then (s.putSlot n (some r')).reply .pending else (s.putSlot n (some r')).ok

/-- HOLD (R19). -/
def execHold (kind : Byte) (index : Half) (s : State) : Host.Outcome State Fault Refusal :=
  taken 5 s fun s => s.onPlacement kind index fun n r => s.holdRecord n r

/-- RELEASE (R20): the unordered marks stay. -/
def State.releaseRecord (s : State) (n : Nat) (r : Placement) : Answer :=
  match r.hold with
  | .free => s.reply .refusedState
  | _ => (s.putSlot n (some { r with hold := .free })).ok

/-- RELEASE (R20). -/
def execRelease (kind : Byte) (index : Half) (s : State) : Host.Outcome State Fault Refusal :=
  taken 6 s fun s => s.onPlacement kind index fun n r => s.releaseRecord n r

/-- SKIP (R21). -/
def State.skipIn (s : State) (n : Nat) (r : Placement) (p : Parity) : Answer :=
  if !s.isOpen p then s.reply .refusedState
  else if s.carriedIn n p then s.reply .refusedState
  else if (r.status.get p).state ≠ .callable then s.reply .refusedState
  else
    ((s.modifyStatus n p fun st => { st with state := .skipped, skipReason := some .host }).report p
      .skip).ok

/-- SKIP (R21). -/
def execSkip (kind : Byte) (index : Half) (parity : Byte) (s : State) :
    Host.Outcome State Fault Refusal :=
  taken 7 s fun s =>
    s.onPlacement kind index fun n r => s.onParity parity.toNat fun p => s.skipIn n r p

/-- The status slot as an accepted RECALL leaves it (R22). -/
def recalledSlot (r : Placement) (st : StatusSlot) : StatusSlot :=
  { st with
    state := .callable
    attempts := 0
    unordered := st.unordered || decide (r.hold ≠ .free) }

/-- RECALL (R22): check 3 is made on the state as if the recall had been made. -/
def State.recallIn (s : State) (n : Nat) (r : Placement) (p : Parity) : Answer :=
  match (s.board p).phase with
  | .free => s.reply .refusedState
  | .complete => s.reply .refusedState
  | _ =>
    if (r.status.get p).state ≠ .missed ∧ (r.status.get p).state ≠ .interrupted then
      s.reply .refusedState
    else if (s.modifyStatus n p (recalledSlot r)).precedesAtHead n p then s.reply .refusedState
    else ((s.modifyStatus n p (recalledSlot r)).report p .returned).ok

/-- RECALL (R22). -/
def execRecall (kind : Byte) (index : Half) (parity : Byte) (s : State) :
    Host.Outcome State Fault Refusal :=
  taken 8 s fun s =>
    s.onPlacement kind index fun n r => s.onParity parity.toNat fun p => s.recallIn n r p

/-- The table after RESET (R23): records stay admitted, HOLD_PENDING becomes HELD, and every status
slot is NOT_IN_BOARD. -/
def Placement.afterReset (r : Placement) : Placement :=
  { r with
    hold := match r.hold with
      | .free => .free
      | _ => .held
    status := { even := StatusSlot.fresh, odd := StatusSlot.fresh } }

end Sys2Proof.Machine
end

