-- ==== Sys2Proof/Machine/Power.lean ====
section
/-! DEFINITION. RESET, the rising edge of POR_N and its fall (R208, R209), with the reset tables of
every block (R23, R43, R66, R90, R108, R124, R137, R157, R180, R198). -/

namespace Sys2Proof.Machine

/-- Read OVERTEMP and SUPPLY_OK: a line at its fault level raises its alarm (R176, R208, R209). -/
def State.readFaultLines (s : State) : State :=
  let s1 := if s.inputs.levels.overtemp then s.raise .overTemp none else s
  if s.inputs.levels.supplyOk then s1 else s1.raise .supplyLow none

/-- The HALT steps of every block at RESET, whatever the machine state (R209, step 1). `late` leaves
the requests of the work cut short to arrive after step 2, where they find nothing to act on (R209,
R180; log 3). -/
def State.resetHalt (s : State) (late : Bool) : State :=
  if late then s.haltIndex.haltExchange.stopHead.haltAxes else s.haltBlocks

/-- A move slot after RESET (R157): FREE, its history kept. -/
def MoveSlot.afterReset (m : MoveSlot) : MoveSlot := { m with state := .free, position := none }

/-- The output lines after RESET (R43, R124, R180): CLAMP and PROFILE keep the levels the HALT left. -/
def Outputs.afterReset (o : Outputs) : Outputs :=
  { o with rejectGate := false, former := false, headDrive := false, transferReq := false }

/-- The RESET values of every block (R209, step 2): the placement program, the station configuration,
the clip-condition table and the settings are kept. -/
def State.resetValues (s : State) : State :=
  { s with
    table := s.table.map fun e => e.map Placement.afterReset
    boards := s.boards.map BoardRecord.afterReset
    nextNumber := 0
    runCounter := 0
    exchange := Exchange.powerOn
    stations := s.stations.map Station.afterReset
    stretch := s.stretch.map fun _ => Clip.unknown
    chain := Chain.powerOn
    slots := s.slots.map MoveSlot.afterReset
    alternation := .even
    axes := s.axes.map AxisRecord.idled
    head := Head.powerOn
    drive := Drive.powerOn
    machine := { state := .start, returnState := none }
    alarms := s.alarms.map AlarmRecord.afterReset
    outputs := s.outputs.afterReset }

/-- RESET (R209). -/
def State.resetCommand (s : State) (late : Bool) : State :=
  (s.resetHalt late).resetValues.readFaultLines

/-- RESET (R209): taken in every machine state. -/
def execReset (late : Bool) (s : State) : Host.Outcome State Fault Refusal :=
  taken 21 s fun s => (s.resetCommand late).ok

/-- The part after the rising edge of POR_N with the given line levels (R208); with CS_N low it waits
for CS_N to rise. The queue goes on, and the free bytes are not used again (log 11). -/
def State.poweredOn (s : State) (levels : LineLevels) (csLow : Bool) : State :=
  State.readFaultLines
    { State.reset with
      inputs := { porN := true, levels := levels }
      port := { Port.powerOn with awaitsRise := csLow }
      freeCount := s.freeCount + freeBytesPerFrame
      pending := s.pending }

/-- POWER_ON (R208): the one command that acts while POR_N is low. -/
def execPowerOn (levels : LineLevels) (s : State) (csLow : Bool := false) :
    Host.Outcome State Fault Refusal :=
  .next (s.poweredOn levels csLow)

/-- POR_N falls (R208): the outputs stand at their power-on levels, and every input is ignored until
it rises (log 20). -/
def State.porNFall (s : State) : State :=
  { s with inputs := { s.inputs with porN := false }, outputs := Outputs.powerOn }

/-- POR_N_FALL (R208). -/
def execPorNFall (s : State) : Host.Outcome State Fault Refusal := .next s.porNFall

end Sys2Proof.Machine
end

