-- ==== Sys2Proof/Machine/Dispatch.lean ====
section
/-! DEFINITION. The dispatch of the 70 commands: one arm for each constructor of Instr, one direct call
of its meaning. -/

namespace Sys2Proof.Machine

/-- The effect of a command on everything but the queue. -/
def exec (i : Instr) (s : State) : Host.Outcome State Fault Refusal :=
  match i with
  | .nop => Sys2Proof.Machine.execNop s
  | .lookup kind index part => Sys2Proof.Machine.execLookup kind index part s
  | .admitSlot k n w x y d t c => Sys2Proof.Machine.execAdmit k n w x y d t c s
  | .amend kind index field value => Sys2Proof.Machine.execAmend kind index field value s
  | .retire kind index => Sys2Proof.Machine.execRetire kind index s
  | .hold kind index => Sys2Proof.Machine.execHold kind index s
  | .release kind index => Sys2Proof.Machine.execRelease kind index s
  | .skip kind index parity => Sys2Proof.Machine.execSkip kind index parity s
  | .recallSlot kind index parity => Sys2Proof.Machine.execRecall kind index parity s
  | .align kind index dx dy scale => Sys2Proof.Machine.execAlign kind index dx dy scale s
  | .load kind index remaining => Sys2Proof.Machine.execLoad kind index remaining s
  | .stationSetting kind index item value => Sys2Proof.Machine.execStationSetting kind index item value s
  | .stationState kind index value => Sys2Proof.Machine.execStationState kind index value s
  | .clearStation kind index => Sys2Proof.Machine.execClearStation kind index s
  | .clearClipCondition index => Sys2Proof.Machine.execClearClipCondition index s
  | .clearAlarm index => Sys2Proof.Machine.execClearAlarm index s
  | .set kind index value => Sys2Proof.Machine.execSet kind index value s
  | .ack => Sys2Proof.Machine.execAck s
  | .run verifyPresent => Sys2Proof.Machine.execRun verifyPresent s
  | .pause => Sys2Proof.Machine.execPause s
  | .resume boardPresent => Sys2Proof.Machine.execResume boardPresent s
  | .drain => Sys2Proof.Machine.execDrain s
  | .halt => Sys2Proof.Machine.execHalt s
  | .recover => Sys2Proof.Machine.execRecover s
  | .reset late => Sys2Proof.Machine.execReset late s
  | .unknownCommand code => Sys2Proof.Machine.execUnknownCommand code s
  | .frameDiscard => Sys2Proof.Machine.execFrameDiscard s
  | .powerOn levels csLow => Sys2Proof.Machine.execPowerOn levels s csLow
  | .sprocketEdge k pocket => Sys2Proof.Machine.execSprocketEdge k pocket s
  | .advanceTimeout k => Sys2Proof.Machine.execAdvanceTimeout k s
  | .indexBegin => Sys2Proof.Machine.execIndexBegin s
  | .indexCompletion present leads order => Sys2Proof.Machine.execIndexCompletion present leads order s
  | .indexTimeout => Sys2Proof.Machine.execIndexTimeout s
  | .homeMarkEdge => Sys2Proof.Machine.execHomeMarkEdge s
  | .boardOpen => Sys2Proof.Machine.execBoardOpen s
  | .exchangeBegin => Sys2Proof.Machine.execExchangeBegin s
  | .transferDone boardPresent openFirst => Sys2Proof.Machine.execTransferDone boardPresent openFirst s
  | .boardPresentRise => Sys2Proof.Machine.execBoardPresentRise s
  | .clampedRise => Sys2Proof.Machine.execClampedRise s
  | .clampedFall => Sys2Proof.Machine.execClampedFall s
  | .transferTimeout => Sys2Proof.Machine.execTransferTimeout s
  | .clampTimeout => Sys2Proof.Machine.execClampTimeout s
  | .slotActivation => Sys2Proof.Machine.execSlotActivation s
  | .positionSample axis count boardPresent => Sys2Proof.Machine.execPositionSample axis count boardPresent s
  | .lockTimeout axis => Sys2Proof.Machine.execLockTimeout axis s
  | .cycleStart home => Sys2Proof.Machine.execCycleStart home s
  | .homingStart home => Sys2Proof.Machine.execHomingStart home s
  | .formed => Sys2Proof.Machine.execFormed s
  | .down => Sys2Proof.Machine.execDown s
  | .clinchEnd => Sys2Proof.Machine.execClinchEnd s
  | .headClear exchangeFirst => Sys2Proof.Machine.execHeadClear exchangeFirst s
  | .homeRise exchangeFirst => Sys2Proof.Machine.execHomeRise exchangeFirst s
  | .phaseTimeout edge exchangeFirst => Sys2Proof.Machine.execPhaseTimeout edge exchangeFirst s
  | .tripReached current => Sys2Proof.Machine.execTripReached s current
  | .offTimeExpiry => Sys2Proof.Machine.execOffTimeExpiry s
  | .clinchSample current => Sys2Proof.Machine.execClinchSample current s
  | .overcurrentRise current => Sys2Proof.Machine.execOvercurrentRise s current
  | .overcurrentFall current => Sys2Proof.Machine.execOvercurrentFall s current
  | .overcurrentFilterExpiry => Sys2Proof.Machine.execOvercurrentFilterExpiry s
  | .restroke => Sys2Proof.Machine.execRestroke s
  | .overtempRise => Sys2Proof.Machine.execOvertempRise s
  | .overtempFall => Sys2Proof.Machine.execOvertempFall s
  | .supplyOkFall => Sys2Proof.Machine.execSupplyOkFall s
  | .supplyOkRise => Sys2Proof.Machine.execSupplyOkRise s
  | .stopNFall => Sys2Proof.Machine.execStopNFall s
  | .stopNRise => Sys2Proof.Machine.execStopNRise s
  | .pausingQuiet => Sys2Proof.Machine.execPausingQuiet s
  | .drainEnd => Sys2Proof.Machine.execDrainEnd s
  | .retryTimeout kind => Sys2Proof.Machine.execRetryTimeout kind s
  | .porNFall => Sys2Proof.Machine.execPorNFall s

end Sys2Proof.Machine
end

