-- ==== Sys2Proof/Safety.lean ====
section
/-! DEFINITION. What counts as a sound state, in the terms the statements use: the laws that the rules
say the part keeps (R1, R8, R26, R44, R67, R98, R103, R105, R147, R178, R181, R191, R193). Each is a
property of one state; that every step keeps it is stated in Certificates. -/

namespace Sys2Proof.Machine

/-! ## The collections (R1, R44, R67, R105) -/

/-- The table has 384 slots, there are 72 station records, 81 clip records and 200 clip-condition
entries. -/
def ShapeHolds (s : State) : Prop :=
  s.table.length = 384 ∧ s.stations.length = 72 ∧ s.stretch.length = 81 ∧ s.conditions.length = 200

/-! ## The clinch drive (R178) -/

/-- A stroke is commanded only in the CLINCH phase with held NONE, and CLINCH is a phase of INSERT
cycles. -/
def DriveHolds (s : State) : Prop :=
  (s.drive.stroke = .commanded → s.head.state = .clinch ∧ s.head.held = .none) ∧
    (s.head.state = .clinch → s.head.kind = some .insert)

/-- The conditions under which the law of R178 forbids the bridge. -/
def DriveForbidden (s : State) : Prop :=
  s.machine.state = .halted ∨ s.inputs.levels.stopN = false ∨ s.drive.lockout = true ∨
    (s.alarm .clinchOvercurrent).state ≠ .clear ∨ s.inputs.levels.overtemp = true ∨
    s.inputs.levels.supplyOk = false

/-! ## Targets within the soft limits (R147, R156) -/

/-- A count lies within the soft limits of an axis. -/
def AxisSettings.Inside (g : AxisSettings) (v : Nat) : Prop := g.softMin ≤ v ∧ v ≤ g.softMax

/-- The load and dump positions of each axis lie within its soft limits (R156). -/
def PositionsInside (g : Settings) : Prop :=
  ∀ a : Axis, (g.axis.get a).Inside (g.axis.get a).loadPosition ∧
    (g.axis.get a).Inside (g.axis.get a).dumpPosition

/-- A slot in PLANNED or ACTIVE holds targets within the soft limits (R147). -/
def SlotInside (g : Settings) (m : MoveSlot) : Prop :=
  m.state = .planned ∨ m.state = .active →
    ∃ t : Quad Nat, m.targets = some t ∧ ∀ a : Axis, (g.axis.get a).Inside (t.get a)

/-- The law of R147, with the law of the settings that it needs. -/
def TargetsHold (s : State) : Prop :=
  PositionsInside s.settings ∧ ∀ p : Parity, SlotInside s.settings (s.moveSlot p)

/-! ## Attempts (R8) -/

/-- The law of R8 for one status slot: attempts never exceed the recall limit plus one, and they stand
there exactly while the state is MISSED. -/
def StatusSlot.AttemptsHold (t : StatusSlot) (limit : Nat) : Prop :=
  t.attempts ≤ limit + 1 ∧ (t.state = .missed ↔ t.attempts = limit + 1)

/-- The law of R8 in every open board. -/
def AttemptsHold (s : State) : Prop :=
  ∀ (n : Nat) (p : Parity) (r : Placement), s.slot? n = some r → s.isOpen p = true →
    (r.status.get p).AttemptsHold s.settings.recallLimit

/-! ## Board numbers (R25, R26) -/

/-- An open board's number has the record's parity, and is one of the two numbers before the next
board number. -/
def NumberHolds (s : State) (p : Parity) : Prop :=
  s.isOpen p = true →
    (s.board p).number < 65536 ∧ parityOf (s.board p).number = p ∧
      (((s.board p).number + 1) % 65536 = s.nextNumber ∨
        ((s.board p).number + 2) % 65536 = s.nextNumber)

/-- The numbers of the open boards follow each other, and end before the next board number. -/
def NumbersHold (s : State) : Prop :=
  s.nextNumber < 65536 ∧ NumberHolds s .even ∧ NumberHolds s .odd

/-! ## The machine record (R181) -/

/-- A return state is present exactly while the state is PAUSING or PAUSED (R181). -/
def ReturnHolds (s : State) : Prop :=
  s.machine.returnState.isSome = true ↔ s.machine.state = .pausing ∨ s.machine.state = .paused

/-- PAUSING has not been left where the machine is quiet, nor DRAINING where its end conditions hold:
no event leaves the machine so (R185, R187). -/
def SettledHolds (s : State) : Prop :=
  ¬ (s.machine.state = .pausing ∧ s.quiet = true) ∧
    ¬ (s.machine.state = .draining ∧ s.drainedOut = true)

/-! ## Alarm records (R191, R193, R196) -/

/-- A record whose condition is PRESENT is ACTIVE; a retry timer runs only in an ACTIVE record whose
condition is ABSENT; an event kind's condition never stands; a fixed reaction is HALT; occurrences
stop at 255. -/
def AlarmRecord.Holds (k : AlarmKind) (r : AlarmRecord) : Prop :=
  (r.condition = true → r.state = .active) ∧
    (r.retryTimer.isSome = true → r.state = .active ∧ r.condition = false) ∧
    (isEventKind k = true → r.condition = false) ∧
    (fixedReaction k = true → r.reaction = .halt) ∧ r.occurrences ≤ 255

/-- Every alarm record holds. -/
def AlarmsHold (s : State) : Prop := ∀ k : AlarmKind, (s.alarm k).Holds k

/-! ## The chain record and the clip ids (R91, R98, R103) -/

/-- The chain record's fields lie in their ranges (R98), the index timer runs exactly while INDEXING
(R91, R94), and miss run, w and candidate run are 0 where the sync state gives them no meaning. -/
def Chain.Holds (c : Chain) : Prop :=
  c.counter < 200 ∧ c.missRun ≤ 7 ∧ c.tolerance ≤ 3 ∧ c.candidateRun ≤ 7 ∧
    (c.indexTimer.isSome = true ↔ c.indexState = .indexing) ∧
    (c.syncState ≠ .locked → c.missRun = 0 ∧ c.tolerance = 0) ∧
    (c.syncState ≠ .locking → c.candidateRun = 0)

/-- The clip id a record at position `p` holds: by the counter while LOCKED, absent otherwise (R103). -/
def Chain.idAt (c : Chain) (p : Nat) : Option Nat :=
  match c.syncState with
  | .locked => some ((c.counter + 200 - p) % 200)
  | _ => none

/-- The chain record holds, and every clip record holds the id that R103 gives its position. -/
def ChainHolds (s : State) : Prop :=
  s.chain.Holds ∧ s.stretch.length = 81 ∧
    ∀ (p : Nat) (c : Clip), s.stretch[p]? = some c → c.clipId = s.chain.idAt p

/-! ## What a taken command leaves in the port (R199) -/

/-- The port of `t` holds the reply to the command just taken from `s`: the frame error flag is clear.
The count of free bytes is the model's own (log 11). -/
def Answered (s t : State) (cmd : Byte) (code : ReplyCode) (payload : List Byte) : Prop :=
  t.port =
      { s.port with
        reply := { code := code, command := cmd, payload := payload }, frameError := false } ∧
    t.freeCount = s.freeCount + freeBytesPerFrame

/-- POR_N is high: the part takes events (R208). -/
def Live (s : State) : Prop := s.inputs.porN = true

/-- POR_N is high, and the part does not wait for CS_N to rise: it takes frames (R199, R208). -/
def Taking (s : State) : Prop := s.inputs.porN = true ∧ s.port.awaitsRise = false

/-! ## What a board supervisor's report leaves (R29, R31) -/

/-- The phase of a board after an evaluation (R31), in terms of the state it leaves. -/
def PhaseEvaluated (s t : State) (p : Parity) : Prop :=
  (t.board p).phase =
    match (s.board p).phase with
    | .free => .free
    | .complete => .complete
    | _ => t.phaseFound p

/-- Every axis takes a new target (R151): runs 0, the lock timer started, SLEW or SETTLE by the
settle window. -/
def NewTarget (s t : State) (a : Axis) (target : Nat) : Prop :=
  t.axis a =
    { state :=
        match (s.axis a).lastPosition with
        | none => .slew
        | some v => if distance v target ≤ (s.axisSettings a).settleWindow then .settle else .slew
      target := target
      lastPosition := (s.axis a).lastPosition
      inRun := 0
      outRun := 0
      lockTimer := some (s.axisSettings a).lockTimeout }

/-- A raising as the record of its kind shows it, without the reaction (R192, R193). -/
def Raised (s t : State) (k : AlarmKind) (src : Option Source) : Prop :=
  (t.alarm k).lastSource = src ∧
    (t.alarm k).firstSource = (if (s.alarm k).state = .clear then src else (s.alarm k).firstSource) ∧
    (t.alarm k).occurrences =
      (if (s.alarm k).state = .clear then 1 else min 255 ((s.alarm k).occurrences + 1)) ∧
    (t.alarm k).reaction = (s.alarm k).reaction ∧ (t.alarm k).clearMode = (s.alarm k).clearMode ∧
    (if isEventKind k = true then
      (t.alarm k).condition = false ∧
        (match (s.alarm k).clearMode with
        | .latch => (t.alarm k).state = .latched ∧ (t.alarm k).retryTimer = none
        | .retry =>
          (t.alarm k).state = .active ∧ (t.alarm k).retryTimer = some s.settings.retryInterval)
    else
      (t.alarm k).condition = true ∧ (t.alarm k).state = .active ∧ (t.alarm k).retryTimer = none)

/-- The reaction of a raising on the machine state (R194). -/
def MachineAfter (r : Reaction) (m : MachineState) : MachineState :=
  match r, m with
  | .pause, .running => .pausing
  | .pause, .draining => .pausing
  | .halt, .running => .halted
  | .halt, .draining => .halted
  | .halt, .pausing => .halted
  | .halt, .paused => .halted
  | _, _ => m

/-- Where the ends of PAUSING and DRAINING, judged at the event that leaves `t`, take a machine that is
in `m` (R185, R187). -/
def MachineState.settledIn (m : MachineState) (t : State) : MachineState :=
  match m with
  | .pausing => if t.quiet = true then .paused else .pausing
  | .draining => if t.drainedOut = true then .stopped else .draining
  | _ => m

/-- An axis record at the end of an event: IDLE with its target kept where DRAINING ends at it (R187). -/
def AxisRecord.settledIn (r : AxisRecord) (s t : State) : AxisRecord :=
  if s.machine.state = .draining ∧ t.machine.state = .stopped then
    { r with state := .idle, inRun := 0, outRun := 0, lockTimer := none }
  else r

/-! ## The lasting conditions of the stations (R46, R65) -/

/-- The record of a lasting kind whose condition ends (R193). -/
def Ended (s t : State) (k : AlarmKind) : Prop :=
  t.alarm k =
    if (s.alarm k).condition = true then
      match (s.alarm k).clearMode with
      | .latch => { s.alarm k with condition := false, state := .latched }
      | .retry =>
        { s.alarm k with condition := false, retryTimer := some s.settings.retryInterval }
    else s.alarm k

/-- A lasting kind of the stations after a change of station `k`: raised with it where it has entered
the cause, ended where no station holds the cause any longer, and unchanged otherwise (R46, R65). -/
def CauseJudged (s t : State) (k : Nat) (kind : AlarmKind) (entered : Prop) (holds : Station → Prop) :
    Prop :=
  (entered → Raised s t kind (some (.station k))) ∧
    (¬ entered → (∃ st ∈ t.stations, holds st) → t.alarm kind = s.alarm kind) ∧
    (¬ entered → (∀ st ∈ t.stations, ¬ holds st) → Ended s t kind)

/-- The three lasting kinds of the stations after station `k` has changed from `a` to `b`. -/
def CausesJudged (s t : State) (k : Nat) (a b : Station) : Prop :=
  CauseJudged s t k .stationLow (a.low = false ∧ b.low = true) (fun st => st.low = true) ∧
    CauseJudged s t k .stationEmpty (a.state ≠ .empty ∧ b.state = .empty)
      (fun st => st.state = .empty) ∧
    CauseJudged s t k .stationSuspect (a.state ≠ .suspect ∧ b.state = .suspect)
      (fun st => st.state = .suspect)

/-! ## The beginnings of an exchange and of a head cycle (R33, R160) -/

/-- One of the three cases of R33 holds: the board on the table is COMPLETE, or the table is empty and
CLAMPED is true or an open board is NOT_LOADED. -/
def ExchangeCalled (s : State) : Prop :=
  (∃ p : Parity, s.onTable p = true ∧ (s.board p).phase = .complete) ∨
    ((∀ p : Parity, s.onTable p = false) ∧
      (s.inputs.levels.clamped = true ∨
        ∃ p : Parity, s.isOpen p = true ∧ (s.board p).tableState = .notLoaded))

/-- What an exchange that begins at `s` leaves (R33, R34): the leg MOVE with the kind and the leaving
board of its case, and the load-position targets at the axes. -/
def ExchangeBegun (s t : State) : Prop :=
  t.exchange =
      { s.exchange with leg := .move, kind := t.exchange.kind, leaving := t.exchange.leaving } ∧
    (∀ a : Axis, NewTarget s t a (s.axisSettings a).loadPosition) ∧
    (∀ p : Parity, s.onTable p = true → (s.board p).phase = .complete →
      (∀ q : Parity, q ≠ p → s.onTable q = false) →
      t.exchange.kind = .unload ∧
        t.exchange.leaving = some { parity := p, number := (s.board p).number } ∧
        t.board p = { s.board p with tableState := .unloading } ∧
        t.board (otherParity p) = s.board (otherParity p)) ∧
    ((∀ p : Parity, s.onTable p = false) →
      t.exchange.kind = (if s.inputs.levels.clamped = true then .unload else .load) ∧
        t.exchange.leaving = none ∧ t.boards = s.boards)

/-- The start conditions of R160 for a cycle with slot `p`, but for HOME and the head state: of an
INSERT cycle, or of a DUMP cycle. -/
def StartConditions (s : State) (p : Parity) : Prop :=
  (s.machine.state = .running ∨ s.machine.state = .draining) ∧ (s.moveSlot p).state = .active ∧
    (s.moveSlot p).position = some .p80 ∧ (∀ a : Axis, (s.axis a).state = .locked) ∧
    ¬ DriveForbidden s ∧
    (((s.moveSlot p).kind = some .insert ∧ (s.clip 80).state = .verified ∧
        (s.clip 80).dump = false ∧
        ∃ (c : Call) (j : Job), (s.clip 80).call = some c ∧ (s.moveSlot p).job = some j ∧
          c.board = j.board ∧ c.placement = j.placement ∧ s.isAligned j.board = true) ∨
      ((s.moveSlot p).kind = some .dump ∧
        ((s.clip 80).state = .unknown ∨
          ((s.clip 80).state = .verified ∧ (s.clip 80).dump = true))))

/-! ## The payloads of LOOKUP (R199, R203, R204)

A field of several values is sent as its position in its list, a field held in one bit as that bit. An
optional field that is absent is sent with its flag clear and no meaningful value (R199, log 10). -/

/-- The two bytes of a value, most significant first. -/
def sentTwo (n : Nat) : List Byte := [BitVec.ofNat 8 (n / 256), BitVec.ofNat 8 n]

/-- The three bytes of a value, most significant first. -/
def sentThree (n : Nat) : List Byte :=
  [BitVec.ofNat 8 (n / 65536), BitVec.ofNat 8 (n / 256), BitVec.ofNat 8 n]

/-- The two bytes of a signed value, in two's complement. -/
def sentSigned (i : Int) : List Byte := sentTwo (BitVec.ofInt 16 i).toNat

/-- `l` are the bytes of an optional field of `n` bytes: the field as it is sent where it is present. -/
def OptionalBytes {α : Type} (o : Option α) (n : Nat) (sent : α → List Byte) (l : List Byte) : Prop :=
  l.length = n ∧ ∀ v : α, o = some v → l = sent v

/-- `b` is the bit of an optional field: the field as it is sent where it is present. -/
def OptionalBit {α : Type} (o : Option α) (sent : α → Bool) (b : Bool) : Prop :=
  ∀ v : α, o = some v → b = sent v

/-- The three bytes of a status slot (placement, part 1). -/
def StatusSlot.Sent (u : StatusSlot) (l : List Byte) : Prop :=
  ∃ (reason : Bool) (peak : List Byte),
    OptionalBit u.skipReason (fun r => decide (r = .outOfTravel)) reason ∧
    OptionalBytes u.clinchPeak 1 (fun v => [byte v]) peak ∧
    l =
      [byte
        (32 * u.state.code + 16 * u.unordered.toNat + 8 * u.skipReason.isSome.toNat +
          4 * reason.toNat + 2 * u.clinchPeak.isSome.toNat),
       byte (16 * u.attempts + u.deferrals)] ++ peak

/-- Part 0 of a board record. -/
def BoardRecord.Sent (b : BoardRecord) (l : List Byte) : Prop :=
  ∃ correction : List Byte,
    OptionalBytes b.correction 6
      (fun c => sentSigned c.dx ++ sentSigned c.dy ++ sentSigned c.scale) correction ∧
    l =
      sentTwo b.number ++
        [byte (64 * b.phase.code + 16 * b.tableState.code + b.correction.isSome.toNat)] ++
        correction ++ sentTwo b.inBoard ++ sentTwo b.inserted

/-- Part 1 of a board record. -/
def BoardRecord.CountsSent (b : BoardRecord) (l : List Byte) : Prop :=
  l =
    sentTwo b.skipped ++ sentTwo b.outOfTravel ++ sentTwo b.missed ++ sentTwo b.interrupted ++
      sentTwo b.recalls ++ sentTwo b.deferrals

/-- The run record: run counter, next board number and exchange. -/
def RunSent (s : State) (l : List Byte) : Prop :=
  ∃ leaving incoming : Bool,
    OptionalBit s.exchange.leaving (fun v => decide (v.parity = .odd)) leaving ∧
    OptionalBit s.exchange.incoming (fun p => decide (p = .odd)) incoming ∧
    l =
      sentTwo s.runCounter ++ sentTwo s.nextNumber ++
        [byte s.exchange.leg.code,
         byte
          (128 * (decide (s.exchange.kind = .load)).toNat + 64 * s.exchange.waiting.toNat +
            32 * s.exchange.leaving.isSome.toNat + 16 * leaving.toNat +
            8 * s.exchange.incoming.isSome.toNat + 4 * incoming.toNat)]

/-- Part 1 of a station record: the length of the miss window and its entries, the oldest in bit 7 of
the first byte, FED as 0 and MISS as 1; bits beyond the length are 0. -/
def Station.WindowSent (st : Station) (l : List Byte) : Prop :=
  ∃ w : Half,
    (∀ i : Nat, i < 16 → w.getLsbD (15 - i) = decide (st.missWindow[i]? = some .miss)) ∧
    l = [byte st.missWindow.length] ++ sentTwo w.toNat

/-- A clip record. -/
def Clip.Sent (c : Clip) (l : List Byte) : Prop :=
  ∃ (verify : Nat) (board placement station id : List Byte),
    verify < 4 ∧ (∀ j : Judgment, c.verify = some j → verify = j.code) ∧
    OptionalBytes c.call 2 (fun k => sentTwo k.board) board ∧
    OptionalBytes c.call 2 (fun k => sentTwo k.placement) placement ∧
    OptionalBytes c.call 1 (fun k => [byte k.station]) station ∧
    OptionalBytes c.clipId 1 (fun i => [byte i]) id ∧
    l =
      [byte c.state.code,
       byte
        (128 * c.call.isSome.toNat + 64 * c.verify.isSome.toNat + 16 * verify + 8 * c.dump.toNat +
          4 * c.clipId.isSome.toNat)] ++ board ++ placement ++ station ++ id

/-- Part 0 of a move slot, with the alternation field. -/
def MoveSlot.Sent (m : MoveSlot) (alternation : Parity) (l : List Byte) : Prop :=
  ∃ (at80 dump : Bool) (board placement : List Byte),
    OptionalBit m.position (fun p => decide (p = .p80)) at80 ∧
    OptionalBit m.kind (fun k => decide (k = .dump)) dump ∧
    OptionalBytes m.job 2 (fun j => sentTwo j.board) board ∧
    OptionalBytes m.job 2 (fun j => sentTwo j.placement) placement ∧
    l =
      [byte m.state.code,
       byte
        (128 * m.position.isSome.toNat + 64 * at80.toNat + 32 * m.kind.isSome.toNat +
          16 * dump.toNat + 8 * m.job.isSome.toNat + (decide (alternation = .odd)).toNat)] ++
        board ++ placement

/-- Part 1 of a move slot: the four targets. -/
def MoveSlot.TargetsSent (m : MoveSlot) (l : List Byte) : Prop :=
  ∃ targets : List Byte,
    OptionalBytes m.targets 12
      (fun t => sentThree t.x ++ sentThree t.y ++ sentThree t.r ++ sentThree t.s) targets ∧
    l = [byte m.targets.isSome.toNat] ++ targets

/-- An axis record. -/
def AxisRecord.Sent (a : AxisRecord) (l : List Byte) : Prop :=
  ∃ last : List Byte,
    OptionalBytes a.lastPosition 3 sentThree last ∧
    l =
      [byte (64 * a.state.code + 32 * a.lockTimer.isSome.toNat + 16 * a.lastPosition.isSome.toNat)] ++
        sentThree a.target ++ last ++ [byte a.inRun, byte a.outRun]

/-- The chain record. -/
def Chain.Sent (c : Chain) (l : List Byte) : Prop :=
  l =
    [byte c.indexState.code, byte (128 * c.indexTimer.isSome.toNat + 64 * c.markSeen.toNat),
     byte c.counter, byte c.syncState.code, byte c.missRun, byte c.tolerance, byte c.candidateRun]

/-- Part 0 of the head record: the cycle. -/
def Head.Sent (h : Head) (l : List Byte) : Prop :=
  ∃ (dump odd : Bool) (board placement : List Byte) (profile trip : Nat),
    OptionalBit h.kind (fun k => decide (k = .dump)) dump ∧
    OptionalBit h.slot (fun p => decide (p = .odd)) odd ∧
    OptionalBytes h.job 2 (fun j => sentTwo j.board) board ∧
    OptionalBytes h.job 2 (fun j => sentTwo j.placement) placement ∧
    (∀ pl : StrokePlan, h.plan = some pl → profile = pl.profile.code ∧ trip = pl.trip) ∧
    l =
      [byte h.state.code,
       byte
        (128 * h.kind.isSome.toNat + 64 * dump.toNat + 32 * h.slot.isSome.toNat + 16 * odd.toNat +
          8 * h.job.isSome.toNat + 4 * h.formed.toNat + 2 * h.cleared.toNat +
          h.phaseTimer.isSome.toNat)] ++
        board ++ placement ++ [byte (64 * profile + trip), byte h.held.code, byte h.peak]

/-- Part 1 of the head record: the drive. -/
def DriveSent (s : State) (l : List Byte) : Prop :=
  l =
    [byte
      (128 * (decide (s.drive.stroke = .commanded)).toNat +
        64 * (decide (s.drive.chop = .offTime)).toNat + 32 * s.drive.openRun.toNat +
        16 * s.drive.filter.isSome.toNat + 8 * s.drive.lockout.toNat + 4 * s.bridgeOn.toNat),
     byte s.drive.chopCount, byte s.drive.samples, byte s.drive.strikes]

/-- The machine record, with the reports of the blocks. -/
def MachineSent (s : State) (l : List Byte) : Prop :=
  ∃ draining : Bool,
    OptionalBit s.machine.returnState (fun r => decide (r = .draining)) draining ∧
    l =
      [byte s.machine.state.code,
       byte
        (128 * s.machine.returnState.isSome.toNat + 64 * draining.toNat + 32 * s.boardOpen.toNat +
          16 * s.carryingClips.toNat + 8 * s.indexInFlight.toNat + 4 * s.head.inFlight.toNat +
          2 * s.exchangeInFlight.toNat),
       byte s.feedsInFlight, byte s.axesMoving]

/-- An alarm record. -/
def AlarmRecord.Sent (r : AlarmRecord) (l : List Byte) : Prop :=
  ∃ first last : List Byte,
    OptionalBytes r.firstSource 2 (fun v => sentTwo v.code) first ∧
    OptionalBytes r.lastSource 2 (fun v => sentTwo v.code) last ∧
    l =
      [byte
        (64 * r.state.code + 16 * r.reaction.code + 8 * (decide (r.clearMode = .latch)).toNat +
          4 * r.condition.toNat + 2 * r.retryTimer.isSome.toNat),
       byte (128 * r.firstSource.isSome.toNat + 64 * r.lastSource.isSome.toNat)] ++
        first ++ last ++ [byte r.occurrences]

/-- `v` is the value of setting item `n`, by the numbers of R203. -/
def ItemHolds (s : State) (n v : Nat) : Prop :=
  (n = 0 → v = s.settings.runLength) ∧
  (n = 1 → v = if s.settings.alignRequired = true then 0 else 1) ∧
  (n = 2 → v = s.settings.transferTimeout) ∧ (n = 3 → v = s.settings.clampTimeout) ∧
  (n = 4 → v = s.settings.forwardProtection) ∧ (n = 5 → v = s.settings.backwardProtection) ∧
  (n = 6 → v = s.settings.indexTimeout) ∧ (n = 7 → v = s.settings.badThreshold) ∧
  (n = 8 → v = s.settings.recallLimit) ∧ (n = 9 → v = s.settings.centreX) ∧
  (n = 10 → v = s.settings.centreY) ∧ (n = 11 → v = s.settings.homeX) ∧
  (n = 12 → v = s.settings.homeY) ∧ (n = 13 → v = s.settings.homeS) ∧
  (n = 14 → v = s.settings.homeR) ∧ (n = 15 → v = s.settings.quarter) ∧
  (∀ a : Axis,
    (n = 16 + axisCode a → v = (s.axisSettings a).softMin) ∧
    (n = 20 + axisCode a → v = (s.axisSettings a).softMax) ∧
    (n = 24 + axisCode a → v = (s.axisSettings a).settleWindow) ∧
    (n = 28 + axisCode a → v = (s.axisSettings a).lockWindow) ∧
    (n = 32 + axisCode a → v = (s.axisSettings a).lockCount) ∧
    (n = 36 + axisCode a → v = (s.axisSettings a).unlockCount) ∧
    (n = 40 + axisCode a → v = (s.axisSettings a).lockTimeout) ∧
    (n = 44 + axisCode a → v = (s.axisSettings a).loadPosition) ∧
    (n = 48 + axisCode a → v = (s.axisSettings a).dumpPosition)) ∧
  (n = 52 → v = s.settings.formTimeout) ∧ (n = 53 → v = s.settings.driveTimeout) ∧
  (n = 54 → v = s.settings.clinchTimeout) ∧ (n = 55 → v = s.settings.retractTimeout) ∧
  (n = 56 → v = s.settings.stroke.offTime) ∧ (n = 57 → v = s.settings.stroke.stallLimit) ∧
  (n = 58 → v = s.settings.stroke.overcurrentThreshold) ∧
  (n = 59 → v = s.settings.stroke.filterTime) ∧ (n = 60 → v = s.settings.stroke.openThreshold) ∧
  (n = 61 → v = s.settings.stroke.openSamples) ∧
  (∀ k : AlarmKind,
    (62 ≤ n → kindOfCode (n - 62) = some k → v = (s.alarm k).reaction.code) ∧
    (78 ≤ n → kindOfCode (n - 78) = some k → v = (s.alarm k).clearMode.code)) ∧
  (n = 94 → v = s.settings.retryInterval)

/-- LOOKUP answers OK with a payload that begins with bytes as `sent` says; the bytes that the layout
does not list are 0. -/
def Reads (s : State) (kind : Byte) (index : Half) (part : Byte) (sent : List Byte → Prop) : Prop :=
  ∃ l : List Byte, l.length ≤ 13 ∧ sent l ∧
    exec (.lookup kind index part) s =
      .next (s.replied 1 .ok (l ++ List.replicate (13 - l.length) 0))

/-! ## Requests of the blocks (R7, R11) -/

/-- The placement that a clip's call names is CALLED in an open board: a request for it is applied
(R12). -/
def CalledFor (s : State) (c : Call) (u : StatusSlot) : Prop :=
  s.isOpen c.parity = true ∧ s.statusOf c.placement c.parity = some u ∧ u.state = .called

/-- Pair (n, p), with record `r`, comes before pair (m, q), with record `u`, in the order of the calling
key (R80). -/
def CalledBefore (s : State) (n : Nat) (p : Parity) (r : Placement) (m : Nat) (q : Parity)
    (u : Placement) : Prop :=
  s.isOlder p q = true ∨
    (q = p ∧ (r.tier < u.tier ∨ (r.tier = u.tier ∧ (r.sequence < u.sequence ∨
      (r.sequence = u.sequence ∧ n < m)))))

end Sys2Proof.Machine
end

