-- ==== Sys2Proof/Certificates/Slice0/Obligations.lean ====
section
/-! DEFINITION. The statements for the provers, from the numbered rules of spec/. A statement that says
"changes nothing else" writes the next state as the old one with the fields that may change taken from
the next state. -/

open Sys2Proof Sys2Proof.Machine

/-! ## The queue and the whole machine -/

/-- A step runs the command at the front of the queue on the queue's rest; on an empty queue the
block idles (the model's choice, log 2). -/
def Obligations.StepRunsFrontCommand : Prop :=
  (∀ (c : Instr) (rest : List Instr) (s : State), s.pending = c :: rest →
    step s = exec c { s with pending := rest }) ∧
    ∀ s : State, s.pending = [] → step s = .next s

/-- State.reset is what power-on leaves (R23, R43, R66, R90, R157, R180, R198, R208): an empty
table, FREE boards, OFFLINE stations with no parts, an UNKNOWN stretch, IDLE axes and head, START,
and OK for NOP; and it keeps every law of Safety. -/
def Obligations.PowerOnLeavesTheStartValues : Prop :=
  ((∀ n : Nat, State.reset.slot? n = none) ∧
     (∀ p : Parity, State.reset.isOpen p = false ∧ (State.reset.board p).number = 0 ∧
       (State.reset.moveSlot p).state = .free) ∧
     (∀ k : Nat, 1 ≤ k → k ≤ 72 → ∃ st, State.reset.station? k = some st ∧ st.state = .offline ∧
       st.remaining = 0 ∧ st.feed = .idle) ∧
     (∀ q : Nat, q ≤ 80 → State.reset.stretch[q]? =
       some { state := .unknown, call := none, verify := none, dump := false, clipId := none }) ∧
     (∀ a : Axis, (State.reset.axis a).state = .idle ∧ (State.reset.axis a).target = 0) ∧
     State.reset.head.state = .idle ∧ State.reset.drive.stroke = .none ∧
     State.reset.machine.state = .start ∧ (∀ k : AlarmKind, (State.reset.alarm k).state = .clear) ∧
     State.reset.port.reply = { code := .ok, command := 0, payload := [] }) ∧
  (ShapeHolds State.reset ∧ DriveHolds State.reset ∧ TargetsHold State.reset ∧
     AttemptsHold State.reset ∧ NumbersHold State.reset ∧ ReturnHolds State.reset ∧
     AlarmsHold State.reset ∧ ChainHolds State.reset ∧ SettledHolds State.reset)

/-! ## Laws that every step keeps -/

/-- No command changes the queue, and every step keeps the sizes of the collections (R1, R44, R67,
R105). -/
def Obligations.StepKeepsShape : Prop :=
  (∀ (c : Instr) (s t : State), exec c s = .next t → t.pending = s.pending) ∧
  (∀ s t : State, ShapeHolds s → step s = .next t → ShapeHolds t)

/-- Every step keeps a commanded stroke inside the CLINCH phase of an INSERT cycle; there alone
BRIDGE_ON is high, and never while the machine is HALTED, STOP_N is low, lockout is set, or an
over-current, over-temperature or supply-low condition stands. The drive is available exactly while
none of these forbids it (R177, R178). -/
def Obligations.StepKeepsDriveLaw : Prop :=
  (∀ s t : State, DriveHolds s → step s = .next t → DriveHolds t) ∧
  (∀ s : State, DriveHolds s →
     (s.bridgeOn = true →
       s.head.state = .clinch ∧ s.head.kind = some .insert ∧ ¬ DriveForbidden s) ∧
     (s.driveAvailable = true ↔ ¬ DriveForbidden s))

/-- Every step keeps the targets of PLANNED and ACTIVE slots, and the load and dump positions,
within the soft limits (R147, R136, R156). -/
def Obligations.StepKeepsTargetsWithinLimits : Prop :=
  ∀ s t : State, TargetsHold s → step s = .next t → TargetsHold t

/-- Every step keeps the law of R8: in every open board attempts never exceed the recall limit plus
one, and a placement is MISSED exactly where they stand there. -/
def Obligations.StepKeepsAttempts : Prop :=
  ∀ s t : State, AttemptsHold s → step s = .next t → AttemptsHold t

/-- Every step keeps the numbers of the open boards one of the two before the next number, each in
the record of its parity; two open boards then have consecutive numbers modulo 65536 (R25, R26). The
number that an exchange holds with its leaving board is the one the board had when it was named, and
no step changes it while it is named (R32, R37). -/
def Obligations.StepKeepsBoardNumbers : Prop :=
  (∀ s t : State, NumbersHold s → step s = .next t → NumbersHold t) ∧
  (∀ s : State, NumbersHold s → s.isOpen .even = true → s.isOpen .odd = true →
     (s.board .odd).number = ((s.board .even).number + 1) % 65536 ∨
       (s.board .even).number = ((s.board .odd).number + 1) % 65536) ∧
  (∀ (s t : State) (l : Leaving), step s = .next t → t.exchange.leaving = some l →
     s.exchange.leaving = some l ∨
       (s.exchange.leg = .idle ∧ l.number = (s.board l.parity).number))

/-- Every step keeps each alarm record sound: conditions, retry timers, event kinds and fixed
reactions (R191, R193, R196); every step keeps a return state present exactly in PAUSING and PAUSED
(R181); and no step leaves the machine PAUSING while it is quiet, or DRAINING where its end conditions
hold (R185, R187). -/
def Obligations.StepKeepsAlarmRecords : Prop :=
  (∀ s t : State, AlarmsHold s → step s = .next t → AlarmsHold t) ∧
  (∀ s t : State, ReturnHolds s → step s = .next t → ReturnHolds t) ∧
  (∀ s t : State, SettledHolds s → step s = .next t → SettledHolds t)

/-- Every step keeps the chain record in its ranges, and the id of every clip record the one its
position and the counter give while LOCKED, absent otherwise (R91, R98, R103). -/
def Obligations.StepKeepsClipIds : Prop :=
  ∀ s t : State, ChainHolds s → step s = .next t → ChainHolds t

/-- The host alone sets the machine running again (R182 to R190, R194): only RUN in STOPPED and
RESUME in PAUSED enter RUNNING; only RECOVER, RESET and POWER_ON leave HALTED; START is left by ACK
alone, and STOPPED by RUN, RESET and POWER_ON alone. -/
def Obligations.HostAloneSetsRunning : Prop :=
  ∀ (c : Instr) (s t : State), exec c s = .next t →
    (t.machine.state = .running → s.machine.state ≠ .running →
      (s.machine.state = .stopped ∧ ∃ v, c = .run v) ∨
        (s.machine.state = .paused ∧ ∃ v, c = .resume v)) ∧
    (s.machine.state = .halted → t.machine.state ≠ .halted →
      c = .recover ∨ (∃ l, c = .reset l) ∨ ∃ l b, c = .powerOn l b) ∧
    (s.machine.state = .start → t.machine.state ≠ .start → c = .ack) ∧
    (s.machine.state = .stopped → t.machine.state ≠ .stopped →
      (∃ v, c = .run v) ∨ (∃ l, c = .reset l) ∨ ∃ l b, c = .powerOn l b)

/-- ALARM_N is asserted exactly when the machine is in START or at least one alarm record is not
CLEAR (R197); while POR_N is low it stands at its power-on level, low (R208). -/
def Obligations.AlarmLineLaw : Prop :=
  ∀ s : State,
    (Live s → (s.alarmN = false ↔
      s.machine.state = .start ∨ ∃ k : AlarmKind, (s.alarm k).state ≠ .clear)) ∧
    (¬ Live s → s.alarmN = false)

/-! ## Frames, power and reset -/

/-- The frame that carries a well-formed command is decoded to that command, with the levels it
samples (R199, R206); a frame of any other length than 16 whole bytes is discarded, one that ends
part way through a byte among them (R200). The model's choices: the row that a CLEAR or STATION
frame gives (log 17), a discarded frame shown as the frame of no bytes (log 16), and whether a RESET
finds late requests (log 3). -/
def Obligations.FrameRoundTrip : Prop :=
  (∀ (v : Sampled) (i : Instr) (bytes : List Byte), i.wf = true → encodeFrame i = some bytes →
    i.agrees v = true → decodeFrame v bytes = i) ∧
  ∀ (v : Sampled) (bytes : List Byte) (part : Nat), bytes.length ≠ 16 ∨ part ≠ 0 →
    decodeFrame v bytes part = .frameDiscard

/-- POWER_ON (R208): every block takes its power-on values, the machine is in START, the reply is OK
for NOP, and OVERTEMP and SUPPLY_OK found at their fault level raise their alarms. With CS_N low at
that moment, the part waits for it to rise: the frame that then ends, whole or not, changes nothing
else, which is the model's reading (log 37). The model's choices: State.reset's exchange kind UNLOAD
(log 9) and its copy of the stroke settings (log 22), and the queue and the count of free bytes, which
go on (log 11). -/
def Obligations.PowerOnStartsThePart : Prop :=
  (∀ (l : LineLevels) (csLow : Bool) (s : State), ∃ t : State, exec (.powerOn l csLow) s = .next t ∧
    t =
      { State.reset with
        inputs := { porN := true, levels := l }
        port := { Port.powerOn with awaitsRise := csLow }
        freeCount := s.freeCount + freeBytesPerFrame
        pending := s.pending
        alarms := t.alarms } ∧
    (∀ k : AlarmKind, k ≠ .overTemp → k ≠ .supplyLow → t.alarm k = State.reset.alarm k) ∧
    (if l.overtemp = true then Raised State.reset t .overTemp none
      else t.alarm .overTemp = State.reset.alarm .overTemp) ∧
    (if l.supplyOk = true then t.alarm .supplyLow = State.reset.alarm .supplyLow
      else Raised State.reset t .supplyLow none)) ∧
  ∀ (c : Instr) (bytes : List Byte) (s : State), encodeFrame c = some bytes → Live s →
    s.port.awaitsRise = true →
    exec c s = .next { s with port := { s.port with awaitsRise := false } }

/-- POR_N falling holds every output at its power-on level and changes no record; while it is low,
every command but POWER_ON leaves the part as it is (R208; POR_N_FALL taken again sets the outputs
to the levels they hold). -/
def Obligations.PorNLowHoldsThePart : Prop :=
  (∀ s : State, ∃ t : State, exec .porNFall s = .next t ∧
     t =
       { s with
         inputs := { s.inputs with porN := false }
         outputs :=
           { rejectGate := false, former := false, headDrive := false, profile := .inward
             transferReq := false, clamp := false } } ∧
     t.bridgeOn = false ∧ t.indexLine = false ∧ (∀ k : Nat, t.feedLine k = false) ∧
     (∀ a : Axis, t.coarseLine a = false ∧ t.targetOutput a = 0) ∧ t.alarmN = false) ∧
  (∀ (c : Instr) (s : State), c.wf = true → ¬ Live s → (∀ l b, c ≠ .powerOn l b) → c ≠ .porNFall →
     exec c s = .next s)

/-- RESET (R209 with the tables of R23, R43, R66, R90, R108, R124, R157, R180, R198): taken in every
machine state, it keeps the placement program, the station configuration, the clip-condition table and
the settings, and returns the rest to its reset values; a line at its fault level raises its alarm. The
exchange kind and the copy of the stroke settings that it leaves are the model's choice (log 9, log
22). -/
def Obligations.ResetCommandReturnsToStart : Prop :=
  ∀ (late : Bool) (s : State), Taking s → ∃ t : State, exec (.reset late) s = .next t ∧
    t.machine = { state := .start, returnState := none } ∧
    (∀ n : Nat, t.slot? n =
      (s.slot? n).map fun r =>
        { r with
          hold := if r.hold = .free then .free else .held
          status := { even := StatusSlot.fresh, odd := StatusSlot.fresh } }) ∧
    (∀ p : Parity,
      t.board p =
        { s.board p with
          phase := .free, tableState := .notLoaded, recalls := (t.board p).recalls
          interrupted := (t.board p).interrupted } ∧
      (late = true → (t.board p).recalls = (s.board p).recalls ∧
        (t.board p).interrupted = (s.board p).interrupted)) ∧
    t.nextNumber = 0 ∧ t.runCounter = 0 ∧
    (t.exchange.leg = .idle ∧ t.exchange.waiting = false ∧ t.exchange.leaving = none ∧
      t.exchange.incoming = none ∧ t.exchange.transferTimer = none ∧
      t.exchange.clampTimer = none) ∧
    (∀ (k : Nat) (st : Station), s.station? k = some st →
      t.station? k =
        some
          { st with
            committed := 0, feed := .idle, retriesUsed := 0, work := none, advanceTimer := none }) ∧
    (∀ c ∈ t.stretch, c = Clip.unknown) ∧ t.stretch.length = s.stretch.length ∧
    t.chain = Chain.powerOn ∧ t.conditions = s.conditions ∧ t.settings = s.settings ∧
    t.alternation = .even ∧
    (∀ p : Parity, t.moveSlot p = { s.moveSlot p with state := .free, position := none }) ∧
    (∀ a : Axis, t.axis a =
      { s.axis a with state := .idle, inRun := 0, outRun := 0, lockTimer := none }) ∧
    t.head = Head.powerOn ∧
    t.drive =
      { stroke := .none, chop := .on, chopCount := 0, samples := 0, openRun := true, filter := none
        offTimer := none, strikes := 0, lockout := false, inForce := t.drive.inForce } ∧
    t.bridgeOn = false ∧
    (∀ k : AlarmKind,
      if (k = .overTemp ∧ s.inputs.levels.overtemp = true) ∨
          (k = .supplyLow ∧ s.inputs.levels.supplyOk = false) then
        t.alarm k =
          { state := .active, reaction := (s.alarm k).reaction, clearMode := (s.alarm k).clearMode
            condition := true, retryTimer := none, firstSource := none, lastSource := none
            occurrences := 1 }
      else
        t.alarm k =
          { state := .clear, reaction := (s.alarm k).reaction, clearMode := (s.alarm k).clearMode
            condition := false, retryTimer := none, firstSource := none, lastSource := none
            occurrences := 0 }) ∧
    t.inputs = s.inputs ∧
    t.outputs =
      { s.outputs with
        rejectGate := false, former := false, headDrive := false, transferReq := false
        clamp := if s.exchange.leg = .clamping then false else s.outputs.clamp } ∧
    Answered s t 21 .ok []

/-! ## The control port -/

/-- NOP, a code that names no command and a discarded frame complete and change no record: the reply
is OK for NOP, UNKNOWN_COMMAND for the code, and FRAME_ERROR for NOP with the frame error flag set
(R200, R202, R205). Which bytes make a discarded frame is decodeFrame's (FrameRoundTrip). -/
def Obligations.PortFramesCompleteAlone : Prop :=
  ∀ (s : State) (code : Byte), Taking s → 22 ≤ code.toNat →
    exec .nop s = .next (s.replied 0 .ok []) ∧
    exec (.unknownCommand code) s = .next (s.replied code .unknownCommand []) ∧
    exec .frameDiscard s =
      .next
        { s with
          port :=
            { s.port with
              reply := { code := .frameError, command := 0, payload := [] }, frameError := true }
          freeCount := s.freeCount + freeBytesPerFrame }

/-- LOOKUP completes in every machine state and changes no record: 13 payload bytes with OK, or no
payload with a refusal; a FREE placement slot is NO_RECORD, and a kind or part that does not exist
is refused (R203): an index outside the kind's range, part 1 of a kind of one part, and a part above
1. That a FREE slot is NO_RECORD whatever the part number is the model's reading (log 30). The
payload of every part holds its record's fields at the places of R204, the bytes not listed 0, and a
setting item reads as the setting that R203 numbers. An absent optional field has its flag clear;
what is sent in its place is free (the model's choice, log 10), and not stated. -/
def Obligations.LookupReadsARecord : Prop :=
  (∀ (kind : Byte) (index : Half) (part : Byte) (s : State), Taking s →
     ∃ (code : ReplyCode) (payload : List Byte),
       exec (.lookup kind index part) s = .next (s.replied 1 code payload) ∧
       ((code = .ok ∧ payload.length = 13) ∨
         ((code = .refusedRange ∨ code = .noRecord) ∧ payload = [])) ∧
       (code = .noRecord ↔ kind = 0 ∧ index.toNat < 384 ∧ s.slot? index.toNat = none) ∧
       (13 ≤ kind.toNat → code = .refusedRange) ∧ (2 ≤ part.toNat → code ≠ .ok)) ∧
  ((∀ (index : Half) (s : State) (r : Placement), Taking s → index.toNat < 384 →
     s.slot? index.toNat = some r →
     exec (.lookup 0 index 0) s =
       .next
         (s.replied 1 .ok
           [byte (r.sequence / 256), byte r.sequence, byte r.station, byte (r.x / 256), byte r.x,
            byte (r.y / 256), byte r.y, byte r.span, byte r.trip,
            byte
             ((if r.substitute = true then 128 else 0) + 32 * r.orientation.quadrant +
               8 * r.clinch.code + r.tier),
            byte r.hold.code, 0, 0])) ∧
     ∀ (index : Half) (s : State) (st : Station), Taking s → s.station? index.toNat = some st →
       exec (.lookup 3 index 0) s =
         .next
           (s.replied 1 .ok
             [byte st.state.code, byte st.group, byte (st.remaining / 256), byte st.remaining,
              byte st.committed, byte (st.lowLevel / 256), byte st.lowLevel, byte st.retryLimit,
              byte st.advanceTimeout, byte st.missThreshold,
              byte
               ((if st.low = true then 128 else 0) + 32 * st.feed.code +
                 8 * st.consecutiveMisses + st.retriesUsed), 0, 0])) ∧
  (∀ (kind : Byte) (index : Half) (part : Byte) (s : State), Taking s → ShapeHolds s →
     ((kind = 0 ∧ 384 ≤ index.toNat) ∨ ((kind = 1 ∨ kind = 6) ∧ 2 ≤ index.toNat) ∨
       ((kind = 2 ∨ kind = 8 ∨ kind = 9 ∨ kind = 10) ∧ index.toNat ≠ 0) ∨
       (kind = 3 ∧ (index.toNat = 0 ∨ 72 < index.toNat)) ∨ (kind = 4 ∧ 80 < index.toNat) ∨
       (kind = 5 ∧ 199 < index.toNat) ∨ (kind = 7 ∧ 3 < index.toNat) ∨
       (kind = 11 ∧ 15 < index.toNat) ∨ (kind = 12 ∧ 94 < index.toNat) ∨
       ((kind = 2 ∨ kind = 4 ∨ kind = 5 ∨ kind = 7 ∨ kind = 8 ∨ kind = 10 ∨ kind = 11 ∨ kind = 12) ∧
         part ≠ 0) ∨ (kind ≠ 0 ∧ 2 ≤ part.toNat)) →
     exec (.lookup kind index part) s = .next (s.replied 1 .refusedRange [])) ∧
  ∀ (index : Half) (s : State), Taking s →
    (∀ r : Placement, index.toNat < 384 → s.slot? index.toNat = some r →
      Reads s 0 index 1 fun l =>
        ∃ even odd : List Byte, r.status.even.Sent even ∧ r.status.odd.Sent odd ∧ l = even ++ odd) ∧
    (∀ p : Parity, index.toNat = parityCode p →
      Reads s 1 index 0 (s.board p).Sent ∧ Reads s 1 index 1 (s.board p).CountsSent ∧
        Reads s 6 index 0 ((s.moveSlot p).Sent s.alternation) ∧
        Reads s 6 index 1 (s.moveSlot p).TargetsSent) ∧
    (∀ st : Station, s.station? index.toNat = some st → Reads s 3 index 1 st.WindowSent) ∧
    (index.toNat ≤ 80 → Reads s 4 index 0 (s.clip index.toNat).Sent) ∧
    (index.toNat ≤ 199 →
      Reads s 5 index 0 fun l =>
        l = [byte (s.condition index.toNat).state.code, byte (s.condition index.toNat).failCount]) ∧
    (∀ a : Axis, index.toNat = axisCode a → Reads s 7 index 0 (s.axis a).Sent) ∧
    (index.toNat = 0 →
      Reads s 2 index 0 (RunSent s) ∧ Reads s 8 index 0 s.chain.Sent ∧
        Reads s 9 index 0 s.head.Sent ∧ Reads s 9 index 1 (DriveSent s) ∧
        Reads s 10 index 0 (MachineSent s)) ∧
    (∀ k : AlarmKind, kindOfCode index.toNat = some k → Reads s 11 index 0 (s.alarm k).Sent) ∧
    (index.toNat ≤ 94 →
      Reads s 12 index 0 fun l => ∃ v : Nat, ItemHolds s index.toNat v ∧ l = sentThree v)

/-- The status byte shows, from bit 7 down: an alarm record not CLEAR, one of HALT reaction not
CLEAR, the frame error flag, the machine state in bits 4..2, a board AWAITING_ALIGN, and STARVE not
CLEAR (R201). With it, the reply code, the command and a payload of at most 13 bytes make a response
frame of exactly 16 bytes (R199), as the model's view of a frame that begins in that state (log 16);
the bytes that a shorter payload leaves are free (log 10). -/
def Obligations.ResponseFrameShowsStatusAndReply : Prop :=
  (∀ s : State,
     (s.statusByte.getLsbD 7 = true ↔ ∃ k : AlarmKind, (s.alarm k).state ≠ .clear) ∧
     (s.statusByte.getLsbD 6 = true ↔
       ∃ k : AlarmKind, (s.alarm k).state ≠ .clear ∧ (s.alarm k).reaction = .halt) ∧
     (s.statusByte.getLsbD 5 = true ↔ s.port.frameError = true) ∧
     s.statusByte.toNat / 4 % 8 = s.machine.state.code ∧
     (s.statusByte.getLsbD 1 = true ↔
       ∃ p : Parity, (s.board p).tableState = .awaitingAlign) ∧
     (s.statusByte.getLsbD 0 = true ↔ (s.alarm .starve).state ≠ .clear)) ∧
  (∀ s : State, s.port.reply.payload.length ≤ 13 →
     s.responseFrame.length = 16 ∧ s.responseFrame[0]? = some s.statusByte ∧
       s.responseFrame[1]? = some (byte s.port.reply.code.code) ∧
       s.responseFrame[2]? = some s.port.reply.command ∧
       ∀ i : Nat, i < s.port.reply.payload.length →
         s.responseFrame[3 + i]? = s.port.reply.payload[i]?)

/-! ## Placement table -/

/-- A command that names a placement is refused with NO_RECORD at a FREE slot and with REFUSED_RANGE
at an index above 383 (R1), and changes no record. With a record kind other than that of a placement
it is REFUSED_RANGE (R202, R206), ADMIT among them, whatever else the frame carries. -/
def Obligations.FreeSlotsAreRefused : Prop :=
  (∀ (index value : Half) (b : Byte) (s : State), Taking s →
    let code : ReplyCode := if index.toNat < 384 then .noRecord else .refusedRange
    (index.toNat < 384 → s.slot? index.toNat = none) →
    exec (.amend 0 index b value) s = .next (s.replied 3 code []) ∧
    exec (.retire 0 index) s = .next (s.replied 4 code []) ∧
    exec (.hold 0 index) s = .next (s.replied 5 code []) ∧
    exec (.release 0 index) s = .next (s.replied 6 code []) ∧
    exec (.skip 0 index b) s = .next (s.replied 7 code []) ∧
    exec (.recallSlot 0 index b) s = .next (s.replied 8 code [])) ∧
  ∀ (kind : Byte) (index value x y : Half) (b station span trip code : Byte) (s : State), Taking s →
    kind ≠ 0 →
    exec (.admitSlot kind value station x y span trip code) s =
        .next (s.replied 2 .refusedRange []) ∧
      exec (.amend kind index b value) s = .next (s.replied 3 .refusedRange []) ∧
      exec (.retire kind index) s = .next (s.replied 4 .refusedRange []) ∧
      exec (.hold kind index) s = .next (s.replied 5 .refusedRange []) ∧
      exec (.release kind index) s = .next (s.replied 6 .refusedRange []) ∧
      exec (.skip kind index b) s = .next (s.replied 7 .refusedRange []) ∧
      exec (.recallSlot kind index b) s = .next (s.replied 8 .refusedRange [])

/-- ADMIT with every operand in its range writes the record, its hold FREE and its status slots
NOT_IN_BOARD, into the lowest FREE slot and answers that slot's number; with no FREE slot it is
TABLE_FULL; with an operand outside its range it is REFUSED_RANGE, whether or not a slot is FREE
(R15). -/
def Obligations.AdmitFillsLowestFreeSlot : Prop :=
  (∀ (sequence : Half) (station : Byte) (x y : Half) (span trip code : Byte) (o : Orientation)
     (c : Profile) (s : State), Taking s → ShapeHolds s →
     1 ≤ station.toNat → station.toNat ≤ 72 → x.toNat ≤ 60000 → y.toNat ≤ 45000 →
     50 ≤ span.toNat → span.toNat ≤ 254 → trip.toNat ≤ 7 →
     code.toNat / 32 % 4 = o.quadrant → code.toNat / 8 % 4 = c.code →
     (∀ n : Nat, n < 384 → s.slot? n = none → (∀ m : Nat, m < n → s.slot? m ≠ none) →
       exec (.admitSlot 0 sequence station x y span trip code) s =
         .next
           (State.replied
             { s with
               table := s.table.set n
                 (some
                   { sequence := sequence.toNat, station := station.toNat
                     substitute := code.getLsbD 7, x := x.toNat, y := y.toNat, orientation := o
                     span := span.toNat, tier := code.toNat % 4, clinch := c, trip := trip.toNat
                     hold := .free
                     status := { even := StatusSlot.fresh, odd := StatusSlot.fresh } }) }
             2 .ok [byte (n / 256), byte n])) ∧
     ((∀ n : Nat, n < 384 → s.slot? n ≠ none) →
       exec (.admitSlot 0 sequence station x y span trip code) s = .next (s.replied 2 .tableFull []))) ∧
  (∀ (sequence : Half) (station : Byte) (x y : Half) (span trip code : Byte) (s : State), Taking s →
     (station.toNat = 0 ∨ 72 < station.toNat ∨ 60000 < x.toNat ∨ 45000 < y.toNat ∨ span.toNat < 50 ∨
       254 < span.toNat ∨ 7 < trip.toNat ∨ code.toNat / 8 % 4 = 3) →
     exec (.admitSlot 0 sequence station x y span trip code) s = .next (s.replied 2 .refusedRange []))

/-- AMEND (R16, R17) writes the one program field it names, of those numbered 0 to 9, and no other:
in START and STOPPED, or with hold HELD, a value in the field's range is written; a tier is refused
where the law of the reject gate would not hold with the new tier in place; without the hold it is
NOT_HELD, and a value outside the field's range, or a field that is no program field (10 and above),
is REFUSED_RANGE. That the law is checked on the whole state, so that a tier is refused where the
law is broken already, is the model's choice (log 38). -/
def Obligations.AmendWritesOneField : Prop :=
  ∀ (index value : Half) (field : Byte) (s : State) (r : Placement), Taking s →
    index.toNat < 384 → s.slot? index.toNat = some r →
    let v := value.toNat
    let claimed : Prop := s.machine.state = .start ∨ s.machine.state = .stopped ∨ r.hold = .held
    (∀ r' : Placement,
      (field = 0 ∧ r' = { r with sequence := v }) ∨
      (field = 1 ∧ 1 ≤ v ∧ v ≤ 72 ∧ r' = { r with station := v }) ∨
      (field = 2 ∧ v ≤ 1 ∧ r' = { r with substitute := decide (v = 1) }) ∨
      (field = 3 ∧ v ≤ 60000 ∧ r' = { r with x := v }) ∨
      (field = 4 ∧ v ≤ 45000 ∧ r' = { r with y := v }) ∨
      (field = 5 ∧ r'.orientation.quadrant = v ∧ r' = { r with orientation := r'.orientation }) ∨
      (field = 6 ∧ 50 ≤ v ∧ v ≤ 254 ∧ r' = { r with span := v }) ∨
      (field = 7 ∧ v ≤ 3 ∧ r' = { r with tier := v }) ∨
      (field = 8 ∧ r'.clinch.code = v ∧ r' = { r with clinch := r'.clinch }) ∨
      (field = 9 ∧ v ≤ 7 ∧ r' = { r with trip := v }) →
      let after : State := { s with table := s.table.set index.toNat (some r') }
      (claimed → (field ≠ 7 ∨ after.gateLaw = true) →
        exec (.amend 0 index field value) s = .next (after.replied 3 .ok [])) ∧
      (claimed → field = 7 → after.gateLaw = false →
        exec (.amend 0 index field value) s = .next (s.replied 3 .refusedState [])) ∧
      (¬ claimed → exec (.amend 0 index field value) s = .next (s.replied 3 .notHeld []))) ∧
    ((field = 1 ∧ (v = 0 ∨ 72 < v)) ∨ (field = 2 ∧ 1 < v) ∨ (field = 3 ∧ 60000 < v) ∨
        (field = 4 ∧ 45000 < v) ∨ (field = 5 ∧ 3 < v) ∨ (field = 6 ∧ (v < 50 ∨ 254 < v)) ∨
        (field = 7 ∧ 3 < v) ∨ (field = 8 ∧ 2 < v) ∨ (field = 9 ∧ 7 < v) ∨ 10 ≤ field.toNat →
      exec (.amend 0 index field value) s = .next (s.replied 3 .refusedRange []))

/-- RETIRE frees the slot and lowers the in-board count of each open board of which the record was a
placement; no other slot and no other count changes (R18, R29, R30). Outside START and STOPPED it
needs the hold HELD, and there a carried record is refused. -/
def Obligations.RetireFreesTheSlot : Prop :=
  ∀ (index : Half) (s : State) (r : Placement), Taking s → index.toNat < 384 →
    s.slot? index.toNat = some r →
    (s.machine.state ≠ .start → s.machine.state ≠ .stopped → r.hold ≠ .held →
      exec (.retire 0 index) s = .next (s.replied 4 .notHeld [])) ∧
    (s.machine.state = .start ∨ s.machine.state = .stopped → s.carried index.toNat = true →
      exec (.retire 0 index) s = .next (s.replied 4 .refusedState [])) ∧
    (((s.machine.state = .start ∨ s.machine.state = .stopped) ∧ s.carried index.toNat = false ∨
      (s.machine.state ≠ .start ∧ s.machine.state ≠ .stopped) ∧ r.hold = .held) →
    ∃ t : State, exec (.retire 0 index) s = .next t ∧
      t = { s with table := t.table, boards := t.boards, port := t.port, freeCount := t.freeCount } ∧
      t.slot? index.toNat = none ∧ (∀ m : Nat, m ≠ index.toNat → t.slot? m = s.slot? m) ∧
      (∀ p : Parity, t.board p =
        { s.board p with
          phase := (t.board p).phase
          inBoard :=
            if s.isOpen p = true ∧ (r.status.get p).state ≠ .notInBoard then
              (s.board p).inBoard - 1
            else (s.board p).inBoard }) ∧
      (∀ p : Parity, s.isOpen p = true → (r.status.get p).state ≠ .notInBoard →
        PhaseEvaluated s t p) ∧
      Answered s t 4 .ok [])

/-- HOLD on a FREE hold gives HELD, or HOLD_PENDING and the reply PENDING while a clip carries the
placement, and marks its unresolved slots of open boards unordered; on HELD and HOLD_PENDING it
changes nothing. RELEASE returns either to FREE, and refuses a FREE hold (R19, R20). -/
def Obligations.HoldAndReleaseClaimTheRecord : Prop :=
  ∀ (index : Half) (s : State) (r : Placement), Taking s → index.toNat < 384 →
    s.slot? index.toNat = some r →
    (r.hold = .free →
      exec (.hold 0 index) s =
        .next
          ((s.putSlot index.toNat
            (some
              { r with
                hold := if s.carried index.toNat = true then .holdPending else .held
                status :=
                  { even :=
                      if s.isOpen .even = true ∧
                          (r.status.even.state = .callable ∨ r.status.even.state = .called) then
                        { r.status.even with unordered := true }
                      else r.status.even
                    odd :=
                      if s.isOpen .odd = true ∧
                          (r.status.odd.state = .callable ∨ r.status.odd.state = .called) then
                        { r.status.odd with unordered := true }
                      else r.status.odd } })).replied
            5 (if s.carried index.toNat = true then .pending else .ok) []) ∧
      exec (.release 0 index) s = .next (s.replied 6 .refusedState [])) ∧
    (r.hold = .held → exec (.hold 0 index) s = .next (s.replied 5 .ok [])) ∧
    (r.hold = .holdPending → exec (.hold 0 index) s = .next (s.replied 5 .pending [])) ∧
    (r.hold ≠ .free →
      exec (.release 0 index) s =
        .next ((s.putSlot index.toNat (some { r with hold := .free })).replied 6 .ok []))

/-- SKIP resolves an uncarried CALLABLE placement of an open board as SKIPPED with reason HOST and
counts it (R21); RECALL returns a MISSED or INTERRUPTED placement of a CALLING or CALLED_OUT board
to CALLABLE with attempts 0, unordered where it is held, and counts it, unless the placement would
then have to precede one carried at 79 or 80; in a FREE or COMPLETE board, and in any other state,
RECALL is refused (R22). Each has the board's phase evaluated (R29, R31). A board parity above 1 is
REFUSED_RANGE (R206). -/
def Obligations.SkipAndRecallMoveThePlacement : Prop :=
  (∀ (index : Half) (parity : Byte) (s : State), Taking s → index.toNat < 384 →
     s.slot? index.toNat ≠ none → 1 < parity.toNat →
     exec (.skip 0 index parity) s = .next (s.replied 7 .refusedRange []) ∧
       exec (.recallSlot 0 index parity) s = .next (s.replied 8 .refusedRange [])) ∧
  (∀ (index : Half) (parity : Byte) (p : Parity) (s : State) (r : Placement), Taking s →
     index.toNat < 384 → s.slot? index.toNat = some r → parity.toNat = parityCode p →
     (s.isOpen p = true → s.carriedIn index.toNat p = false → (r.status.get p).state = .callable →
       ∃ t : State, exec (.skip 0 index parity) s = .next t ∧
         t =
           { s with table := t.table, boards := t.boards, port := t.port, freeCount := t.freeCount } ∧
         t.slot? index.toNat =
           some
             { r with
               status := r.status.put p
                 { r.status.get p with state := .skipped, skipReason := some .host } } ∧
         (∀ m : Nat, m ≠ index.toNat → t.slot? m = s.slot? m) ∧
         t.board p =
           { s.board p with
             phase := (t.board p).phase, skipped := min 65535 ((s.board p).skipped + 1) } ∧
         PhaseEvaluated s t p ∧ t.board (otherParity p) = s.board (otherParity p) ∧
         Answered s t 7 .ok []) ∧
     (s.isOpen p = false ∨ s.carriedIn index.toNat p = true ∨ (r.status.get p).state ≠ .callable →
       exec (.skip 0 index parity) s = .next (s.replied 7 .refusedState []))) ∧
  (∀ (index : Half) (parity : Byte) (p : Parity) (s : State) (r : Placement), Taking s →
     index.toNat < 384 → s.slot? index.toNat = some r → parity.toNat = parityCode p →
     ((s.board p).phase = .free ∨ (s.board p).phase = .complete ∨
         ((r.status.get p).state ≠ .missed ∧ (r.status.get p).state ≠ .interrupted) →
       exec (.recallSlot 0 index parity) s = .next (s.replied 8 .refusedState [])) ∧
     (((s.board p).phase = .calling ∨ (s.board p).phase = .calledOut) →
     ((r.status.get p).state = .missed ∨ (r.status.get p).state = .interrupted) →
     let after : State :=
       s.putSlot index.toNat
         (some
           { r with
             status := r.status.put p
               { r.status.get p with
                 state := .callable, attempts := 0
                 unordered := (r.status.get p).unordered || decide (r.hold ≠ .free) } })
     (after.precedesAtHead index.toNat p = false →
       ∃ t : State, exec (.recallSlot 0 index parity) s = .next t ∧
         t = { s with table := after.table, boards := t.boards, port := t.port
                      freeCount := t.freeCount } ∧
         t.board p =
           { s.board p with
             phase := (t.board p).phase, recalls := min 65535 ((s.board p).recalls + 1) } ∧
         PhaseEvaluated s t p ∧ t.board (otherParity p) = s.board (otherParity p) ∧
         Answered s t 8 .ok []) ∧
     (after.precedesAtHead index.toNat p = true →
       exec (.recallSlot 0 index parity) s = .next (s.replied 8 .refusedState []))))

/-! ## Boards and the exchange -/

/-- BOARD_OPEN, where the conditions of R26 hold, opens the next board: the record of the number's
parity starts anew, every admitted record becomes CALLABLE in it, unordered where it is claimed, the
counters rise, and the strike count returns to 0 (R27, R5); where one of the conditions fails
nothing happens (the model's choice, log 1). -/
def Obligations.BoardOpenStartsTheNextBoard : Prop :=
  ∀ (s : State) (p : Parity), Live s → p = parityOf s.nextNumber →
    (s.machine.state = .running → s.isOpen p = false →
      (s.isOpen (otherParity p) = false ∨ (s.board (otherParity p)).phase = .calledOut ∨
        (s.board (otherParity p)).phase = .complete) →
      (s.settings.runLength = 0 ∨ s.runCounter < s.settings.runLength) →
      ∃ t : State, exec .boardOpen s = .next t ∧
        t =
          { s with
            table := t.table
            boards := t.boards
            nextNumber := (s.nextNumber + 1) % 65536
            runCounter := min 65535 (s.runCounter + 1)
            drive := { s.drive with strikes := 0 } } ∧
        (∀ n : Nat, t.slot? n =
          (s.slot? n).map fun r =>
            { r with
              status := r.status.put p
                { state := .callable, attempts := 0, deferrals := 0
                  unordered := decide (r.hold ≠ .free), skipReason := none, clinchPeak := none } }) ∧
        t.board p =
          { number := s.nextNumber
            phase := if s.table.all Option.isNone = true then .calledOut else .calling
            tableState := .notLoaded, correction := none, inBoard := s.admittedCount, inserted := 0
            skipped := 0, outOfTravel := 0, missed := 0, interrupted := 0, recalls := 0
            deferrals := 0 } ∧
        t.board (otherParity p) = s.board (otherParity p)) ∧
    (s.machine.state ≠ .running ∨ s.isOpen p = true ∨
        (s.board (otherParity p)).phase = .calling ∨
        (s.settings.runLength ≠ 0 ∧ s.settings.runLength ≤ s.runCounter) →
      exec .boardOpen s = .next s)

/-- EXCHANGE_BEGIN, while the machine runs or drains, the leg is IDLE and no slot is ACTIVE, begins
the exchange of R33: the COMPLETE board on the table is unloaded, an empty table with CLAMPED true
is cleared, and with CLAMPED false an open board is loaded. The axes take the load-position targets
(R34). Where a condition of R33 fails, nothing happens (the model's choice, log 1). -/
def Obligations.ExchangeBeginStartsTheMove : Prop :=
  (∀ s : State, Live s → (s.machine.state = .running ∨ s.machine.state = .draining) →
    s.exchange.leg = .idle → (∀ p : Parity, (s.moveSlot p).state ≠ .active) →
    (∀ p : Parity, s.onTable p = true → (s.board p).phase = .complete →
      (∀ q : Parity, q ≠ p → s.onTable q = false) →
      ∃ t : State, exec .exchangeBegin s = .next t ∧
        t = { s with boards := t.boards, exchange := t.exchange, axes := t.axes } ∧
        t.exchange =
          { s.exchange with
            leg := .move, kind := .unload
            leaving := some { parity := p, number := (s.board p).number } } ∧
        t.board p = { s.board p with tableState := .unloading } ∧
        t.board (otherParity p) = s.board (otherParity p) ∧
        ∀ a : Axis, NewTarget s t a (s.axisSettings a).loadPosition) ∧
    ((∀ p : Parity, s.onTable p = false) →
      (s.inputs.levels.clamped = true ∨ ∃ p : Parity, s.isOpen p = true) →
      ∃ t : State, exec .exchangeBegin s = .next t ∧
        t = { s with exchange := t.exchange, axes := t.axes } ∧
        t.exchange =
          { s.exchange with
            leg := .move
            kind := if s.inputs.levels.clamped = true then .unload else .load
            leaving := none } ∧
        ∀ a : Axis, NewTarget s t a (s.axisSettings a).loadPosition)) ∧
  ∀ s : State, Live s →
    ((s.machine.state ≠ .running ∧ s.machine.state ≠ .draining) ∨ s.exchange.leg ≠ .idle ∨
      (∃ p : Parity, (s.moveSlot p).state = .active) ∨ ¬ ExchangeCalled s) →
    exec .exchangeBegin s = .next s

/-- TRANSFER_DONE in TRANSFER ends the leg: TRANSFER_REQ goes low and its timer stops, and the leaving
board's record becomes FREE with its history kept. With no open board NOT_LOADED left the exchange
ends; with BOARD_PRESENT true it begins CLAMPING with that board, and with BOARD_PRESENT false it waits
in PRESENT_WAIT; in PAUSING and PAUSED it waits with the leg due (R35, R36, R39). An opening taken
first opens the next board in the freed record, and that board is clamped. While TRANSFER_REQ is low
the edge is ignored (R38). The model's choices: which of the opening and the test comes first is an
operand (log 3), the leaving board stays named until the exchange ends (log 29), and an end of the
exchange that completes the end of DRAINING ends it at that event (log 35). -/
def Obligations.TransferDoneEndsTheTransfer : Prop :=
  ∀ (present openFirst : Bool) (s : State), Live s →
    (s.exchange.leg = .transfer → s.outputs.transferReq = true →
      ∃ t : State, exec (.transferDone present openFirst) s = .next t ∧
        t.outputs.transferReq = false ∧ t.exchange.transferTimer = none ∧
        t.machine.state = s.machine.state.settledIn t ∧
        t.stations = s.stations ∧ t.alarms = s.alarms ∧ t.head = s.head ∧
        t.chain = { s.chain with indexState := t.chain.indexState } ∧
        (openFirst = true ∨ (∀ l : Leaving, s.exchange.leaving = some l →
          (t.board l.parity).phase = .free ∧
            (t.board l.parity).number = (s.board l.parity).number ∧
            (t.board l.parity).inserted = (s.board l.parity).inserted ∧
            (t.board l.parity).correction = (s.board l.parity).correction)) ∧
        (openFirst = true ∨ present = true ∨ t.table = s.table ∧ t.stretch = s.stretch) ∧
        (openFirst = true ∨
          ((∀ p : Parity, (∀ l : Leaving, s.exchange.leaving = some l → l.parity ≠ p) →
            s.isOpen p = true → (s.board p).tableState ≠ .notLoaded) →
          t.exchange.leg = .idle ∧ t.exchange.leaving = none ∧ t.exchange.incoming = none ∧
            t.outputs.clamp = s.outputs.clamp)) ∧
        (∀ p : Parity, (∀ l : Leaving, s.exchange.leaving = some l → l.parity ≠ p) →
          s.isOpen p = true → (s.board p).tableState = .notLoaded →
          (present = false →
            t.exchange.leg = .presentWait ∧ t.exchange.waiting = s.pausing ∧
              t.outputs.clamp = s.outputs.clamp) ∧
          (present = true → s.pausing = true →
            t.exchange.leg = .clamping ∧ t.exchange.waiting = true ∧
              t.outputs.clamp = s.outputs.clamp) ∧
          (present = true → s.pausing = false → s.inputs.levels.clamped = false →
            openFirst = false →
            ((∃ l : Leaving, s.exchange.leaving = some l ∧ l.parity = otherParity p) ∨
              s.isOpen (otherParity p) = false ∨
              (s.board (otherParity p)).tableState ≠ .notLoaded ∨ s.isOlder p (otherParity p) = true) →
            t.exchange =
                { s.exchange with
                  leg := .clamping, waiting := false, incoming := some p, transferTimer := none
                  clampTimer := some s.settings.clampTimeout } ∧
              t.outputs.clamp = true)) ∧
        (∀ l : Leaving, openFirst = true → s.machine.state = .running →
          s.exchange.leaving = some l → l.parity = parityOf s.nextNumber →
          s.isOpen (otherParity l.parity) = false →
          (s.settings.runLength = 0 ∨ s.runCounter < s.settings.runLength) →
          t.nextNumber = (s.nextNumber + 1) % 65536 ∧ (t.board l.parity).number = s.nextNumber ∧
            t.isOpen l.parity = true ∧
            (∀ (n : Nat) (r : Placement), s.slot? n = some r →
              ∃ u : StatusSlot, t.statusOf n l.parity = some u ∧ u.state = .callable) ∧
            (present = true → s.inputs.levels.clamped = false →
              t.exchange =
                  { s.exchange with
                    leg := .clamping, waiting := false, incoming := some l.parity
                    transferTimer := none, clampTimer := some s.settings.clampTimeout } ∧
                t.outputs.clamp = true ∧ (t.board l.parity).tableState = .notLoaded))) ∧
    (s.machine.state ≠ .running →
      exec (.transferDone present openFirst) s = exec (.transferDone present false) s) ∧
    (s.outputs.transferReq = false → exec (.transferDone present openFirst) s = .next s)

/-- CLAMPED rising in CLAMPING puts the incoming board on the table: AWAITING_ALIGN, or ALIGNED with
correction 0 where align required is OFF, and ends the exchange. BOARD_PRESENT rising in
PRESENT_WAIT begins CLAMPING with the older open board NOT_LOADED, which ends at once where CLAMPED
is already true (R36; the other record stays where the table is empty, as it is in PRESENT_WAIT),
and while pausing leaves the exchange waiting with CLAMPING due (R39). CLAMPED falling with a board
AWAITING_ALIGN or ALIGNED, no exchange in flight but a CLAMPING leg that does not wait, raises
BOARD_TRANSFER with its number, the reaction taken before an end of DRAINING (the model's choice,
log 35). Elsewhere the edges change at most the level (R38). -/
def Obligations.ClampedLineLoadsAndWatchesTheBoard : Prop :=
  ((∀ (s : State) (p : Parity), Live s → s.exchange.leg = .clamping → s.exchange.waiting = false →
     s.exchange.incoming = some p →
     ∃ t : State, exec .clampedRise s = .next t ∧
       t.inputs = { s.inputs with levels := { s.inputs.levels with clamped := true } } ∧
       t.exchange =
         { s.exchange with leg := .idle, leaving := none, incoming := none, clampTimer := none } ∧
       (t.board p).tableState =
         (if s.settings.alignRequired = true then .awaitingAlign else .aligned) ∧
       (t.board p).correction =
         (if s.settings.alignRequired = true then (s.board p).correction
           else some { dx := 0, dy := 0, scale := 0 }) ∧
       (t.board p).number = (s.board p).number ∧
       t.machine.state = s.machine.state.settledIn t ∧ t.alarms = s.alarms ∧
       t.outputs = s.outputs ∧ (∀ a : Axis, t.axis a = (s.axis a).settledIn s t) ∧
       t.stations = s.stations ∧ t.head = s.head ∧
       t.chain = { s.chain with indexState := t.chain.indexState }) ∧
   (∀ s : State, Live s → s.exchange.leg = .presentWait → s.exchange.waiting = false →
     s.pausing = false → s.inputs.levels.clamped = false →
     exec .boardPresentRise s =
       .next
         { s with
           exchange :=
             { s.exchange with
               leg := .clamping, incoming := s.nextToLoad
               clampTimer := some s.settings.clampTimeout }
           outputs := { s.outputs with clamp := true } }) ∧
   (∀ s : State, Live s → s.exchange.leg = .presentWait → s.exchange.waiting = false →
     s.pausing = true →
     ∃ t : State, exec .boardPresentRise s = .next t ∧
       t =
         { s with
           exchange := { s.exchange with leg := .clamping, waiting := true }
           machine := { s.machine with state := t.machine.state } } ∧
       t.machine.state = s.machine.state.settledIn t) ∧
   (∀ s : State, Live s → s.exchange.leg = .presentWait → s.exchange.waiting = false →
     s.pausing = false → s.inputs.levels.clamped = true →
     ∃ t : State, exec .boardPresentRise s = .next t ∧ t.inputs = s.inputs ∧
       t.exchange =
         { s.exchange with leg := .idle, leaving := none, incoming := none, clampTimer := none } ∧
       t.outputs = { s.outputs with clamp := true } ∧
       (∀ p : Parity, s.nextToLoad = some p →
         (t.board p).tableState =
             (if s.settings.alignRequired = true then .awaitingAlign else .aligned) ∧
           (t.board p).correction =
             (if s.settings.alignRequired = true then (s.board p).correction
               else some { dx := 0, dy := 0, scale := 0 }) ∧
           (t.board p).number = (s.board p).number ∧
           ((∀ q : Parity, s.onTable q = false) →
             t.board (otherParity p) = s.board (otherParity p))) ∧
       t.machine.state = s.machine.state.settledIn t ∧ t.alarms = s.alarms ∧
       (∀ a : Axis, t.axis a = (s.axis a).settledIn s t) ∧ t.stations = s.stations ∧
       t.head = s.head ∧ t.chain = { s.chain with indexState := t.chain.indexState }) ∧
   (∀ s : State, Live s → s.exchange.leg ≠ .presentWait ∨ s.exchange.waiting = true →
     exec .boardPresentRise s = .next s) ∧
   ∀ s : State, Live s → s.exchange.leg ≠ .clamping ∨ s.exchange.waiting = true →
     exec .clampedRise s =
       .next { s with inputs := { s.inputs with levels := { s.inputs.levels with clamped := true } } }) ∧
  ((∀ (s : State) (p : Parity), Live s →
     s.exchange.leg = .idle ∨ (s.exchange.leg = .clamping ∧ s.exchange.waiting = false) →
     s.isOpen p = true →
     ((s.board p).tableState = .awaitingAlign ∨ (s.board p).tableState = .aligned) →
     (∀ q : Parity, q ≠ p → s.onTable q = false) →
     ∃ t : State, exec .clampedFall s = .next t ∧ t.inputs.levels.clamped = false ∧
       Raised s t .boardTransfer (some (.board (s.board p).number)) ∧
       t.machine.state =
         (MachineAfter (s.alarm .boardTransfer).reaction s.machine.state).settledIn t ∧
       (t.board p).tableState = (s.board p).tableState ∧
       (t.board p).correction = (s.board p).correction) ∧
   ∀ s : State, Live s →
     (s.exchange.leg ≠ .idle ∧ (s.exchange.leg ≠ .clamping ∨ s.exchange.waiting = true)) ∨
       (∀ p : Parity, s.isOpen p = false ∨
         ((s.board p).tableState ≠ .awaitingAlign ∧ (s.board p).tableState ≠ .aligned)) →
     exec .clampedFall s =
       .next
         { s with inputs := { s.inputs with levels := { s.inputs.levels with clamped := false } } })

/-- The expiry of the transfer or the clamp timer abandons the exchange: TRANSFER_REQ and CLAMP go
low, the leg is IDLE with no board named, the board records keep their table states, and
BOARD_TRANSFER is raised with the number of the leaving board if one was named, even where its record
has opened again since, otherwise with that of the older open board NOT_LOADED, or with no source
(R37). That the leaving board stays named until the exchange ends is the model's reading (log 29). The
model's choices: the reaction of the raising is taken before the end of DRAINING (log 35), and a timer
that does not run expires with no effect (log 7). -/
def Obligations.TimersAbandonTheExchange : Prop :=
  ∀ s : State, Live s →
    (∀ c : Instr,
      (c = .transferTimeout ∧ s.exchange.transferTimer.isSome = true) ∨
        (c = .clampTimeout ∧ s.exchange.clampTimer.isSome = true) →
      ∃ t : State, exec c s = .next t ∧ t.outputs.transferReq = false ∧ t.outputs.clamp = false ∧
        t.exchange.leg = .idle ∧ t.exchange.leaving = none ∧ t.exchange.incoming = none ∧
        t.exchange.transferTimer = none ∧ t.exchange.clampTimer = none ∧
        (∀ l : Leaving, s.exchange.leaving = some l →
          Raised s t .boardTransfer (some (.board l.number))) ∧
        (∀ p : Parity, s.exchange.leaving = none → s.isOpen p = true →
          (s.board p).tableState = .notLoaded →
          (s.isOlder p (otherParity p) = true ∨ s.isOpen (otherParity p) = false ∨
            (s.board (otherParity p)).tableState ≠ .notLoaded) →
          Raised s t .boardTransfer (some (.board (s.board p).number))) ∧
        (s.exchange.leaving = none →
          (∀ p : Parity, s.isOpen p = true → (s.board p).tableState ≠ .notLoaded) →
          Raised s t .boardTransfer none) ∧
        t.machine.state =
          (MachineAfter (s.alarm .boardTransfer).reaction s.machine.state).settledIn t ∧
        ∀ p : Parity, (t.board p).tableState = (s.board p).tableState) ∧
    (s.exchange.transferTimer = none → exec .transferTimeout s = .next s) ∧
    (s.exchange.clampTimer = none → exec .clampTimeout s = .next s)

/-- ALIGN of a board AWAITING_ALIGN with its operands in range stores the correction and makes the
board ALIGNED; a slot that awaits the board holds the computed targets or is VOID; other boards and
operands are refused (R41, R133, R142). A record kind other than a board's, and a board parity above 1,
are REFUSED_RANGE (R202, R206). -/
def Obligations.AlignGivesTheCorrection : Prop :=
  (∀ (kind : Byte) (index dx dy scale : Half) (s : State), Taking s → kind ≠ 1 ∨ 1 < index.toNat →
    exec (.align kind index dx dy scale) s = .next (s.replied 9 .refusedRange [])) ∧
  ∀ (index dx dy scale : Half) (p : Parity) (s : State), Taking s → index.toNat = parityCode p →
    (-5000 ≤ dx.toInt → dx.toInt ≤ 5000 → -5000 ≤ dy.toInt → dy.toInt ≤ 5000 →
      -2000 ≤ scale.toInt → scale.toInt ≤ 2000 → s.isOpen p = true →
      (s.board p).tableState = .awaitingAlign →
      ∃ t : State, exec (.align 1 index dx dy scale) s = .next t ∧
        t = { s with table := t.table, boards := t.boards, stretch := t.stretch, slots := t.slots
                     port := t.port, freeCount := t.freeCount } ∧
        (t.board p).tableState = .aligned ∧
        (t.board p).correction = some { dx := dx.toInt, dy := dy.toInt, scale := scale.toInt } ∧
        PhaseEvaluated s t p ∧
        (∀ (q : Parity) (pos : SlotPosition) (j : Job) (r : Placement),
          (s.moveSlot q).state = .awaitingBoard → (s.moveSlot q).position = some pos →
          (s.moveSlot q).job = some j → parityOf j.board = p → j.board = (s.board p).number →
          s.slot? j.placement = some r →
          (∀ g : Quad Nat, axisTargets s.settings r
              { dx := dx.toInt, dy := dy.toInt, scale := scale.toInt } = some g →
            t.moveSlot q =
              { state := .planned, position := some pos, kind := some .insert, job := some j
                targets := some g }) ∧
          (axisTargets s.settings r { dx := dx.toInt, dy := dy.toInt, scale := scale.toInt } = none →
            (t.moveSlot q).state = .void ∧ (t.moveSlot q).targets = none)) ∧
        Answered s t 9 .ok []) ∧
    ((dx.toInt < -5000 ∨ 5000 < dx.toInt ∨ dy.toInt < -5000 ∨ 5000 < dy.toInt ∨
        scale.toInt < -2000 ∨ 2000 < scale.toInt) →
      exec (.align 1 index dx dy scale) s = .next (s.replied 9 .refusedRange [])) ∧
    (-5000 ≤ dx.toInt → dx.toInt ≤ 5000 → -5000 ≤ dy.toInt → dy.toInt ≤ 5000 →
      -2000 ≤ scale.toInt → scale.toInt ≤ 2000 →
      s.isOpen p = false ∨ (s.board p).tableState ≠ .awaitingAlign →
      exec (.align 1 index dx dy scale) s = .next (s.replied 9 .refusedState []))

/-! ## Stations -/

/-- SPROCKET k rising during an advance with POCKET k high is a FED outcome (R52): the clip is
LOADED, remaining and committed fall by one, FED joins the window, and a READY station whose last
part went is EMPTY. With POCKET k low it is one more advance while the retry limit of the feed, the
index request and the machine state allow it (R53), otherwise a MISS outcome (R54, R55): the clip is
DROP_MISSED with an uncounted recall (R7), and a READY station becomes EMPTY at the third miss running,
SUSPECT at the miss threshold. STATION_LOW, STATION_EMPTY and STATION_SUSPECT are raised or ended (R46,
R65). Outside an advance the edge is ignored (R59). -/
def Obligations.SprocketEdgeEndsTheAdvance : Prop :=
  (∀ (k : Nat) (pocket : Bool) (s : State) (st : Station), Live s → ShapeHolds s → 1 ≤ k → k ≤ 72 →
     s.station? k = some st →
     (∀ w : FeedWork, pocket = true → st.feed = .advancing → st.work = some w →
       ∃ (t : State) (st' : Station), exec (.sprocketEdge k pocket) s = .next t ∧
         t.station? k = some st' ∧
         st' =
           { st with
             remaining := st.remaining - 1, committed := st.committed - 1, low := st'.low
             missWindow := (st.missWindow ++ [FeedOutcome.fed]).drop (st.missWindow.length + 1 - 16)
             consecutiveMisses := 0, feed := .idle, work := none, advanceTimer := none
             state := if st.state = .ready ∧ st.remaining - 1 = 0 then .empty else st.state } ∧
         (st'.low = true ↔ 0 < st.remaining - 1 ∧ st.remaining - 1 ≤ st.lowLevel) ∧
         CausesJudged s t k st st' ∧
         ((s.alarm .stationLow).reaction ≠ .halt → (s.alarm .stationEmpty).reaction ≠ .halt →
           t.clip k = { s.clip k with state := .loaded } ∧ t.table = s.table ∧
           ∀ j : Nat, 1 ≤ j → j ≤ 72 → j ≠ k → t.station? j = s.station? j)) ∧
     (st.feed ≠ .advancing → exec (.sprocketEdge k pocket) s = .next s)) ∧
  (∀ (k : Nat) (s : State) (st : Station) (w : FeedWork), Live s → ShapeHolds s → 1 ≤ k → k ≤ 72 →
     s.station? k = some st → st.feed = .advancing → st.work = some w →
     (st.retriesUsed < w.retryLimit ∧ s.chain.indexState ≠ .requested ∧
         (s.machine.state = .running ∨ s.machine.state = .draining) →
       exec (.sprocketEdge k false) s =
         .next
           (s.putStation k
             { st with
               retriesUsed := st.retriesUsed + 1, advanceTimer := some w.advanceTimeout })) ∧
     (w.retryLimit ≤ st.retriesUsed ∨ s.chain.indexState = .requested ∨
         (s.machine.state ≠ .running ∧ s.machine.state ≠ .draining) →
       ∃ (t : State) (st' : Station), exec (.sprocketEdge k false) s = .next t ∧
         t.station? k = some st' ∧
         (let window := (st.missWindow ++ [FeedOutcome.miss]).drop (st.missWindow.length + 1 - 16)
          let misses := min 3 (st.consecutiveMisses + 1)
          st' =
            { st with
              committed := st.committed - 1, feed := .idle, work := none, advanceTimer := none
              missWindow := window, consecutiveMisses := misses
              state :=
                if st.state ≠ .ready then st.state
                else if misses = 3 then .empty
                else if st.missThreshold ≤ window.countP (fun o => decide (o = .miss)) then .suspect
                else .ready }) ∧
         CausesJudged s t k st st' ∧
         (t.clip k).state = .dropMissed ∧ (t.clip k).call = (s.clip k).call ∧
         ∀ (c : Call) (u : StatusSlot), (s.clip k).call = some c → CalledFor s c u →
           t.statusOf c.placement c.parity = some { u with state := .callable } ∧
           ((s.alarm .stationEmpty).reaction ≠ .halt → (s.alarm .stationSuspect).reaction ≠ .halt →
             (t.board c.parity).recalls = min 65535 ((s.board c.parity).recalls + 1))))

/-- The expiry of a running advance timer ends the feed as a jam: committed falls by one, the feed
is IDLE, nothing enters the window, the clip is DROP_MISSED with an uncounted recall (R7), a READY
station is JAMMED, and STATION_JAM is raised with the station (R56), its reaction taken before the
end of DRAINING (the model's choice, log 35). A station line outside 1..72 does not exist (the
model's fault, log 23), and a timer that does not run expires with no effect (the model's choice,
log 7). -/
def Obligations.AdvanceTimeoutIsAJam : Prop :=
  (∀ (k : Nat) (s : State) (st : Station), Live s → ShapeHolds s → 1 ≤ k → k ≤ 72 →
    s.station? k = some st →
    (st.advanceTimer.isSome = true →
      ∃ (t : State) (st' : Station), exec (.advanceTimeout k) s = .next t ∧
        t.station? k = some st' ∧
        st' =
          { st with
            committed := st.committed - 1, feed := .idle, work := none, advanceTimer := none
            state := if st.state = .ready then .jammed else st.state } ∧
        CausesJudged s t k st st' ∧ Raised s t .stationJam (some (.station k)) ∧
        t.machine.state =
          (MachineAfter (s.alarm .stationJam).reaction s.machine.state).settledIn t ∧
        (t.clip k).state = .dropMissed ∧ (t.clip k).call = (s.clip k).call ∧
        ∀ (c : Call) (u : StatusSlot), (s.clip k).call = some c → CalledFor s c u →
          t.statusOf c.placement c.parity = some { u with state := .callable } ∧
          ((s.alarm .stationJam).reaction ≠ .halt →
            (t.board c.parity).recalls = min 65535 ((s.board c.parity).recalls + 1))) ∧
    (st.advanceTimer = none → exec (.advanceTimeout k) s = .next s)) ∧
  ∀ (k : Nat) (pocket : Bool) (s : State), k = 0 ∨ 72 < k →
    exec (.advanceTimeout k) s = .fault (.noSuchStationLine k) ∧
      exec (.sprocketEdge k pocket) s = .fault (.noSuchStationLine k)

/-- LOAD sets remaining, moves an EMPTY station with parts to READY and a READY one without parts to
EMPTY, and sets LOW anew; STATION_LOW and STATION_EMPTY are raised or ended (R65); below committed it
is REFUSED_RANGE (R61, R46), as are a station number outside 1..72 and a record kind other than a
station's (R202, R206). -/
def Obligations.LoadSetsRemaining : Prop :=
  (∀ (kind : Byte) (index remaining : Half) (s : State), Taking s → ShapeHolds s →
    kind ≠ 3 ∨ index.toNat = 0 ∨ 72 < index.toNat →
    exec (.load kind index remaining) s = .next (s.replied 10 .refusedRange [])) ∧
  ∀ (index remaining : Half) (s : State) (st : Station), Taking s → ShapeHolds s →
    s.station? index.toNat = some st →
    (st.committed ≤ remaining.toNat →
      ∃ (t : State) (st' : Station), exec (.load 3 index remaining) s = .next t ∧
        t.station? index.toNat = some st' ∧
        ((s.alarm .stationLow).reaction ≠ .halt → (s.alarm .stationEmpty).reaction ≠ .halt →
          st' =
            { st with
              remaining := remaining.toNat
              low := decide (0 < remaining.toNat) && decide (remaining.toNat ≤ st.lowLevel)
              consecutiveMisses :=
                if st.state = .empty ∧ 0 < remaining.toNat then 0 else st.consecutiveMisses
              state :=
                if st.state = .empty ∧ 0 < remaining.toNat then .ready
                else if st.state = .ready ∧ remaining.toNat = 0 then .empty else st.state } ∧
          t.table = s.table ∧ t.stretch = s.stretch) ∧
        CausesJudged s t index.toNat st st' ∧
        Answered s t 10 .ok []) ∧
    (remaining.toNat < st.committed →
      exec (.load 3 index remaining) s = .next (s.replied 10 .refusedRange []))

/-- STATION with a setting item, of those numbered 0 to 4, writes that setting and no other, within
its range; a change of low level also sets LOW anew (R46). The state item takes the station OFFLINE
from every state, and ONLINE from OFFLINE to READY or EMPTY by remaining (R62, R63); the lasting
kinds of the stations are raised or ended (R65). A station number outside 1..72, and a record kind
other than a station's, are REFUSED_RANGE (R202, R206); so is an item above 5, given to the row of
the settings (the model's choice, log 17). -/
def Obligations.StationCommandsSetTheStation : Prop :=
  (∀ (kind : Byte) (index value : Half) (item : Byte) (s : State), Taking s → ShapeHolds s →
    kind ≠ 3 ∨ index.toNat = 0 ∨ 72 < index.toNat →
    exec (.stationSetting kind index item value) s = .next (s.replied 11 .refusedRange []) ∧
      exec (.stationState kind index value) s = .next (s.replied 11 .refusedRange [])) ∧
  ∀ (index value : Half) (item : Byte) (s : State) (st : Station), Taking s → ShapeHolds s →
    s.station? index.toNat = some st →
    let v := value.toNat
    (∀ st' : Station,
      (item = 0 ∧ v ≤ 255 ∧ st' = { st with group := v }) ∨
      (item = 2 ∧ v ≤ 3 ∧ st' = { st with retryLimit := v }) ∨
      (item = 3 ∧ 10 ≤ v ∧ v ≤ 250 ∧ st' = { st with advanceTimeout := v }) ∨
      (item = 4 ∧ 1 ≤ v ∧ v ≤ 16 ∧ st' = { st with missThreshold := v }) →
      exec (.stationSetting 3 index item value) s =
        .next
          (State.replied { s with stations := s.stations.set (index.toNat - 1) st' } 11 .ok [])) ∧
    (item = 1 → ∃ (t : State) (st' : Station),
      exec (.stationSetting 3 index item value) s = .next t ∧
      t.station? index.toNat = some st' ∧
      ((s.alarm .stationLow).reaction ≠ .halt →
        st' =
          { st with
            lowLevel := v, low := decide (0 < st.remaining) && decide (st.remaining ≤ v) } ∧
        t.table = s.table ∧ t.stretch = s.stretch ∧
        ∀ j : Nat, 1 ≤ j → j ≤ 72 → j ≠ index.toNat → t.station? j = s.station? j) ∧
      st'.lowLevel = v ∧ (st'.low = true ↔ 0 < st.remaining ∧ st.remaining ≤ v) ∧
      st'.state = st.state ∧ st'.remaining = st.remaining ∧
      CausesJudged s t index.toNat st st' ∧ Answered s t 11 .ok []) ∧
    ((item = 0 ∧ 255 < v) ∨ (item = 2 ∧ 3 < v) ∨ (item = 3 ∧ (v < 10 ∨ 250 < v)) ∨
        (item = 4 ∧ (v = 0 ∨ 16 < v)) ∨ 5 ≤ item.toNat →
      exec (.stationSetting 3 index item value) s = .next (s.replied 11 .refusedRange [])) ∧
    (∃ t : State, exec (.stationState 3 index 0) s = .next t ∧
      t = { s with stations := s.stations.set (index.toNat - 1) { st with state := .offline }
                   alarms := t.alarms, port := t.port, freeCount := t.freeCount } ∧
      CausesJudged s t index.toNat st { st with state := .offline } ∧ Answered s t 11 .ok []) ∧
    (st.state = .offline → (s.alarm .stationEmpty).reaction ≠ .halt →
      ∃ (t : State) (st' : Station), exec (.stationState 3 index 1) s = .next t ∧
        t.station? index.toNat = some st' ∧
        st' = { st with state := if 0 < st.remaining then .ready else .empty } ∧
        CausesJudged s t index.toNat st st' ∧ t.table = s.table ∧ t.stretch = s.stretch ∧
        (∀ j : Nat, 1 ≤ j → j ≤ 72 → j ≠ index.toNat → t.station? j = s.station? j) ∧
        Answered s t 11 .ok []) ∧
    (st.state = .ready → exec (.stationState 3 index 1) s = .next (s.replied 11 .ok [])) ∧
    (st.state ≠ .offline → st.state ≠ .ready →
      exec (.stationState 3 index 1) s = .next (s.replied 11 .refusedState [])) ∧
    (1 < v → exec (.stationState 3 index value) s = .next (s.replied 11 .refusedRange []))

/-- CLEAR of a JAMMED or SUSPECT station empties its miss window and makes it READY or EMPTY by
remaining, STATION_EMPTY raised and STATION_SUSPECT ended as the stations give (R65); other states
are refused. CLEAR of a clip-condition entry makes it OK with fail count 0, and an index above 199
is refused (R64, R107). CLEAR of a station number outside 1..72 is REFUSED_RANGE (R202), as is CLEAR
of a record kind that no CLEAR takes, which is given to the row of the stations (the model's choice,
log 17). -/
def Obligations.ClearRestoresStationsAndClips : Prop :=
  (∀ (kind : Byte) (index : Half) (s : State), Taking s → ShapeHolds s →
    kind ≠ 3 ∨ index.toNat = 0 ∨ 72 < index.toNat →
    exec (.clearStation kind index) s = .next (s.replied 12 .refusedRange [])) ∧
  (∀ (index : Half) (s : State) (st : Station), Taking s → ShapeHolds s →
    s.station? index.toNat = some st →
    (st.state = .jammed ∨ st.state = .suspect → (s.alarm .stationEmpty).reaction ≠ .halt →
      ∃ (t : State) (st' : Station), exec (.clearStation 3 index) s = .next t ∧
        t.station? index.toNat = some st' ∧
        st' =
          { st with
            missWindow := [], consecutiveMisses := 0
            state := if 0 < st.remaining then .ready else .empty } ∧
        CausesJudged s t index.toNat st st' ∧ Answered s t 12 .ok []) ∧
    (st.state ≠ .jammed → st.state ≠ .suspect →
      exec (.clearStation 3 index) s = .next (s.replied 12 .refusedState []))) ∧
  ∀ (index : Half) (s : State), Taking s →
    (index.toNat < 200 →
      exec (.clearClipCondition index) s =
        .next
          (State.replied
            { s with conditions := s.conditions.set index.toNat { state := .ok, failCount := 0 } }
            12 .ok [])) ∧
    (200 ≤ index.toNat →
      exec (.clearClipCondition index) s = .next (s.replied 12 .refusedRange []))

/-! ## Chain, call scan, verify, gate and planner -/

/-- INDEX_BEGIN with a request outstanding, the machine RUNNING or DRAINING and no clip waiting
beneath its serving station begins the index: INDEXING, mark seen NO, the timer started, REJECT_GATE
low (R93, R94); otherwise nothing happens (the model's choice, log 1). The timer's expiry ends the
index unshifted, with the records the HALT does not mark standing where they stood, and raises
CHAIN_JAM, whose reaction is fixed at HALT (R191; StepKeepsAlarmRecords), with the chain counter
(R96), the HALT taken before the end of DRAINING (the model's choice, log 35); HOME_MARK sets mark seen
while INDEXING and is ignored otherwise (R98). -/
def Obligations.IndexBeginsAndTimesOut : Prop :=
  (∀ s : State, Live s →
     (s.chain.indexState = .requested → (s.machine.state = .running ∨ s.machine.state = .draining) →
       (∀ (k : Nat) (c : Call), 1 ≤ k → k ≤ 72 → (s.clip k).state = .assigned →
         (s.clip k).call = some c → c.station ≠ k) →
       exec .indexBegin s =
         .next
           { s with
             chain :=
               { s.chain with
                 indexState := .indexing, markSeen := false
                 indexTimer := some s.settings.indexTimeout }
             outputs := { s.outputs with rejectGate := false } }) ∧
     (s.chain.indexState ≠ .requested ∨
         (s.machine.state ≠ .running ∧ s.machine.state ≠ .draining) ∨
         (∃ (k : Nat) (c : Call), 1 ≤ k ∧ k ≤ 72 ∧ (s.clip k).state = .assigned ∧
           (s.clip k).call = some c ∧ c.station = k) →
       exec .indexBegin s = .next s)) ∧
  (∀ s : State, Live s →
     (s.chain.indexState = .indexing → s.chain.indexTimer.isSome = true →
       (s.alarm .chainJam).reaction = .halt →
       ∃ t : State, exec .indexTimeout s = .next t ∧ t.chain.indexState = .idle ∧
         t.chain.markSeen = false ∧ t.chain.counter = s.chain.counter ∧
         t.chain.indexTimer = none ∧
         Raised s t .chainJam (some (.counter s.chain.counter)) ∧
         t.machine.state = MachineAfter (s.alarm .chainJam).reaction s.machine.state ∧
         t.stretch.length = s.stretch.length ∧
         (∀ q : Nat, q = 0 ∨ (73 ≤ q ∧ q ≤ 79) → t.clip q = s.clip q) ∧
         (∀ (k : Nat) (st : Station), 1 ≤ k → k ≤ 72 → s.station? k = some st →
           (st.feed = .idle → t.clip k = s.clip k) ∧ (t.clip k).call = (s.clip k).call ∧
             ((t.clip k).state = (s.clip k).state ∨ (t.clip k).state = .dropMissed)) ∧
         (s.head.state ≠ .form → s.head.state ≠ .drive → s.head.state ≠ .clinch →
           t.clip 80 = s.clip 80)) ∧
     (s.chain.indexState = .indexing →
       exec .homeMarkEdge s = .next { s with chain := { s.chain with markSeen := true } }) ∧
     (s.chain.indexState ≠ .indexing → exec .homeMarkEdge s = .next s))

/-- INDEX_DONE while INDEXING shifts the stretch: every record moves up one position with what it
holds (R70), and the blocks change there no more than the state and the judgment at 76, the state at 78
and the dump mark at 79; the record that enters is unjudged; outside INDEXING the edge is ignored (R95).
A station whose clip has come beneath it takes the feed on in RUNNING and DRAINING, keeps it DUE
otherwise, and where it is not READY drops the clip with an uncounted recall (R49, R7). The reactions of
the three alarms it can raise are not HALT. The model's choices: the feed is taken on although an alarm
of the same completion has a PAUSE reaction (log 5), a DUE feed holds no working values (log 27), and
outside PAUSING and PAUSED too a machine that does not work keeps the feed DUE (log 15). -/
def Obligations.IndexCompletionShiftsTheStretch : Prop :=
  (∀ (present leads : Bool) (order : List Reactor) (s : State), Live s →
    (s.chain.indexState = .indexing → ShapeHolds s → (s.alarm .starve).reaction ≠ .halt →
      (s.alarm .chainSync).reaction ≠ .halt → (s.alarm .placementMissed).reaction ≠ .halt →
      ∃ t : State, exec (.indexCompletion present leads order) s = .next t ∧
        t.stretch.length = 81 ∧ t.chain.indexState ≠ .indexing ∧ t.chain.indexTimer = none ∧
        (t.clip 0).verify = none ∧ (t.clip 0).dump = false ∧
        (∀ q : Nat, q < 80 →
          ((s.clip q).state = .assigned → q < 72 →
            ∀ c : Call, (s.clip q).call = some c → c.station ≠ q + 1) →
          (t.clip (q + 1)).call = (s.clip q).call ∧
            (q ≠ 75 → q ≠ 77 → (t.clip (q + 1)).state = (s.clip q).state) ∧
            (q ≠ 75 → (t.clip (q + 1)).verify = (s.clip q).verify) ∧
            (q ≠ 78 → (t.clip (q + 1)).dump = (s.clip q).dump)) ∧
        ∀ (q : Nat) (c : Call) (st : Station), q < 72 → (s.clip q).state = .assigned →
          (s.clip q).call = some c → c.station = q + 1 → s.station? (q + 1) = some st →
          (t.clip (q + 1)).call = some c ∧ ∃ st' : Station, t.station? (q + 1) = some st' ∧
            (st.state ≠ .ready →
              st' =
                { st with
                  committed := st.committed - 1, feed := .idle, work := none
                  advanceTimer := none } ∧
              (t.clip (q + 1)).state = .dropMissed) ∧
            (st.state = .ready → (s.machine.state = .running ∨ s.machine.state = .draining) →
              st' =
                { st with
                  committed := st'.committed, feed := .advancing, retriesUsed := 0
                  work := some { retryLimit := st.retryLimit, advanceTimeout := st.advanceTimeout }
                  advanceTimer := some st.advanceTimeout } ∧
              (t.clip (q + 1)).state = .assigned) ∧
            (st.state = .ready → s.machine.state ≠ .running → s.machine.state ≠ .draining →
              st' = { st with feed := .due } ∧ (t.clip (q + 1)).state = .assigned)) ∧
    (s.chain.indexState ≠ .indexing →
      exec (.indexCompletion present leads order) s = .next s)) ∧
  ∀ (present leads : Bool) (rest : List Reactor) (s : State) (k : Nat) (st : Station) (c : Call)
    (u : StatusSlot), Live s → ShapeHolds s → s.chain.indexState = .indexing → 1 ≤ k → k ≤ 72 →
    s.station? k = some st → st.state ≠ .ready → (s.clip (k - 1)).state = .assigned →
    (s.clip (k - 1)).call = some c → c.station = k → CalledFor s c u →
    ∃ t : State, exec (.indexCompletion present leads (.station k :: rest)) s = .next t ∧
      min 65535 ((s.board c.parity).recalls + 1) ≤ (t.board c.parity).recalls ∧
      (s.machine.state = .pausing →
        t.statusOf c.placement c.parity = some { u with state := .callable })

/-- At a completion the counter rises modulo 200 and the home mark is judged by the sync state:
UNLOCKED (R99), LOCKING (R100) and LOCKED with its tolerance, inserted marks and loss of lock (R101,
R102). Reaching LOCKED sets the runs and w to 0 and ends the CHAIN_SYNC condition, and every record
then holds the id of R103, or none. -/
def Obligations.HomeMarkIsJudged : Prop :=
  ∀ (present leads : Bool) (order : List Reactor) (s : State), Live s →
    s.chain.indexState = .indexing →
    ∃ t : State, exec (.indexCompletion present leads order) s = .next t ∧
      let c := (s.chain.counter + 1) % 200
      let nb := s.settings.backwardProtection
      let nf := s.settings.forwardProtection
      let rose := min 7 (s.chain.candidateRun + 1)
      let missed := min 7 (s.chain.missRun + 1)
      let w := s.chain.tolerance
      (s.chain.syncState = .unlocked → s.chain.markSeen = false →
        t.chain.syncState = .unlocked ∧ t.chain.counter = c ∧
          t.chain.candidateRun = s.chain.candidateRun) ∧
      (s.chain.syncState = .unlocked → s.chain.markSeen = true →
        t.chain.counter = 0 ∧ t.chain.syncState = (if nb ≤ 1 then .locked else .locking) ∧
          t.chain.candidateRun = (if nb ≤ 1 then 0 else 1)) ∧
      (s.chain.syncState = .locking → s.chain.markSeen = true → c = 0 →
        t.chain.counter = 0 ∧ t.chain.syncState = (if nb ≤ rose then .locked else .locking) ∧
          t.chain.candidateRun = (if nb ≤ rose then 0 else rose)) ∧
      (s.chain.syncState = .locking → s.chain.markSeen = true → c ≠ 0 →
        t.chain.counter = 0 ∧ t.chain.syncState = .locking ∧ t.chain.candidateRun = 1) ∧
      (s.chain.syncState = .locking → s.chain.markSeen = false →
        t.chain.counter = c ∧ t.chain.syncState = (if c = 0 then .unlocked else .locking) ∧
          t.chain.candidateRun = (if c = 0 then 0 else s.chain.candidateRun)) ∧
      (s.chain.syncState = .locked → s.chain.markSeen = false → c = 0 →
        t.chain.counter = 0 ∧ t.chain.syncState = (if nf ≤ missed then .unlocked else .locked) ∧
          t.chain.missRun = (if nf ≤ missed then 0 else missed) ∧
          t.chain.tolerance = (if nf ≤ missed then 0 else min 3 (w + 1)) ∧
          (nf ≤ missed → (t.alarm .chainSync).condition = true)) ∧
      (s.chain.syncState = .locked → s.chain.markSeen = false → c ≠ 0 →
        t.chain.counter = c ∧ t.chain.syncState = .locked ∧ t.chain.missRun = s.chain.missRun ∧
          t.chain.tolerance = w) ∧
      (s.chain.syncState = .locked → s.chain.markSeen = true →
        t.chain.syncState = .locked ∧
        (if c = 0 ∨ (1 ≤ c ∧ c ≤ w) ∨ 200 - w ≤ c then
          t.chain.counter = 0 ∧ t.chain.missRun = 0 ∧ t.chain.tolerance = 0
        else
          t.chain.counter = c ∧ t.chain.missRun = s.chain.missRun ∧ t.chain.tolerance = w)) ∧
      (s.chain.syncState ≠ .locked → t.chain.syncState = .locked →
        t.chain.missRun = 0 ∧ t.chain.tolerance = 0 ∧ t.chain.candidateRun = 0 ∧
          (t.alarm .chainSync).condition = false) ∧
      (ChainHolds s → ∀ (q : Nat) (e : Clip), t.stretch[q]? = some e →
        e.clipId = t.chain.idAt q)

/-- The call scan, acting first at a completion in RUNNING or DRAINING, assigns the entering clip, unless
its entry is BAD while LOCKED, to the eligible pair of least calling key and its serving station (R78
to R81): the placement becomes CALLED (R6), and the station's committed rises by one (R48). Where a pair
is starved and none is eligible, it leaves the clip EMPTY and raises STARVE with the named station of
the starved pair of least calling key (R83). With a BAD entry while LOCKED, and in PAUSING, it makes no
choice (R77). That it assigns, or starves, although an alarm of the same completion has a PAUSE or HALT
reaction is the model's reading (log 5). -/
def Obligations.CallScanAssignsOrStarves : Prop :=
  (∀ (present leads : Bool) (rest : List Reactor) (s : State) (n k : Nat) (p : Parity)
     (r : Placement) (st : Station), Live s → ShapeHolds s → s.chain.indexState = .indexing →
     (s.machine.state = .running ∨ s.machine.state = .draining) →
     (∀ id : Nat, s.shift.chain.syncState = .locked → (s.shift.clip 0).clipId = some id →
       (s.condition id).state ≠ .bad) →
     s.shift.mayBeCalled n p = true → s.slot? n = some r →
     s.shift.servingStation [] r = some k → s.station? k = some st →
     (∀ (m : Nat) (q : Parity) (u : Placement), s.shift.mayBeCalled m q = true →
       s.slot? m = some u → (s.shift.servingStation [] u).isSome = true →
       (m = n ∧ q = p) ∨ CalledBefore s n p r m q u) →
     ∃ t : State, exec (.indexCompletion present leads (.scan :: rest)) s = .next t ∧
       (t.clip 0).state = .assigned ∧
       (t.clip 0).call = some { board := (s.board p).number, placement := n, station := k } ∧
       ((s.alarm .starve).reaction ≠ .halt → (s.alarm .chainSync).reaction ≠ .halt →
         (s.alarm .placementMissed).reaction ≠ .halt →
         (∃ st' : Station, t.station? k = some st' ∧ st'.committed = st.committed + 1) ∧
         ((∀ (q : Nat) (c : Call), q < 80 → (s.clip q).call = some c → c.placement = n →
             c.parity = p →
             (s.clip q).state ≠ .assigned ∧ (s.clip q).state ≠ .loaded ∧
               (s.clip q).state ≠ .verified) →
           t.statusOf n p = some { r.status.get p with state := .called }))) ∧
  (∀ (present leads : Bool) (rest : List Reactor) (s : State), Live s → ShapeHolds s →
     s.chain.indexState = .indexing →
     ((s.machine.state = .running ∨ s.machine.state = .draining) →
       (∀ id : Nat, s.shift.chain.syncState = .locked → (s.shift.clip 0).clipId = some id →
         (s.condition id).state ≠ .bad) →
       (∀ (m : Nat) (q : Parity) (u : Placement), s.shift.mayBeCalled m q = true →
         s.slot? m = some u → s.shift.servingStation [] u = none) →
       (∃ (m : Nat) (q : Parity), s.shift.mayBeCalled m q = true) →
       ∃ (t : State) (m : Nat) (q : Parity) (u : Placement),
         exec (.indexCompletion present leads (.scan :: rest)) s = .next t ∧
         (t.clip 0).state = .empty ∧ s.shift.mayBeCalled m q = true ∧ s.slot? m = some u ∧
         Raised s t .starve (some (.station u.station)) ∧
         ∀ (n : Nat) (p : Parity) (r : Placement), s.shift.mayBeCalled n p = true →
           s.slot? n = some r →
           (∀ (m' : Nat) (q' : Parity) (u' : Placement), s.shift.mayBeCalled m' q' = true →
             s.slot? m' = some u' → (m' = n ∧ q' = p) ∨ CalledBefore s n p r m' q' u') →
           m = n ∧ q = p) ∧
     (s.machine.state = .pausing ∨
         (∃ id : Nat, s.shift.chain.syncState = .locked ∧ (s.shift.clip 0).clipId = some id ∧
           (s.condition id).state = .bad) →
       ∃ t : State, exec (.indexCompletion present leads (.scan :: rest)) s = .next t ∧
         (t.clip 0).state = .empty))

/-- Verify, acting first at a completion, judges the record that has come to 76: a LOADED one
VERIFIED GOOD, or BAD with LEAD_FAULT or EMPTY and one attempt more; one that carries nothing STRAY
or PASSED_EMPTY (R109 to R111, R7), and it reports a LOADED clip's judgment by its id (R106). -/
def Obligations.VerifyJudgesTheRecord : Prop :=
  ∀ (present leads : Bool) (rest : List Reactor) (s : State), Live s → ShapeHolds s →
    s.chain.indexState = .indexing →
    ∃ t : State, exec (.indexCompletion present leads (.verify :: rest)) s = .next t ∧
      ((s.clip 75).state = .loaded → present = true → leads = true →
        (t.clip 76).state = .verified ∧ (t.clip 76).verify = some .good ∧
          ∀ id : Nat, id < 200 → (s.shift.clip 76).clipId = some id →
            t.condition id = { state := .ok, failCount := 0 }) ∧
      ((s.clip 75).state = .loaded → present = false ∨ leads = false →
        (t.clip 76).state = .bad ∧
        (t.clip 76).verify = some (if present = true then .leadFault else .empty) ∧
        (∀ id : Nat, id < 200 → (s.shift.clip 76).clipId = some id →
          (t.condition id).failCount = min 7 ((s.condition id).failCount + 1) ∧
          (t.condition id).state =
            (if s.settings.badThreshold ≤ min 7 ((s.condition id).failCount + 1) then .bad
              else .watch)) ∧
        ∀ (c : Call) (u : StatusSlot), (s.clip 75).call = some c → s.isOpen c.parity = true →
          s.statusOf c.placement c.parity = some u → u.state = .called →
          ∃ u' : StatusSlot, t.statusOf c.placement c.parity = some u' ∧
            u'.attempts = u.attempts + 1 ∧
            (s.settings.recallLimit < u.attempts + 1 →
              u'.state = .missed ∧ (t.alarm .placementMissed).state ≠ .clear)) ∧
      ((s.clip 75).state = .empty ∨ (s.clip 75).state = .unknown ∨
          (s.clip 75).state = .dropMissed →
        (t.clip 76).state = (if present = true then .stray else .passedEmpty) ∧
          (t.clip 76).verify = some (if present = true then .stray else .empty))

/-- The reject gate, acting first at a completion, ejects a BAD or STRAY record that has come to 78,
passes a PASSED_EMPTY or UNKNOWN one, and a VERIFIED one all of whose predecessors are carried at 79 or
80, with REJECT_GATE unchanged, and defers any other VERIFIED one (R116 to R120): the deferral's
placement is CALLABLE again with one deferral more, and its board counts a recall and a deferral (R7).
Every record keeps the judgment and the call it holds (R117, R119). -/
def Obligations.RejectGateDecides : Prop :=
  ∀ (present leads : Bool) (rest : List Reactor) (s : State), Live s → ShapeHolds s →
    s.chain.indexState = .indexing →
    ∃ t : State, exec (.indexCompletion present leads (.gate :: rest)) s = .next t ∧
      ((s.clip 77).state = .bad ∨ (s.clip 77).state = .stray →
        (t.clip 78).state = .rejected ∧ t.outputs.rejectGate = true) ∧
      ((s.clip 77).state = .passedEmpty ∨ (s.clip 77).state = .unknown →
        (t.clip 78).state = (s.clip 77).state ∧ t.outputs.rejectGate = s.outputs.rejectGate) ∧
      ((t.clip 78).verify = (s.clip 77).verify ∧ (t.clip 78).call = (s.clip 77).call ∧
        (t.clip 78).dump = (s.clip 77).dump) ∧
      (∀ c : Call, (s.clip 77).state = .verified → (s.clip 77).call = some c →
        (∀ (m : Nat) (b : Parity), s.shift.mustPrecede m b c.placement c.parity = true →
          s.shift.carriedAtHead m b = true) →
        (t.clip 78).state = .verified ∧ t.outputs.rejectGate = s.outputs.rejectGate) ∧
      (∀ (c : Call) (m : Nat) (b : Parity), (s.clip 77).state = .verified →
        (s.clip 77).call = some c → s.shift.mustPrecede m b c.placement c.parity = true →
        s.shift.carriedAtHead m b = false →
        (t.clip 78).state = .deferred ∧ t.outputs.rejectGate = true ∧
        ∀ u : StatusSlot, CalledFor s c u →
          (∃ u' : StatusSlot, t.statusOf c.placement c.parity = some u' ∧
            u'.deferrals = min 15 (u.deferrals + 1)) ∧
          (s.machine.state = .pausing →
            t.statusOf c.placement c.parity =
              some { u with state := .callable, deferrals := min 15 (u.deferrals + 1) }) ∧
          (t.board c.parity).deferrals = min 65535 ((s.board c.parity).deferrals + 1) ∧
          min 65535 ((s.board c.parity).recalls + 1) ≤ (t.board c.parity).recalls)

/-- The move planner, acting first at a completion, takes the slot the alternation field names, or
the other: an UNKNOWN record at 79 takes a dump plan, a VERIFIED one of an ALIGNED board the
computed targets or VOID, and one of a board not yet ALIGNED waits (R140 to R143). Out of travel the
clip is marked for dump, and its placement is SKIPPED with that reason and counted (R132, R11). -/
def Obligations.PlannerTakesASlot : Prop :=
  ∀ (present leads : Bool) (rest : List Reactor) (s : State) (p : Parity), Live s → ShapeHolds s →
    s.chain.indexState = .indexing → (s.alarm .starve).reaction ≠ .halt →
    (s.alarm .chainSync).reaction ≠ .halt → (s.alarm .placementMissed).reaction ≠ .halt →
    (p = s.alternation ∨ (s.moveSlot s.alternation).state ≠ .free) →
    (p ≠ s.alternation ∨ (s.moveSlot p).state = .free) →
    ∃ t : State, exec (.indexCompletion present leads (.planner :: rest)) s = .next t ∧
      ((s.clip 78).state = .unknown →
        t.alternation = otherParity p ∧
        t.moveSlot p =
          { state := .planned, position := some .p79, kind := some .dump, job := none
            targets := some s.dumpTargets }) ∧
      (∀ c : Call, (s.clip 78).state = .verified → (s.clip 78).dump = false →
        (s.clip 78).call = some c →
        t.alternation = otherParity p ∧
        (s.isAligned c.board = false → t.moveSlot p = MoveSlot.without .awaitingBoard .p79 c.job) ∧
        (∀ g : Quad Nat, s.isAligned c.board = true → s.computed c.job = some g →
          t.moveSlot p = MoveSlot.planned .p79 c.job g) ∧
        (s.isAligned c.board = true → s.computed c.job = none →
          t.moveSlot p = MoveSlot.without .void .p79 c.job ∧ (t.clip 79).dump = true ∧
          ∀ u : StatusSlot, CalledFor s c u →
            t.statusOf c.placement c.parity =
              some { u with state := .skipped, skipReason := some .outOfTravel } ∧
            (t.board c.parity).skipped = min 65535 ((s.board c.parity).skipped + 1) ∧
            (t.board c.parity).outOfTravel = min 65535 ((s.board c.parity).outOfTravel + 1))) ∧
      ((s.clip 78).state = .passedEmpty ∨ (s.clip 78).state = .rejected ∨
          (s.clip 78).state = .deferred →
        t.alternation = s.alternation)

/-! ## Move slots and axes -/

/-- SLOT_ACTIVATION, where the conditions of R145 hold for a slot at 80, makes it ACTIVE and gives
the axes its targets, a VOID slot becoming a DUMP move with the dump-position settings (R147, R151);
where the machine neither runs nor drains, an exchange is in flight, or no slot at 80 is PLANNED or
VOID, nothing happens (the model's choice, log 1). -/
def Obligations.SlotActivationGivesTargets : Prop :=
  (∀ (s : State) (p : Parity), Live s →
    (s.machine.state = .running ∨ s.machine.state = .draining) → s.exchange.leg = .idle →
    (s.moveSlot p).position = some .p80 → (s.moveSlot (otherParity p)).state ≠ .active →
    (s.moveSlot (otherParity p)).position ≠ some .p80 →
    (∀ g : Quad Nat, (s.moveSlot p).state = .planned → (s.moveSlot p).targets = some g →
      ∃ t : State, exec .slotActivation s = .next t ∧
        t = { s with slots := t.slots, axes := t.axes
                     chain := { s.chain with indexState := t.chain.indexState } } ∧
        t.moveSlot p = { s.moveSlot p with state := .active } ∧
        t.moveSlot (otherParity p) = s.moveSlot (otherParity p) ∧
        ∀ a : Axis, NewTarget s t a (g.get a)) ∧
    ((s.moveSlot p).state = .void →
      ∃ t : State, exec .slotActivation s = .next t ∧
        t = { s with slots := t.slots, axes := t.axes
                     chain := { s.chain with indexState := t.chain.indexState } } ∧
        (∃ g : Quad Nat, (∀ a : Axis, g.get a = (s.axisSettings a).dumpPosition) ∧
          t.moveSlot p =
            { s.moveSlot p with state := .active, kind := some .dump, targets := some g }) ∧
        t.moveSlot (otherParity p) = s.moveSlot (otherParity p) ∧
        ∀ a : Axis, NewTarget s t a (s.axisSettings a).dumpPosition)) ∧
  ∀ s : State, Live s →
    ((s.machine.state ≠ .running ∧ s.machine.state ≠ .draining) ∨ s.exchange.leg ≠ .idle ∨
      (∀ p : Parity, (s.moveSlot p).position = some .p80 →
        (s.moveSlot p).state ≠ .planned ∧ (s.moveSlot p).state ≠ .void)) →
    exec .slotActivation s = .next s

/-- A position sample is stored and judged by the state of its axis (R152, R153): IDLE keeps it
alone, SLEW turns to SETTLE within the settle window, SETTLE counts its run up to LOCKED, and LOCKED
counts the samples outside the lock window, here below the unlock count. The other axes do not
change, and the axis line shows COARSE in SLEW and FINE otherwise. The end of an axis move may end
PAUSING, or DRAINING, which leaves every axis IDLE (R185, R187), although a cycle or another event could
begin there (the model's choice, log 35). -/
def Obligations.PositionSampleIsJudged : Prop :=
  ∀ (a : Axis) (count : Sample) (present : Bool) (s : State), Live s →
    let r := s.axis a
    let g := s.axisSettings a
    let v := count.toNat
    let e := distance v r.target
    (r.state = .locked → g.lockWindow < e → min 15 (r.outRun + 1) < g.unlockCount) →
    ∃ t : State, exec (.positionSample a count present) s = .next t ∧
      (∀ b : Axis, b ≠ a → t.axis b = (s.axis b).settledIn s t) ∧ t.alarms = s.alarms ∧
      t.machine.state = s.machine.state.settledIn t ∧
      (t.coarseLine a = true ↔ (t.axis a).state = .slew) ∧
      (r.state = .idle → t.axis a = { r with lastPosition := some v }.settledIn s t) ∧
      (r.state = .slew →
        t.axis a =
          AxisRecord.settledIn
            (if e ≤ g.settleWindow then
              { r with lastPosition := some v, state := .settle, inRun := 0 }
            else { r with lastPosition := some v }) s t) ∧
      (r.state = .settle →
        t.axis a =
          AxisRecord.settledIn
            (if e ≤ g.lockWindow then
              (if g.lockCount ≤ min 15 (r.inRun + 1) then
                { r with
                  lastPosition := some v, inRun := min 15 (r.inRun + 1), state := .locked
                  lockTimer := none }
              else { r with lastPosition := some v, inRun := min 15 (r.inRun + 1) })
            else if e ≤ g.settleWindow then { r with lastPosition := some v, inRun := 0 }
            else { r with lastPosition := some v, inRun := 0, state := .slew }) s t) ∧
      (r.state = .locked →
        t.axis a =
          AxisRecord.settledIn
            (if e ≤ g.lockWindow then { r with lastPosition := some v, outRun := 0 }
              else { r with lastPosition := some v, outRun := min 15 (r.outRun + 1) }) s t)

/-- A LOCKED axis whose samples outside the lock window reach the unlock count loses lock and starts
its lock timer; in DRIVE, CLINCH or RETRACT that raises AXIS_FOLLOW with the axis (R153). The expiry
of a running lock timer raises AXIS_FOLLOW, and leaves the axis its state and runs unless the
reaction is HALT (R154). The end of an axis move may end PAUSING or DRAINING (R185, R187). The model's
choices: the reaction of the raising is taken before that end (log 35), and a timer that does not run
expires with no effect (log 7). -/
def Obligations.LostLockRaisesAxisFollow : Prop :=
  (∀ (a : Axis) (count : Sample) (present : Bool) (s : State), Live s →
    (s.axis a).state = .locked →
    (s.axisSettings a).lockWindow < distance count.toNat (s.axis a).target →
    (s.axisSettings a).unlockCount ≤ min 15 ((s.axis a).outRun + 1) →
    ∃ t : State, exec (.positionSample a count present) s = .next t ∧
      ((s.head.state = .drive ∨ s.head.state = .clinch ∨ s.head.state = .retract) →
        Raised s t .axisFollow (some (.axis a)) ∧
          t.machine.state =
            (MachineAfter (s.alarm .axisFollow).reaction s.machine.state).settledIn t) ∧
      (s.head.state ≠ .drive → s.head.state ≠ .clinch → s.head.state ≠ .retract →
        t.alarms = s.alarms ∧ t.machine.state = s.machine.state) ∧
      (s.head.state = .homing → t.head.state = .idle ∧ t.head.phaseTimer = none) ∧
      ((s.alarm .axisFollow).reaction ≠ .halt →
        t.axis a =
          { s.axis a with
            lastPosition := some count.toNat
            state :=
              if distance count.toNat (s.axis a).target ≤ (s.axisSettings a).settleWindow then
                .settle else .slew
            inRun := 0, outRun := 0, lockTimer := some (s.axisSettings a).lockTimeout })) ∧
  ∀ (a : Axis) (s : State), Live s →
    ((s.axis a).lockTimer.isSome = true →
      ∃ t : State, exec (.lockTimeout a) s = .next t ∧
        Raised s t .axisFollow (some (.axis a)) ∧
        t.machine.state =
          (MachineAfter (s.alarm .axisFollow).reaction s.machine.state).settledIn t ∧
        (t.axis a).target = (s.axis a).target ∧ (t.axis a).lockTimer = none ∧
        ((s.alarm .axisFollow).reaction ≠ .halt →
          t.axis a = { s.axis a with lockTimer := none }.settledIn s t ∧
            ∀ b : Axis, b ≠ a → t.axis b = (s.axis b).settledIn s t)) ∧
    ((s.axis a).lockTimer = none → exec (.lockTimeout a) s = .next s)

/-- The sample that locks the last axis ends FORM, once formed is YES (R162), and ends the MOVE leg
of an exchange: an UNLOAD, or a LOAD without BOARD_PRESENT, goes on to TRANSFER, a LOAD with it to
CLAMPING, which ends at once where CLAMPED is already true (R36), and in PAUSING and PAUSED the
exchange waits with the leg due (R34, R39). With nothing else in flight, PAUSING ends, and where its
conditions hold DRAINING, which leaves every axis IDLE (R185, R187), although a cycle could start
there (the model's choice, log 35). -/
def Obligations.LastLockEndsFormAndMove : Prop :=
  ∀ (a : Axis) (count : Sample) (present : Bool) (s : State), Live s →
    (s.axis a).state = .settle →
    distance count.toNat (s.axis a).target ≤ (s.axisSettings a).lockWindow →
    (s.axisSettings a).lockCount ≤ min 15 ((s.axis a).inRun + 1) →
    (∀ b : Axis, b ≠ a → (s.axis b).state = .locked) →
    ∃ t : State, exec (.positionSample a count present) s = .next t ∧
      t.machine.state = s.machine.state.settledIn t ∧
      (s.machine.state ≠ .draining ∨ t.machine.state ≠ .stopped →
        ∀ b : Axis, (t.axis b).state = .locked) ∧
      (s.head.state = .form → s.head.formed = true →
        t.head = { s.head with state := .drive, phaseTimer := some s.settings.driveTimeout } ∧
          t.outputs.headDrive = true) ∧
      (s.exchange.leg = .move → s.pausing = false →
        (s.exchange.kind = .unload ∨ present = false) →
        t.exchange =
            { s.exchange with
              leg := .transfer, waiting := false
              transferTimer := some s.settings.transferTimeout } ∧
          t.outputs.transferReq = true ∧
          t.outputs.clamp = (if s.exchange.kind = .unload then false else s.outputs.clamp)) ∧
      (s.exchange.leg = .move → s.pausing = false → s.exchange.kind = .load → present = true →
        s.inputs.levels.clamped = false →
        t.exchange =
            { s.exchange with
              leg := .clamping, waiting := false, incoming := s.nextToLoad
              clampTimer := some s.settings.clampTimeout } ∧
          t.outputs.clamp = true) ∧
      (s.exchange.leg = .move → s.pausing = false → s.exchange.kind = .load → present = true →
        s.inputs.levels.clamped = true →
        t.exchange =
            { s.exchange with leg := .idle, leaving := none, incoming := none, waiting := false
                              clampTimer := none } ∧
          t.outputs.clamp = true ∧
          ∀ p : Parity, s.nextToLoad = some p →
            (t.board p).tableState =
                (if s.settings.alignRequired = true then .awaitingAlign else .aligned) ∧
              (t.board p).correction =
                (if s.settings.alignRequired = true then (s.board p).correction
                  else some { dx := 0, dy := 0, scale := 0 }) ∧
              (t.board p).number = (s.board p).number) ∧
      (s.exchange.leg = .move → s.pausing = true →
        t.exchange =
            { s.exchange with
              leg := if s.exchange.kind = .load ∧ present = true then .clamping else .transfer
              waiting := true } ∧
          t.outputs.transferReq = s.outputs.transferReq ∧ t.outputs.clamp = s.outputs.clamp)

/-! ## The head -/

/-- CYCLE_START with HOME high begins the cycle that the ACTIVE slot at 80 and the clip there give,
with FORMER high and the form timer running, and reads the stroke profile and trip of an INSERT from
its record (R160); HOMING_START with HOME low enters HOMING instead, before an INSERT and before a
DUMP (R161). With the other level of HOME, with the head busy, or with the machine not working,
nothing happens (the model's choice, log 1). -/
def Obligations.CycleStartTakesTheSlot : Prop :=
  ∀ (s : State) (p : Parity), Live s →
    (s.head.state = .idle → (s.machine.state = .running ∨ s.machine.state = .draining) →
      (s.moveSlot p).state = .active → (s.moveSlot p).position = some .p80 →
      (∀ q : Parity, q ≠ p →
        (s.moveSlot q).state ≠ .active ∨ (s.moveSlot q).position ≠ some .p80) →
      (∀ a : Axis, (s.axis a).state = .locked) → ¬ DriveForbidden s →
      (∀ (c : Call) (j : Job) (r : Placement), (s.moveSlot p).kind = some .insert →
        (s.moveSlot p).job = some j → (s.clip 80).state = .verified → (s.clip 80).dump = false →
        (s.clip 80).call = some c → c.board = j.board → c.placement = j.placement →
        s.isAligned j.board = true → s.slot? j.placement = some r →
        exec (.cycleStart true) s =
          .next
            { s with
              head :=
                { state := .form, kind := some .insert, slot := some p, job := some j
                  plan := some { profile := r.clinch, trip := r.trip }
                  formed := false, cleared := false, held := .none, peak := 0
                  phaseTimer := some s.settings.formTimeout }
              outputs := { s.outputs with former := true } } ∧
        exec (.homingStart false) s =
          .next
            { s with
              head :=
                { s.head with
                  state := .homing, phaseTimer := some s.settings.retractTimeout } }) ∧
      ((s.moveSlot p).kind = some .dump →
        ((s.clip 80).state = .unknown ∨
          ((s.clip 80).state = .verified ∧ (s.clip 80).dump = true)) →
        exec (.cycleStart true) s =
          .next
            { s with
              head :=
                { state := .form, kind := some .dump, slot := some p, job := none, plan := none
                  formed := false, cleared := false, held := .none, peak := 0
                  phaseTimer := some s.settings.formTimeout }
              outputs := { s.outputs with former := true } } ∧
        exec (.homingStart false) s =
          .next
            { s with
              head :=
                { s.head with
                  state := .homing, phaseTimer := some s.settings.retractTimeout } })) ∧
    exec (.cycleStart false) s = .next s ∧ exec (.homingStart true) s = .next s ∧
    (s.head.state ≠ .idle ∨ (s.machine.state ≠ .running ∧ s.machine.state ≠ .draining) ∨
        (∃ a : Axis, (s.axis a).state ≠ .locked) ∨ DriveForbidden s →
      ∀ home : Bool, exec (.cycleStart home) s = .next s ∧ exec (.homingStart home) s = .next s)

/-- FORMED in FORM sets formed and stops the timer, and with the four axes LOCKED goes on to DRIVE
(R162); DOWN in DRIVE begins the stroke of an INSERT with the cycle's profile, or ends a DUMP with
the clip EMPTY and the former open (R163, R170). Elsewhere both edges are ignored (R168). That the
EMPTY clip keeps its dump mark and clip id is the model's reading (log 14). -/
def Obligations.FormedAndDownMoveTheCycleOn : Prop :=
  ∀ s : State, Live s →
    (s.head.state = .form → s.head.formed = false →
      ((∃ a : Axis, (s.axis a).state ≠ .locked) →
        exec .formed s =
          .next { s with head := { s.head with formed := true, phaseTimer := none } }) ∧
      ((∀ a : Axis, (s.axis a).state = .locked) →
        exec .formed s =
          .next
            { s with
              head :=
                { s.head with
                  formed := true, state := .drive, phaseTimer := some s.settings.driveTimeout }
              outputs := { s.outputs with headDrive := true } })) ∧
    (s.head.state ≠ .form ∨ s.head.formed = true → exec .formed s = .next s) ∧
    (∀ pl : StrokePlan, s.head.state = .drive → s.head.kind = some .insert →
      s.head.plan = some pl →
      exec .down s =
        .next
          { s with
            head :=
              { s.head with
                state := .clinch, held := .none, phaseTimer := some s.settings.clinchTimeout }
            drive :=
              { s.drive with
                stroke := .commanded, chop := .on, chopCount := 0, samples := 0, openRun := true
                inForce := s.settings.stroke }
            outputs := { s.outputs with profile := pl.profile } }) ∧
    (s.head.state = .drive → s.head.kind = some .dump →
      exec .down s =
        .next
          { s with
            stretch :=
              s.stretch.set 80 { s.clip 80 with state := .empty, call := none, verify := none }
            head :=
              { s.head with
                state := .retract, held := .none, phaseTimer := some s.settings.retractTimeout }
            outputs := { s.outputs with former := false, headDrive := false } }) ∧
    (s.head.state ≠ .drive → exec .down s = .next s)

/-- CLINCH_END in CLINCH ends the stroke and enters RETRACT with the clip at 80 EMPTY; the
placement, if CALLED in an open board, becomes INSERTED with the cycle's peak and is counted, its
hold granted where no clip carries it any more; any other placement and its board stay (R164, R9,
R12, R13). Outside CLINCH the edge is ignored (R168). The model's readings: the EMPTY clip keeps its
dump mark and clip id (log 14), and a request that is ignored leaves the hold as it was (log 12). -/
def Obligations.ClinchEndInsertsThePlacement : Prop :=
  ∀ s : State, Live s →
    (s.head.state = .clinch → ShapeHolds s →
      ∃ t : State, exec .clinchEnd s = .next t ∧
        t =
          { s with
            table := t.table
            boards := t.boards
            stretch :=
              s.stretch.set 80 { s.clip 80 with state := .empty, call := none, verify := none }
            head :=
              { s.head with
                state := .retract, held := .none, phaseTimer := some s.settings.retractTimeout }
            drive :=
              { s.drive with stroke := .none, chop := .on, offTimer := none, filter := none }
            outputs := { s.outputs with former := false, headDrive := false } } ∧
        (∀ (j : Job) (p : Parity) (r : Placement), s.head.job = some j → p = parityOf j.board →
          s.slot? j.placement = some r →
          (s.isOpen p = true → (r.status.get p).state = .called →
            t.slot? j.placement =
              some
                { r with
                  hold :=
                    if r.hold = .holdPending ∧ t.carried j.placement = false then .held else r.hold
                  status := r.status.put p
                    { r.status.get p with
                      state := .inserted, clinchPeak := some s.head.peak } } ∧
            (∀ m : Nat, m ≠ j.placement → t.slot? m = s.slot? m) ∧
            t.board p =
              { s.board p with
                phase := (t.board p).phase
                inserted := min 65535 ((s.board p).inserted + 1) } ∧
            PhaseEvaluated s t p ∧ t.board (otherParity p) = s.board (otherParity p)) ∧
          (s.isOpen p = false ∨ (r.status.get p).state ≠ .called →
            t.table = s.table ∧ t.boards = s.boards)) ∧
        (s.head.job = none → t.table = s.table ∧ t.boards = s.boards)) ∧
    (s.head.state ≠ .clinch → exec .clinchEnd s = .next s)

/-- The first CLEAR edge in RETRACT releases the cycle's slot, activates the slot at 79 where it may
be, a VOID one as a DUMP move, and requests an index (R165, R146 to R148, R92). Taken first, an exchange
that may begin at the release begins, and no slot is activated (R33, R146). HOME ends RETRACT, with head
clear where none was taken (R165); it ends HOMING, where the cycle starts if the start conditions still
hold (R161, R160). PAUSING or DRAINING may end with it (R185, R187). Later CLEAR edges, and both edges
elsewhere, are ignored (R168). The model's choices: `first`, the order of an exchange and a slot's
activation at the release, is an operand (log 3); cleared keeps its value at HOME (log 13); and DRAINING
ends at the end of RETRACT although a cycle could start there (log 35). -/
def Obligations.HeadClearAndHomeEndTheCycle : Prop :=
  ∀ (s : State) (p : Parity) (first : Bool), Live s →
    (s.head.state = .retract → s.head.cleared = false → s.head.slot = some p →
      ∃ t : State, exec (.headClear false) s = .next t ∧
        t =
          { s with
            head := { s.head with cleared := true }
            slots := t.slots
            axes := t.axes
            chain :=
              { s.chain with
                indexState :=
                  if s.chain.indexState = .idle then .requested else s.chain.indexState } } ∧
        t.moveSlot p = { s.moveSlot p with state := .free, position := none } ∧
        (∀ g : Quad Nat, (s.machine.state = .running ∨ s.machine.state = .draining) →
          s.exchange.leg = .idle → (s.moveSlot (otherParity p)).state = .planned →
          (s.moveSlot (otherParity p)).position = some .p79 →
          (s.moveSlot (otherParity p)).targets = some g →
          t.moveSlot (otherParity p) = { s.moveSlot (otherParity p) with state := .active } ∧
            ∀ a : Axis, NewTarget s t a (g.get a)) ∧
        ((s.machine.state = .running ∨ s.machine.state = .draining) →
          s.exchange.leg = .idle → (s.moveSlot (otherParity p)).state = .void →
          (s.moveSlot (otherParity p)).position = some .p79 →
          (∃ g : Quad Nat, (∀ a : Axis, g.get a = (s.axisSettings a).dumpPosition) ∧
            t.moveSlot (otherParity p) =
              { s.moveSlot (otherParity p) with
                state := .active, kind := some .dump, targets := some g }) ∧
            ∀ a : Axis, NewTarget s t a (s.axisSettings a).dumpPosition) ∧
        ((s.machine.state ≠ .running ∧ s.machine.state ≠ .draining) ∨ s.exchange.leg ≠ .idle ∨
            (s.moveSlot (otherParity p)).position ≠ some .p79 ∨
            ((s.moveSlot (otherParity p)).state ≠ .planned ∧
              (s.moveSlot (otherParity p)).state ≠ .void) →
          t.moveSlot (otherParity p) = s.moveSlot (otherParity p) ∧ t.axes = s.axes)) ∧
    (s.head.state = .retract → s.head.cleared = false → s.head.slot = some p →
      (s.machine.state = .running ∨ s.machine.state = .draining) → s.exchange.leg = .idle →
      (s.moveSlot (otherParity p)).state ≠ .active → ExchangeCalled s →
      ∃ t : State, exec (.headClear true) s = .next t ∧
        t =
          { s with
            head := { s.head with cleared := true }
            slots := t.slots, axes := t.axes, boards := t.boards, exchange := t.exchange
            chain :=
              { s.chain with
                indexState :=
                  if s.chain.indexState = .idle then .requested else s.chain.indexState } } ∧
        t.moveSlot p = { s.moveSlot p with state := .free, position := none } ∧
        t.moveSlot (otherParity p) = s.moveSlot (otherParity p) ∧ ExchangeBegun s t) ∧
    (s.head.slot = some p →
      ((s.machine.state ≠ .running ∧ s.machine.state ≠ .draining) ∨ s.exchange.leg ≠ .idle ∨
        (s.moveSlot (otherParity p)).state = .active ∨ ¬ ExchangeCalled s) →
      exec (.headClear true) s = exec (.headClear false) s) ∧
    (s.head.state = .retract → s.head.cleared = true →
      exec (.headClear first) s = .next s ∧
      ∃ t : State, exec (.homeRise first) s = .next t ∧
        t =
          { s with
            head :=
              { s.head with
                state := .idle, kind := none, slot := none, job := none, plan := none
                formed := false, phaseTimer := none }
            chain := { s.chain with indexState := t.chain.indexState }
            machine := t.machine, slots := t.slots, axes := t.axes } ∧
        t.machine.state = s.machine.state.settledIn t ∧
        (∀ a : Axis, t.axis a = (s.axis a).settledIn s t) ∧
        (s.machine.state ≠ .draining ∨ t.machine.state ≠ .stopped → t.slots = s.slots)) ∧
    (s.head.state = .retract → s.head.cleared = false →
      ∃ t : State, exec (.homeRise first) s = .next t ∧ t.head.state = .idle ∧
        t.head.slot = none ∧ t.head.cleared = true ∧ t.head.peak = s.head.peak ∧
        t.machine.state = s.machine.state.settledIn t ∧
        (s.machine.state ≠ .draining ∨ t.machine.state ≠ .stopped →
          t.chain.indexState =
            (if s.chain.indexState = .idle then .requested else s.chain.indexState)) ∧
        ∃ u : State, exec (.headClear first) s = .next u ∧
          t =
            { u with
              head := t.head
              chain := { u.chain with indexState := t.chain.indexState }
              machine := t.machine, slots := t.slots, axes := t.axes } ∧
          (s.machine.state ≠ .draining ∨ t.machine.state ≠ .stopped →
            t.slots = u.slots ∧ t.axes = u.axes)) ∧
    (s.head.state = .homing → exec (.headClear first) s = .next s) ∧
    (s.head.state = .homing → StartConditions s p →
      ((s.moveSlot (otherParity p)).state ≠ .active ∨
        (s.moveSlot (otherParity p)).position ≠ some .p80) →
      ((s.moveSlot p).kind = some .dump →
        exec (.homeRise first) s =
          .next
            { s with
              head :=
                { state := .form, kind := some .dump, slot := some p, job := none, plan := none
                  formed := false, cleared := false, held := .none, peak := 0
                  phaseTimer := some s.settings.formTimeout }
              outputs := { s.outputs with former := true } }) ∧
      ((s.moveSlot p).kind = some .insert → ∀ j : Job, (s.moveSlot p).job = some j →
        ∀ r : Placement, s.slot? j.placement = some r →
        exec (.homeRise first) s =
          .next
            { s with
              head :=
                { state := .form, kind := some .insert, slot := some p, job := some j
                  plan := some { profile := r.clinch, trip := r.trip }
                  formed := false, cleared := false, held := .none, peak := 0
                  phaseTimer := some s.settings.formTimeout }
              outputs := { s.outputs with former := true } })) ∧
    (s.head.state = .homing → (∀ q : Parity, ¬ StartConditions s q) →
      ∃ t : State, exec (.homeRise first) s = .next t ∧
        t =
          { s with
            head := { s.head with state := .idle, phaseTimer := none }
            chain := { s.chain with indexState := t.chain.indexState }
            machine := t.machine, slots := t.slots, axes := t.axes } ∧
        t.machine.state = s.machine.state.settledIn t ∧
        (∀ a : Axis, t.axis a = (s.axis a).settledIn s t) ∧
        (s.machine.state ≠ .draining ∨ t.machine.state ≠ .stopped → t.slots = s.slots)) ∧
    (s.head.state ≠ .retract → s.head.state ≠ .homing →
      exec (.headClear first) s = .next s ∧ exec (.homeRise first) s = .next s)

/-- The phase timer, where it runs, ends FORM, DRIVE, RETRACT and HOMING with HEAD_JAM and the phase
as source (R161, R166), and CLINCH as a stall: one strike more, lockout at the fifth, CLINCH_STALL
with the placement (R171). A jam without a sensor edge leaves the head its state and outputs but for
the HALT of its reaction, which ends the cycle; a stall, no longer in flight, may end PAUSING
(R185). The model's choices: the reaction is taken before the end of DRAINING (log 35), and a timer
that does not run expires with no effect (log 7); an edge of CLINCH_END or HOME that arrives with
the expiry, after it, is taken as a command of its own, after the HALT of the reaction (logs 39,
40). -/
def Obligations.PhaseTimeoutIsJamOrStall : Prop :=
  ∀ (s : State) (edge first : Bool), Live s →
    (∀ ph : JamPhase, s.head.phaseTimer.isSome = true →
      ((s.head.state = .form ∧ ph = .form) ∨ (s.head.state = .drive ∧ ph = .drive) ∨
        (s.head.state = .retract ∧ ph = .retract) ∨ (s.head.state = .homing ∧ ph = .home)) →
      ∃ t : State, exec (.phaseTimeout edge first) s = .next t ∧
        Raised s t .headJam (some (.phase ph)) ∧
        t.machine.state =
          (MachineAfter (s.alarm .headJam).reaction s.machine.state).settledIn t ∧
        (ph = .home → t.head.state = .idle) ∧
        (edge = false → ph ≠ .home → (s.alarm .headJam).reaction ≠ .halt →
          t.head = { s.head with phaseTimer := none } ∧ t.outputs = s.outputs) ∧
        ((s.alarm .headJam).reaction = .halt →
          (s.machine.state = .running ∨ s.machine.state = .draining ∨ s.machine.state = .pausing ∨
            s.machine.state = .paused) →
          t.head.state = .idle ∧ t.outputs.former = false ∧ t.outputs.headDrive = false)) ∧
    (s.head.phaseTimer.isSome = true → s.head.state = .clinch →
      ∃ t : State, exec (.phaseTimeout edge first) s = .next t ∧
        Raised s t .clinchStall (s.head.job.map fun j => .slot j.placement) ∧
        t.machine.state =
          (MachineAfter (s.alarm .clinchStall).reaction s.machine.state).settledIn t ∧
        t.drive.stroke = .none ∧ t.drive.chop = .on ∧ t.drive.offTimer = none ∧
        t.drive.filter = none ∧ t.drive.strikes = min 255 (s.drive.strikes + 1) ∧
        t.drive.lockout = (s.drive.lockout || decide (5 ≤ min 255 (s.drive.strikes + 1))) ∧
        ((s.alarm .clinchStall).reaction ≠ .halt →
          t.head = { s.head with held := .stall, phaseTimer := none } ∧
            t.outputs = s.outputs ∧ t.table = s.table)) ∧
    (s.head.phaseTimer = none → exec (.phaseTimeout edge first) s = .next s)

/-! ## The clinch drive -/

/-- In a stroke, ISENSE at or above the trip current of the cycle, 1.5 A plus 0.5 A for each step of its
trip field (R169), in phase ON counts one chop, begins the off-time and ends the open run, and at the
stall limit stalls the stroke; the off-time ends in phase ON; a sample raises the peak and is counted
for the open run, and a whole open run ends the stroke with CLINCH_OPEN, which a stroke that has tripped
never does (R170, R171, R175). ISENSE below the trip current, and all of them outside a stroke, have no
effect. The model's choices: a timer that does not run has no effect (log 7), currents are in units of
0.05 A (log 19), and a raising's reaction is taken before the end of DRAINING (log 35). -/
def Obligations.StrokeChopsAndSamples : Prop :=
  ∀ (s : State) (current : Nat) (pl : StrokePlan), Live s →
    (s.drive.stroke = .commanded → s.drive.chop = .on → s.head.plan = some pl →
      30 + 10 * pl.trip ≤ current →
      min 255 (s.drive.chopCount + 1) ≠ s.drive.inForce.stallLimit →
      exec (.tripReached current) s =
        .next
          { s with
            drive :=
              { s.drive with
                chop := .offTime, chopCount := min 255 (s.drive.chopCount + 1)
                offTimer := some s.drive.inForce.offTime, openRun := false } }) ∧
    (s.drive.stroke = .commanded → s.drive.chop = .on → s.head.plan = some pl →
      30 + 10 * pl.trip ≤ current →
      min 255 (s.drive.chopCount + 1) = s.drive.inForce.stallLimit →
      ∃ t : State, exec (.tripReached current) s = .next t ∧
        Raised s t .clinchStall (s.head.job.map fun j => .slot j.placement) ∧
        t.machine.state =
          (MachineAfter (s.alarm .clinchStall).reaction s.machine.state).settledIn t ∧
        t.drive.stroke = .none ∧ t.drive.chopCount = s.drive.inForce.stallLimit ∧
        t.drive.strikes = min 255 (s.drive.strikes + 1) ∧
        ((s.alarm .clinchStall).reaction ≠ .halt → t.head.held = .stall)) ∧
    (s.drive.stroke = .none ∨ s.drive.chop = .offTime ∨
        (s.head.plan = some pl ∧ current < 30 + 10 * pl.trip) →
      exec (.tripReached current) s = .next s) ∧
    (s.drive.offTimer.isSome = true →
      exec .offTimeExpiry s = .next { s with drive := { s.drive with chop := .on, offTimer := none } }) ∧
    (s.drive.offTimer = none → exec .offTimeExpiry s = .next s) ∧
    (s.drive.stroke = .commanded →
      (s.drive.samples + 1 ≠ s.drive.inForce.openSamples ∨ s.drive.openRun = false ∨
        s.drive.inForce.openThreshold ≤ current) →
      exec (.clinchSample current) s =
        .next
          { s with
            head := { s.head with peak := max s.head.peak (min 255 current) }
            drive :=
              if s.drive.samples < s.drive.inForce.openSamples then
                { s.drive with
                  samples := s.drive.samples + 1
                  openRun := s.drive.openRun && decide (current < s.drive.inForce.openThreshold) }
              else s.drive }) ∧
    (s.drive.stroke = .commanded → s.drive.samples + 1 = s.drive.inForce.openSamples →
      s.drive.openRun = true → current < s.drive.inForce.openThreshold →
      ∃ t : State, exec (.clinchSample current) s = .next t ∧
        Raised s t .clinchOpen (s.head.job.map fun j => .slot j.placement) ∧
        t.machine.state =
          (MachineAfter (s.alarm .clinchOpen).reaction s.machine.state).settledIn t ∧
        t.drive.stroke = .none ∧ t.drive.strikes = s.drive.strikes ∧
        ((s.alarm .clinchOpen).reaction ≠ .halt → s.head.state = .clinch →
          t.head =
            { s.head with
              peak := max s.head.peak (min 255 current), held := .open, phaseTimer := none })) ∧
    (s.drive.stroke = .none → exec (.clinchSample current) s = .next s)

/-- A held CLINCH phase restrokes where the machine runs or drains, the drive is available and the
record that held it is CLEAR: held NONE, the clinch timer started, and the stroke begun anew with
the peak kept (R172, R170); otherwise nothing happens (the model's choice, log 1). -/
def Obligations.RestrokeBeginsTheStrokeAnew : Prop :=
  ∀ (s : State) (pl : StrokePlan), Live s →
    (s.head.state = .clinch → (s.machine.state = .running ∨ s.machine.state = .draining) →
      ¬ DriveForbidden s → s.head.plan = some pl →
      ((s.head.held = .stall ∧ (s.alarm .clinchStall).state = .clear) ∨
        (s.head.held = .open ∧ (s.alarm .clinchOpen).state = .clear)) →
      exec .restroke s =
        .next
          { s with
            head :=
              { s.head with held := .none, phaseTimer := some s.settings.clinchTimeout }
            drive :=
              { s.drive with
                stroke := .commanded, chop := .on, chopCount := 0, samples := 0, openRun := true
                inForce := s.settings.stroke }
            outputs := { s.outputs with profile := pl.profile } }) ∧
    (s.head.state ≠ .clinch ∨ s.head.held = .none ∨
        (s.machine.state ≠ .running ∧ s.machine.state ≠ .draining) ∨ DriveForbidden s ∨
        (s.head.held = .stall ∧ (s.alarm .clinchStall).state ≠ .clear) ∨
        (s.head.held = .open ∧ (s.alarm .clinchOpen).state ≠ .clear) →
      exec .restroke s = .next s)

/-- ISENSE above the over-current threshold of the stroke starts the filter in a stroke, and ISENSE
at or below it stops the filter and ends the condition of CLINCH_OVERCURRENT (R174, R179); the
filter's expiry raises it with the placement and turns the bridge off (R174). OVERTEMP high and
SUPPLY_OK low raise their alarms and turn the bridge off, and the other edge ends the condition
(R176, R193). The model's choices: the reaction is taken before the end of DRAINING (log 35),
currents are in units of 0.05 A (log 19), and a filter that does not run expires with no effect (log
7). -/
def Obligations.CurrentFaultsTurnTheBridgeOff : Prop :=
  ∀ s : State, Live s →
    (∀ current : Nat,
      (s.drive.stroke = .commanded → s.drive.inForce.overcurrentThreshold < current →
        exec (.overcurrentRise current) s =
          .next { s with drive := { s.drive with filter := some s.drive.inForce.filterTime } }) ∧
      (s.drive.stroke = .none ∨ current ≤ s.drive.inForce.overcurrentThreshold →
        exec (.overcurrentRise current) s = .next s) ∧
      (s.drive.inForce.overcurrentThreshold < current →
        exec (.overcurrentFall current) s = .next s)) ∧
    (s.drive.filter.isSome = true →
      ∃ t : State, exec .overcurrentFilterExpiry s = .next t ∧ t.drive.filter = none ∧
        Raised s t .clinchOvercurrent (s.head.job.map fun j => .slot j.placement) ∧
        t.machine.state =
        (MachineAfter (s.alarm .clinchOvercurrent).reaction s.machine.state).settledIn t ∧
        t.bridgeOn = false) ∧
    (s.drive.filter = none → exec .overcurrentFilterExpiry s = .next s) ∧
    (∃ t : State, exec .overtempRise s = .next t ∧
      t.inputs = { s.inputs with levels := { s.inputs.levels with overtemp := true } } ∧
      Raised s t .overTemp none ∧
      t.machine.state =
        (MachineAfter (s.alarm .overTemp).reaction s.machine.state).settledIn t ∧
      t.bridgeOn = false) ∧
    (∃ t : State, exec .supplyOkFall s = .next t ∧
      t.inputs = { s.inputs with levels := { s.inputs.levels with supplyOk := false } } ∧
      Raised s t .supplyLow none ∧
      t.machine.state =
        (MachineAfter (s.alarm .supplyLow).reaction s.machine.state).settledIn t ∧
      t.bridgeOn = false) ∧
    ∀ (c : Instr) (k : AlarmKind) (u : State),
      ((∃ current : Nat, current ≤ s.drive.inForce.overcurrentThreshold ∧
            c = .overcurrentFall current) ∧
          k = .clinchOvercurrent ∧
          u = { s with drive := { s.drive with filter := none } }) ∨
        (c = .overtempFall ∧ k = .overTemp ∧
          u =
            { s with
              inputs := { s.inputs with levels := { s.inputs.levels with overtemp := false } } }) ∨
        (c = .supplyOkRise ∧ k = .supplyLow ∧
          u =
            { s with
              inputs := { s.inputs with levels := { s.inputs.levels with supplyOk := true } } }) →
      ((s.alarm k).condition = false → exec c s = .next u) ∧
      ((s.alarm k).condition = true → ∃ t : State, exec c s = .next t ∧
        t = { u with alarms := t.alarms } ∧ (∀ l : AlarmKind, l ≠ k → t.alarm l = s.alarm l) ∧
        t.alarm k =
          match (s.alarm k).clearMode with
          | .latch => { s.alarm k with condition := false, state := .latched }
          | .retry =>
            { s.alarm k with condition := false, retryTimer := some s.settings.retryInterval })

/-! ## The machine controller -/

/-- The replies and states of ACK, PAUSE, DRAIN and RECOVER in every machine state, and the ends of
PAUSING and DRAINING (R182, R184, R185, R187, R190): PAUSE ends in PAUSED where the machine is quiet,
and DRAIN in STOPPED where every condition of its end holds. A head in HOMING when the machine pauses,
and the head's judgment at 80 when it drains (the model's choice, log 26), may also change the head and
the index request. A queued end that comes before its conditions hold changes nothing (the model's
choice, log 1). -/
def Obligations.MachineCommandsFollowTheTable : Prop :=
  ∀ s : State, Live s →
    (s.quiet = true ↔
      s.chain.indexState ≠ .indexing ∧ (∀ st ∈ s.stations, st.feed ≠ .advancing) ∧
        (s.head.state = .idle ∨ (s.head.state = .clinch ∧ s.head.held ≠ .none)) ∧
        ∀ a : Axis, (s.axis a).lockTimer = none) ∧
    (s.drainedOut = true ↔
      s.quiet = true ∧ (∀ p : Parity, s.isOpen p = false) ∧
        (∀ c ∈ s.stretch, c.carrying = false) ∧ s.exchange.leg = .idle) ∧
    (Taking s →
      (s.machine.state = .start →
        exec .ack s =
          .next
            (State.replied { s with machine := { state := .stopped, returnState := none } } 14 .ok
              [])) ∧
      (s.machine.state ≠ .start → exec .ack s = .next (s.replied 14 .refusedState [])) ∧
      (∀ r : ReturnState,
        (s.machine.state = .running ∧ r = .running) ∨
          (s.machine.state = .draining ∧ r = .draining) →
        ∃ t : State, exec .pause s = .next t ∧
          t = { s with machine := { state := if t.quiet = true then .paused else .pausing
                                    returnState := some r }
                       head := t.head
                       chain := { s.chain with indexState := t.chain.indexState }, port := t.port
                       freeCount := t.freeCount } ∧
          (s.head.state ≠ .homing → t.head = s.head ∧ t.chain = s.chain) ∧
          (s.head.state = .homing → t.head.state = .idle) ∧ Answered s t 16 .ok []) ∧
      (s.machine.state = .pausing ∨ s.machine.state = .paused →
        exec .pause s = .next (s.replied 16 .ok []) ∧
        exec .drain s =
          .next
            (State.replied { s with machine := { s.machine with returnState := some .draining } }
              18 .ok [])) ∧
      (s.machine.state = .start ∨ s.machine.state = .stopped ∨ s.machine.state = .halted →
        exec .pause s = .next (s.replied 16 .refusedState []) ∧
        exec .drain s = .next (s.replied 18 .refusedState [])) ∧
      (s.machine.state = .running → s.drainedOut = false → ∃ t : State, exec .drain s = .next t ∧
        t = { s with machine := { state := .draining, returnState := none }
                     chain := { s.chain with indexState := t.chain.indexState }, port := t.port
                     freeCount := t.freeCount } ∧ Answered s t 18 .ok []) ∧
      (s.machine.state = .running → s.drainedOut = true → ∃ t : State, exec .drain s = .next t ∧
        t = { s with machine := { state := .stopped, returnState := none }
                     chain := { s.chain with indexState := .idle }, slots := t.slots, axes := t.axes
                     port := t.port, freeCount := t.freeCount } ∧
        (∀ p : Parity, t.moveSlot p =
          (if (s.moveSlot p).state = .active then { s.moveSlot p with state := .planned }
            else s.moveSlot p)) ∧
        (∀ a : Axis, t.axis a =
          { s.axis a with state := .idle, inRun := 0, outRun := 0, lockTimer := none }) ∧
        Answered s t 18 .ok []) ∧
      (s.machine.state = .draining → exec .drain s = .next (s.replied 18 .ok [])) ∧
      (let ready : Prop :=
          s.machine.state = .halted ∧ s.inputs.levels.stopN = true ∧
            ∀ k : AlarmKind, (s.alarm k).reaction = .halt → (s.alarm k).state = .clear;
        (ready →
          exec .recover s =
            .next
              (State.replied { s with machine := { state := .stopped, returnState := none } }
                20 .ok [])) ∧
        (¬ ready → exec .recover s = .next (s.replied 20 .refusedState [])))) ∧
    (s.machine.state = .pausing ∧ s.quiet = true →
      exec .pausingQuiet s = .next { s with machine := { s.machine with state := .paused } }) ∧
    (¬ (s.machine.state = .pausing ∧ s.quiet = true) → exec .pausingQuiet s = .next s) ∧
    (s.machine.state = .draining ∧ s.drainedOut = true →
      ∃ t : State, exec .drainEnd s = .next t ∧
        t = { s with machine := { state := .stopped, returnState := none }
                     chain := { s.chain with indexState := .idle }, slots := t.slots
                     axes := t.axes } ∧
        (∀ p : Parity, t.moveSlot p =
          (if (s.moveSlot p).state = .active then { s.moveSlot p with state := .planned }
            else s.moveSlot p)) ∧
        ∀ a : Axis, t.axis a =
          { s.axis a with state := .idle, inRun := 0, outRun := 0, lockTimer := none }) ∧
    (¬ (s.machine.state = .draining ∧ s.drainedOut = true) → exec .drainEnd s = .next s)

/-- RUN takes STOPPED to RUNNING unless a HALT-reaction record is not CLEAR or STOP_N is low; with
no board open the run counter returns to 0, and after a reset the UNKNOWN records at 80 and 79 take
dump plans in EVEN and ODD (R183, R149, R157). RESUME takes PAUSED to its return state unless a
PAUSE- or HALT-reaction record is not CLEAR, resolves every DUE feed (R186, R50), and begins the leg
that a waiting exchange holds: TRANSFER, CLAMPING, which ends at once where CLAMPED is already true,
or PRESENT_WAIT, which with BOARD_PRESENT true goes on to CLAMPING (R39, R36); a RESUME to DRAINING
judges the end of draining, and is STOPPED where its conditions hold (R187), although a cycle or
another event could begin there (the model's choice, log 35). -/
def Obligations.RunAndResumeStartTheMachine : Prop :=
  ∀ (present : Bool) (s : State), Taking s →
    (let ready : Prop :=
        s.machine.state = .stopped ∧ s.inputs.levels.stopN = true ∧
          ∀ k : AlarmKind, (s.alarm k).reaction = .halt → (s.alarm k).state = .clear;
      (ready → ∃ t : State, exec (.run present) s = .next t ∧
        t = { s with table := t.table, boards := t.boards, runCounter := t.runCounter
                     stretch := t.stretch, slots := t.slots, alternation := t.alternation
                     chain := { s.chain with indexState := t.chain.indexState }
                     machine := { state := .running, returnState := none }, port := t.port
                     freeCount := t.freeCount } ∧
        t.runCounter =
          (if s.isOpen .even = true ∨ s.isOpen .odd = true then s.runCounter else 0) ∧
        ((∀ p : Parity, (s.moveSlot p).state = .free) → s.alternation = .even →
          (s.clip 80).state = .unknown → (s.clip 79).state = .unknown →
          t.alternation = .even ∧
          (∃ g : Quad Nat, (∀ a : Axis, g.get a = (s.axisSettings a).dumpPosition) ∧
            t.moveSlot .even =
              { state := .planned, position := some .p80, kind := some .dump, job := none
                targets := some g } ∧
            t.moveSlot .odd =
              { state := .planned, position := some .p79, kind := some .dump, job := none
                targets := some g })) ∧
        (ShapeHolds s → (s.clip 76).state = .unknown →
          (t.clip 76).state = (if present = true then .stray else .passedEmpty) ∧
          (t.clip 76).verify = some (if present = true then .stray else .empty)) ∧
        Answered s t 15 .ok []) ∧
      (¬ ready → exec (.run present) s = .next (s.replied 15 .refusedState []))) ∧
    (let clear : Prop :=
        ∀ k : AlarmKind, (s.alarm k).reaction ≠ .note → (s.alarm k).state = .clear;
      (∀ r : ReturnState, s.machine.state = .paused → s.machine.returnState = some r → clear →
        ∃ t : State, exec (.resume present) s = .next t ∧
          t.machine =
            { state := match r with
                | .running => .running
                | .draining => if t.drainedOut = true then .stopped else .draining
              returnState := none } ∧
          (∀ (k : Nat) (st : Station), ShapeHolds s → 1 ≤ k → k ≤ 72 → s.station? k = some st →
            (st.feed ≠ .due → t.station? k = some st) ∧
            (st.feed = .due → st.state = .ready →
              t.station? k =
                some
                  { st with
                    feed := .advancing, retriesUsed := 0
                    work := some
                      { retryLimit := st.retryLimit, advanceTimeout := st.advanceTimeout }
                    advanceTimer := some st.advanceTimeout }) ∧
            (st.feed = .due → st.state ≠ .ready →
              t.station? k =
                some
                  { st with
                    committed := st.committed - 1, feed := .idle, work := none
                    advanceTimer := none } ∧
              (t.clip k).state = .dropMissed)) ∧
          (s.exchange.waiting = true → t.exchange.waiting = false) ∧
          (s.exchange.waiting = true → s.exchange.leg = .transfer →
            t.exchange =
                { s.exchange with
                  waiting := false, transferTimer := some s.settings.transferTimeout } ∧
              t.outputs =
                { s.outputs with
                  transferReq := true
                  clamp := if s.exchange.kind = .unload then false else s.outputs.clamp }) ∧
          (s.exchange.waiting = true →
            s.exchange.leg = .clamping ∨ (s.exchange.leg = .presentWait ∧ present = true) →
            t.outputs = { s.outputs with clamp := true } ∧
            (s.inputs.levels.clamped = false →
              t.exchange =
                { s.exchange with
                  leg := .clamping, waiting := false, incoming := s.nextToLoad
                  clampTimer := some s.settings.clampTimeout }) ∧
            (s.inputs.levels.clamped = true →
              t.exchange =
                  { s.exchange with leg := .idle, waiting := false, leaving := none, incoming := none
                                    clampTimer := none } ∧
                ∀ p : Parity, s.nextToLoad = some p →
                  (t.board p).tableState =
                      (if s.settings.alignRequired = true then .awaitingAlign else .aligned) ∧
                    (t.board p).correction =
                      (if s.settings.alignRequired = true then (s.board p).correction
                        else some { dx := 0, dy := 0, scale := 0 }) ∧
                    (t.board p).number = (s.board p).number)) ∧
          (s.exchange.waiting = true → s.exchange.leg = .presentWait → present = false →
            t.exchange = { s.exchange with waiting := false } ∧ t.outputs = s.outputs) ∧
          (s.exchange.waiting = false → t.exchange = s.exchange ∧ t.outputs = s.outputs) ∧
          t.alarms = s.alarms ∧ t.head = s.head ∧
          (∀ a : Axis, t.axis a =
            if t.machine.state = .stopped then
              { s.axis a with state := .idle, inRun := 0, outRun := 0, lockTimer := none }
            else s.axis a) ∧
          t.settings = s.settings ∧ Answered s t 17 .ok []) ∧
      (s.machine.state ≠ .paused ∨ ¬ clear →
        exec (.resume present) s = .next (s.replied 17 .refusedState [])))

/-- HALT, and STOP_N falling, in a machine that moves: every block takes its HALT steps at that
event (R188, R189 with R40, R58, R97, R149, R155, R167, R177), and an INSERT cut in FORM, DRIVE or
CLINCH leaves its placement INTERRUPTED and its clip UNKNOWN. That peak keeps its value is the
model's choice (log 13), and that the clip keeps its dump mark and clip id is its reading (log 14).
In START and STOPPED the command is refused, in HALTED it replies OK; there STOP_N only changes its
level, and rising it never does more. -/
def Obligations.HaltStopsTheMachine : Prop :=
  ∀ s : State, Live s →
    (∀ c : Instr, (c = .halt ∧ Taking s) ∨ c = .stopNFall → ShapeHolds s →
      (s.machine.state = .running ∨ s.machine.state = .pausing ∨ s.machine.state = .paused ∨
        s.machine.state = .draining) →
      ∃ t : State, exec c s = .next t ∧
        t.machine = { state := .halted, returnState := none } ∧ t.bridgeOn = false ∧
        (∀ (k : Nat) (st : Station), 1 ≤ k → k ≤ 72 → s.station? k = some st →
          (st.feed = .idle → t.station? k = some st) ∧
          (st.feed ≠ .idle →
            t.station? k =
              some
                { st with
                  committed := st.committed - 1, feed := .idle, work := none
                  advanceTimer := none } ∧
            (t.clip k).state = .dropMissed)) ∧
        t.chain.indexState = .idle ∧ t.chain.indexTimer = none ∧
        t.chain.counter = s.chain.counter ∧ t.chain.syncState = s.chain.syncState ∧
        (s.exchange.leg ≠ .idle →
          t.exchange =
            { s.exchange with
              leg := .idle, waiting := false, leaving := none, incoming := none
              transferTimer := none, clampTimer := none } ∧
          t.outputs.transferReq = false ∧
          t.outputs.clamp = (if s.exchange.leg = .clamping then false else s.outputs.clamp)) ∧
        (∀ a : Axis, t.axis a =
          { s.axis a with state := .idle, inRun := 0, outRun := 0, lockTimer := none }) ∧
        (∀ p : Parity,
          (s.head.slot = some p → s.head.cleared = false →
            t.moveSlot p = { s.moveSlot p with state := .free, position := none }) ∧
          (s.head.slot ≠ some p ∨ s.head.cleared = true →
            t.moveSlot p =
              (if (s.moveSlot p).state = .active then { s.moveSlot p with state := .planned }
                else s.moveSlot p))) ∧
        t.head.state = .idle ∧ t.head.slot = none ∧ t.head.held = .none ∧
        t.head.peak = s.head.peak ∧ t.drive.stroke = .none ∧ t.drive.strikes = s.drive.strikes ∧
        t.drive.lockout = s.drive.lockout ∧ t.outputs.former = false ∧
        t.outputs.headDrive = false ∧ t.outputs.rejectGate = s.outputs.rejectGate ∧
        t.alarms = s.alarms ∧ t.settings = s.settings ∧ t.conditions = s.conditions ∧
        ((s.head.state = .form ∨ s.head.state = .drive ∨ s.head.state = .clinch) →
          s.head.kind = some .insert →
          t.clip 80 = { s.clip 80 with state := .unknown, call := none, verify := none } ∧
          ∀ (j : Job) (p : Parity) (u : StatusSlot), s.head.job = some j → p = parityOf j.board →
            s.statusOf j.placement p = some u → u.state = .called → s.isOpen p = true →
            (∀ (k : Nat) (st : Station) (d : Call), s.station? k = some st → st.feed ≠ .idle →
              (s.clip k).call = some d → d.placement = j.placement → d.parity ≠ p) →
            t.statusOf j.placement p = some { u with state := .interrupted } ∧
            (t.board p).interrupted = min 65535 ((s.board p).interrupted + 1)) ∧
        (c = .halt → Answered s t 19 .ok [] ∧ t.inputs = s.inputs) ∧
        (c = .stopNFall → t.port = s.port ∧
          t.inputs = { s.inputs with levels := { s.inputs.levels with stopN := false } })) ∧
    (Taking s → s.machine.state = .start ∨ s.machine.state = .stopped →
      exec .halt s = .next (s.replied 19 .refusedState [])) ∧
    (Taking s → s.machine.state = .halted → exec .halt s = .next (s.replied 19 .ok [])) ∧
    (s.machine.state = .start ∨ s.machine.state = .stopped ∨ s.machine.state = .halted →
      exec .stopNFall s =
        .next { s with inputs := { s.inputs with levels := { s.inputs.levels with stopN := false } } }) ∧
    exec .stopNRise s =
      .next { s with inputs := { s.inputs with levels := { s.inputs.levels with stopN := true } } }

/-! ## Alarm records and settings -/

/-- CLEAR makes a LATCHED record CLEAR, changes nothing in a CLEAR one and is refused while it is
ACTIVE; of CLINCH_STALL it also lifts the lockout (R195, R173). The expiry of a running retry timer
makes the record CLEAR (R193). The other records, and all else, do not change. A timer that does not
run expires with no effect (the model's choice, log 7). -/
def Obligations.ClearAndRetryClearTheRecord : Prop :=
  (∀ (index : Half) (k : AlarmKind) (s : State), Taking s → kindOfCode index.toNat = some k →
    let d : Drive := if k = .clinchStall then { s.drive with lockout := false } else s.drive
    ((s.alarm k).state = .latched →
      ∃ t : State, exec (.clearAlarm index) s = .next t ∧
        t = { s with alarms := t.alarms, drive := d, port := t.port, freeCount := t.freeCount } ∧
        t.alarm k = { s.alarm k with state := .clear } ∧
        (∀ l : AlarmKind, l ≠ k → t.alarm l = s.alarm l) ∧ Answered s t 12 .ok []) ∧
    ((s.alarm k).state = .clear →
      exec (.clearAlarm index) s = .next (State.replied { s with drive := d } 12 .ok [])) ∧
    ((s.alarm k).state = .active →
      exec (.clearAlarm index) s = .next (s.replied 12 .refusedState []))) ∧
  (∀ (index : Half) (s : State), Taking s → 16 ≤ index.toNat →
    exec (.clearAlarm index) s = .next (s.replied 12 .refusedRange [])) ∧
  ∀ (k : AlarmKind) (s : State), Live s →
    ((s.alarm k).retryTimer.isSome = true → (s.alarm k).condition = false →
      ∃ t : State, exec (.retryTimeout k) s = .next t ∧ t = { s with alarms := t.alarms } ∧
        t.alarm k = { s.alarm k with state := .clear, retryTimer := none } ∧
        ∀ l : AlarmKind, l ≠ k → t.alarm l = s.alarm l) ∧
    ((s.alarm k).retryTimer = none → exec (.retryTimeout k) s = .next s)

/-- SET stores a value in its range, in a machine state that its group allows, under the checks of
its owning rule: that item then reads as the value and every other item as before; outside range,
state or checks nothing is stored (R207). The ranges of the items 0 to 94, a fixed reaction among
the refusals, are those of R42, R104, R114, R135, R156, R179 and R196, currents in units of 0.05 A
(the model's choice, log 19); the states and the consistency checks are those of R207, R136 and
R156. A soft limit that fails both the check of the slots' targets and that of the load and dump
positions is REFUSED_STATE (the model's choice, log 36). -/
def Obligations.SetStoresOneItem : Prop :=
  ∀ (index : Half) (value : Triple) (s : State), Taking s →
    (∀ item : SettingItem, itemOfNumber index.toNat = some item →
      (item.takes value.toNat = true → s.itemOpen item = true →
        s.checkItem item value.toNat = .ok →
        ∃ t : State, exec (.set 12 index value) s = .next t ∧
          t = { s with settings := t.settings, alarms := t.alarms, port := t.port
                       freeCount := t.freeCount } ∧
          t.itemValue item = value.toNat ∧ ItemHolds t index.toNat value.toNat ∧
          (∀ other : SettingItem, other ≠ item → t.itemValue other = s.itemValue other) ∧
          (∀ k : AlarmKind, t.alarm k =
            { s.alarm k with
              reaction := (t.alarm k).reaction, clearMode := (t.alarm k).clearMode }) ∧
          Answered s t 13 .ok []) ∧
      (item.takes value.toNat = false →
        exec (.set 12 index value) s = .next (s.replied 13 .refusedRange [])) ∧
      (item.takes value.toNat = true → s.itemOpen item = false →
        exec (.set 12 index value) s = .next (s.replied 13 .refusedState [])) ∧
      (∀ code : ReplyCode, item.takes value.toNat = true → s.itemOpen item = true →
        s.checkItem item value.toNat = code → code ≠ .ok →
        exec (.set 12 index value) s = .next (s.replied 13 code []))) ∧
    (94 < index.toNat → exec (.set 12 index value) s = .next (s.replied 13 .refusedRange [])) ∧
    (∀ kind : Byte, kind ≠ 12 →
      exec (.set kind index value) s = .next (s.replied 13 .refusedRange [])) ∧
    ∀ item : SettingItem, itemOfNumber index.toNat = some item →
      let n := index.toNat
      let v := value.toNat
      (item.takes v = true ↔
        (n = 0 ∧ v ≤ 65535) ∨ (n = 1 ∧ v ≤ 1) ∨ (n = 2 ∧ 100 ≤ v ∧ v ≤ 10000) ∨
        (n = 3 ∧ 10 ≤ v ∧ v ≤ 1000) ∨ ((n = 4 ∨ n = 5) ∧ 1 ≤ v ∧ v ≤ 7) ∨
        (n = 6 ∧ 50 ≤ v ∧ v ≤ 1000) ∨ (n = 7 ∧ 1 ≤ v ∧ v ≤ 7) ∨ (n = 8 ∧ v ≤ 3) ∨
        ((n = 9 ∨ n = 10) ∧ v ≤ 60000) ∨ (11 ≤ n ∧ n ≤ 14 ∧ v ≤ 65535) ∨
        (n = 15 ∧ 1 ≤ v ∧ v ≤ 16383) ∨ (16 ≤ n ∧ n ≤ 23 ∧ v ≤ 262143) ∨
        (24 ≤ n ∧ n ≤ 27 ∧ 1 ≤ v ∧ v ≤ 4095) ∨ (28 ≤ n ∧ n ≤ 31 ∧ 1 ≤ v ∧ v ≤ 255) ∨
        (32 ≤ n ∧ n ≤ 39 ∧ 1 ≤ v ∧ v ≤ 15) ∨ (40 ≤ n ∧ n ≤ 43 ∧ 10 ≤ v ∧ v ≤ 2000) ∨
        (44 ≤ n ∧ n ≤ 51 ∧ v ≤ 262143) ∨ (52 ≤ n ∧ n ≤ 55 ∧ 10 ≤ v ∧ v ≤ 500) ∨
        (n = 56 ∧ (v = 25 ∨ v = 50 ∨ v = 75 ∨ v = 100)) ∨ (n = 57 ∧ 8 ≤ v ∧ v ≤ 255) ∨
        (n = 58 ∧ (v = 110 ∨ v = 120 ∨ v = 130 ∨ v = 140 ∨ v = 150 ∨ v = 160)) ∨
        (n = 59 ∧ (v = 1 ∨ v = 2)) ∨ (n = 60 ∧ 1 ≤ v ∧ v ≤ 20) ∨ (n = 61 ∧ (v = 16 ∨ v = 128)) ∨
        (62 ≤ n ∧ n ≤ 77 ∧ v ≤ 2 ∧
          ∀ k : AlarmKind, kindOfCode (n - 62) = some k →
            k ≠ .chainJam ∧ k ≠ .headJam ∧ k ≠ .clinchOvercurrent ∧ k ≠ .supplyLow ∧
              k ≠ .overTemp) ∨
        (78 ≤ n ∧ n ≤ 93 ∧ v ≤ 1) ∨ (n = 94 ∧ 50 ≤ v ∧ v ≤ 5000)) ∧
      (s.itemOpen item = true ↔
        62 ≤ n ∨ ((s.machine.state = .start ∨ s.machine.state = .stopped) ∧
          (n = 8 → s.isOpen .even = false ∧ s.isOpen .odd = false))) ∧
      (∀ (a : Axis) (lo hi : Nat),
        let g := s.axisSettings a
        let outside : Prop :=
          ∃ p : Parity,
            ((s.moveSlot p).state = .planned ∨ (s.moveSlot p).state = .active) ∧
              ∃ t : Quad Nat, (s.moveSlot p).targets = some t ∧ (t.get a < lo ∨ hi < t.get a);
        (n = 16 + axisCode a ∧ lo = v ∧ hi = g.softMax) ∨
          (n = 20 + axisCode a ∧ lo = g.softMin ∧ hi = v) →
        (hi < lo → s.checkItem item v = .refusedRange) ∧
        (lo ≤ hi → outside → s.checkItem item v = .refusedState) ∧
        (lo ≤ hi → ¬ outside →
          s.checkItem item v =
            if lo ≤ g.loadPosition ∧ g.loadPosition ≤ hi ∧ lo ≤ g.dumpPosition ∧
                g.dumpPosition ≤ hi then .ok
            else .refusedRange)) ∧
      (∀ a : Axis,
        let g := s.axisSettings a
        (n = 24 + axisCode a →
          s.checkItem item v = if v < g.lockWindow then .refusedRange else .ok) ∧
        (n = 28 + axisCode a →
          s.checkItem item v = if g.settleWindow < v then .refusedRange else .ok) ∧
        (n = 44 + axisCode a ∨ n = 48 + axisCode a →
          s.checkItem item v =
            if g.softMin ≤ v ∧ v ≤ g.softMax then .ok else .refusedRange)) ∧
      (n < 16 ∨ (32 ≤ n ∧ n < 44) ∨ 52 ≤ n → s.checkItem item v = .ok)

/-! ## Geometry -/

/-- The computation gives targets exactly where the offset point lies in the plane and the four
targets lie within the soft limits, and the targets are those of the count stage (R127 to R131).
Rounding is to the nearest integer, halves away from zero; with every input in its range, the stages
stay in the ranges the rules give (R127, R130). -/
def Obligations.GeometryFollowsTheStages : Prop :=
  (∀ (g : Settings) (r : Placement) (c : Correction) (t : Quad Nat),
     let xs : Int := r.x + roundMillionth (r.x * c.scale)
     let ys : Int := r.y + roundMillionth (r.y * c.scale)
     let cx : Int := g.centreX
     let cy : Int := g.centreY
     let xo : Int := c.dx +
       match r.orientation with
       | .q0 => xs
       | .q90 => cx - (ys - cy)
       | .q180 => 2 * cx - xs
       | .q270 => cx + (ys - cy)
     let yo : Int := c.dy +
       match r.orientation with
       | .q0 => ys
       | .q90 => cy + (xs - cx)
       | .q180 => 2 * cy - ys
       | .q270 => cy - (xs - cx)
     axisTargets g r c = some t ↔
       0 ≤ xo ∧ xo ≤ 65535 ∧ 0 ≤ yo ∧ yo ≤ 65535 ∧
         (t.x : Int) = g.homeX + 2 * xo ∧ (t.y : Int) = g.homeY + 2 * yo ∧
         t.s = g.homeS + 4 * r.span ∧ t.r = g.homeR + r.orientation.quadrant * g.quarter ∧
         ∀ a : Axis, (g.axis.get a).Inside (t.get a)) ∧
  ((∀ product : Int,
      2 * (1000000 * roundMillionth product - product).natAbs ≤ 1000000 ∧
        (2 * (1000000 * roundMillionth product - product).natAbs = 1000000 →
          product.natAbs < 1000000 * (roundMillionth product).natAbs)) ∧
   (∀ (g : Settings) (r : Placement) (c : Correction), r.x ≤ 60000 → r.y ≤ 45000 → 50 ≤ r.span →
      r.span ≤ 254 → -2000 ≤ c.scale → c.scale ≤ 2000 → g.homeX ≤ 65535 → g.homeY ≤ 65535 →
      g.homeS ≤ 65535 → g.homeR ≤ 65535 → g.quarter ≤ 16383 →
      0 ≤ scaled r.x c.scale ∧ scaled r.x c.scale ≤ 60120 ∧ 0 ≤ scaled r.y c.scale ∧
        scaled r.y c.scale ≤ 45090 ∧
        ∀ t : Quad Nat, axisTargets g r c = some t →
          t.x ≤ 196605 ∧ t.y ≤ 196605 ∧ 200 ≤ t.s ∧ t.s ≤ 66551 ∧ t.r ≤ 114684))
end

