-- ==== Sys2Proof/Laws/State.lean ====
section
/-! SUPPORT. What each update of State leaves as it was, one lemma for each update, true by rfl, and what
each reader answers after each writer. -/

namespace Sys2Proof.Machine

/-! ## Fields -/

@[simp] theorem State.putSlot_frame (s : State) (n : Nat) (r : Option Placement) :
    (s.putSlot n r).boards = s.boards ∧ (s.putSlot n r).nextNumber = s.nextNumber ∧
    (s.putSlot n r).runCounter = s.runCounter ∧ (s.putSlot n r).exchange = s.exchange ∧
    (s.putSlot n r).stations = s.stations ∧ (s.putSlot n r).stretch = s.stretch ∧
    (s.putSlot n r).chain = s.chain ∧ (s.putSlot n r).conditions = s.conditions ∧
    (s.putSlot n r).slots = s.slots ∧ (s.putSlot n r).alternation = s.alternation ∧
    (s.putSlot n r).axes = s.axes ∧ (s.putSlot n r).head = s.head ∧
    (s.putSlot n r).drive = s.drive ∧ (s.putSlot n r).machine = s.machine ∧
    (s.putSlot n r).alarms = s.alarms ∧ (s.putSlot n r).port = s.port ∧
    (s.putSlot n r).settings = s.settings ∧ (s.putSlot n r).inputs = s.inputs ∧
    (s.putSlot n r).outputs = s.outputs ∧ (s.putSlot n r).freeCount = s.freeCount ∧
    (s.putSlot n r).pending = s.pending := by
  refine ⟨rfl, rfl, rfl, rfl, rfl, rfl, rfl, rfl, rfl, rfl, rfl,
    rfl, rfl, rfl, rfl, rfl, rfl, rfl, rfl, rfl, rfl⟩

@[simp] theorem State.putBoard_frame (s : State) (p : Parity) (b : BoardRecord) :
    (s.putBoard p b).table = s.table ∧ (s.putBoard p b).nextNumber = s.nextNumber ∧
    (s.putBoard p b).runCounter = s.runCounter ∧ (s.putBoard p b).exchange = s.exchange ∧
    (s.putBoard p b).stations = s.stations ∧ (s.putBoard p b).stretch = s.stretch ∧
    (s.putBoard p b).chain = s.chain ∧ (s.putBoard p b).conditions = s.conditions ∧
    (s.putBoard p b).slots = s.slots ∧ (s.putBoard p b).alternation = s.alternation ∧
    (s.putBoard p b).axes = s.axes ∧ (s.putBoard p b).head = s.head ∧
    (s.putBoard p b).drive = s.drive ∧ (s.putBoard p b).machine = s.machine ∧
    (s.putBoard p b).alarms = s.alarms ∧ (s.putBoard p b).port = s.port ∧
    (s.putBoard p b).settings = s.settings ∧ (s.putBoard p b).inputs = s.inputs ∧
    (s.putBoard p b).outputs = s.outputs ∧ (s.putBoard p b).freeCount = s.freeCount ∧
    (s.putBoard p b).pending = s.pending := by
  refine ⟨rfl, rfl, rfl, rfl, rfl, rfl, rfl, rfl, rfl, rfl, rfl,
    rfl, rfl, rfl, rfl, rfl, rfl, rfl, rfl, rfl, rfl⟩

@[simp] theorem State.putStation_frame (s : State) (k : Nat) (st : Station) :
    (s.putStation k st).table = s.table ∧ (s.putStation k st).boards = s.boards ∧
    (s.putStation k st).nextNumber = s.nextNumber ∧ (s.putStation k st).runCounter = s.runCounter ∧
    (s.putStation k st).exchange = s.exchange ∧ (s.putStation k st).stretch = s.stretch ∧
    (s.putStation k st).chain = s.chain ∧ (s.putStation k st).conditions = s.conditions ∧
    (s.putStation k st).slots = s.slots ∧ (s.putStation k st).alternation = s.alternation ∧
    (s.putStation k st).axes = s.axes ∧ (s.putStation k st).head = s.head ∧
    (s.putStation k st).drive = s.drive ∧ (s.putStation k st).machine = s.machine ∧
    (s.putStation k st).alarms = s.alarms ∧ (s.putStation k st).port = s.port ∧
    (s.putStation k st).settings = s.settings ∧ (s.putStation k st).inputs = s.inputs ∧
    (s.putStation k st).outputs = s.outputs ∧ (s.putStation k st).freeCount = s.freeCount ∧
    (s.putStation k st).pending = s.pending := by
  unfold State.putStation; split <;> simp

@[simp] theorem State.putClip_frame (s : State) (p : Nat) (c : Clip) :
    (s.putClip p c).table = s.table ∧ (s.putClip p c).boards = s.boards ∧
    (s.putClip p c).nextNumber = s.nextNumber ∧ (s.putClip p c).runCounter = s.runCounter ∧
    (s.putClip p c).exchange = s.exchange ∧ (s.putClip p c).stations = s.stations ∧
    (s.putClip p c).chain = s.chain ∧ (s.putClip p c).conditions = s.conditions ∧
    (s.putClip p c).slots = s.slots ∧ (s.putClip p c).alternation = s.alternation ∧
    (s.putClip p c).axes = s.axes ∧ (s.putClip p c).head = s.head ∧
    (s.putClip p c).drive = s.drive ∧ (s.putClip p c).machine = s.machine ∧
    (s.putClip p c).alarms = s.alarms ∧ (s.putClip p c).port = s.port ∧
    (s.putClip p c).settings = s.settings ∧ (s.putClip p c).inputs = s.inputs ∧
    (s.putClip p c).outputs = s.outputs ∧ (s.putClip p c).freeCount = s.freeCount ∧
    (s.putClip p c).pending = s.pending := by
  refine ⟨rfl, rfl, rfl, rfl, rfl, rfl, rfl, rfl, rfl, rfl, rfl,
    rfl, rfl, rfl, rfl, rfl, rfl, rfl, rfl, rfl, rfl⟩

@[simp] theorem State.putCondition_frame (s : State) (id : Nat) (c : ClipCondition) :
    (s.putCondition id c).table = s.table ∧ (s.putCondition id c).boards = s.boards ∧
    (s.putCondition id c).nextNumber = s.nextNumber ∧
    (s.putCondition id c).runCounter = s.runCounter ∧ (s.putCondition id c).exchange = s.exchange ∧
    (s.putCondition id c).stations = s.stations ∧ (s.putCondition id c).stretch = s.stretch ∧
    (s.putCondition id c).chain = s.chain ∧ (s.putCondition id c).slots = s.slots ∧
    (s.putCondition id c).alternation = s.alternation ∧ (s.putCondition id c).axes = s.axes ∧
    (s.putCondition id c).head = s.head ∧ (s.putCondition id c).drive = s.drive ∧
    (s.putCondition id c).machine = s.machine ∧ (s.putCondition id c).alarms = s.alarms ∧
    (s.putCondition id c).port = s.port ∧ (s.putCondition id c).settings = s.settings ∧
    (s.putCondition id c).inputs = s.inputs ∧ (s.putCondition id c).outputs = s.outputs ∧
    (s.putCondition id c).freeCount = s.freeCount ∧ (s.putCondition id c).pending = s.pending := by
  refine ⟨rfl, rfl, rfl, rfl, rfl, rfl, rfl, rfl, rfl, rfl, rfl,
    rfl, rfl, rfl, rfl, rfl, rfl, rfl, rfl, rfl, rfl⟩

@[simp] theorem State.putMoveSlot_frame (s : State) (p : Parity) (m : MoveSlot) :
    (s.putMoveSlot p m).table = s.table ∧ (s.putMoveSlot p m).boards = s.boards ∧
    (s.putMoveSlot p m).nextNumber = s.nextNumber ∧ (s.putMoveSlot p m).runCounter = s.runCounter ∧
    (s.putMoveSlot p m).exchange = s.exchange ∧ (s.putMoveSlot p m).stations = s.stations ∧
    (s.putMoveSlot p m).stretch = s.stretch ∧ (s.putMoveSlot p m).chain = s.chain ∧
    (s.putMoveSlot p m).conditions = s.conditions ∧
    (s.putMoveSlot p m).alternation = s.alternation ∧ (s.putMoveSlot p m).axes = s.axes ∧
    (s.putMoveSlot p m).head = s.head ∧ (s.putMoveSlot p m).drive = s.drive ∧
    (s.putMoveSlot p m).machine = s.machine ∧ (s.putMoveSlot p m).alarms = s.alarms ∧
    (s.putMoveSlot p m).port = s.port ∧ (s.putMoveSlot p m).settings = s.settings ∧
    (s.putMoveSlot p m).inputs = s.inputs ∧ (s.putMoveSlot p m).outputs = s.outputs ∧
    (s.putMoveSlot p m).freeCount = s.freeCount ∧ (s.putMoveSlot p m).pending = s.pending := by
  refine ⟨rfl, rfl, rfl, rfl, rfl, rfl, rfl, rfl, rfl, rfl, rfl,
    rfl, rfl, rfl, rfl, rfl, rfl, rfl, rfl, rfl, rfl⟩

@[simp] theorem State.putAxis_frame (s : State) (a : Axis) (r : AxisRecord) :
    (s.putAxis a r).table = s.table ∧ (s.putAxis a r).boards = s.boards ∧
    (s.putAxis a r).nextNumber = s.nextNumber ∧ (s.putAxis a r).runCounter = s.runCounter ∧
    (s.putAxis a r).exchange = s.exchange ∧ (s.putAxis a r).stations = s.stations ∧
    (s.putAxis a r).stretch = s.stretch ∧ (s.putAxis a r).chain = s.chain ∧
    (s.putAxis a r).conditions = s.conditions ∧ (s.putAxis a r).slots = s.slots ∧
    (s.putAxis a r).alternation = s.alternation ∧ (s.putAxis a r).head = s.head ∧
    (s.putAxis a r).drive = s.drive ∧ (s.putAxis a r).machine = s.machine ∧
    (s.putAxis a r).alarms = s.alarms ∧ (s.putAxis a r).port = s.port ∧
    (s.putAxis a r).settings = s.settings ∧ (s.putAxis a r).inputs = s.inputs ∧
    (s.putAxis a r).outputs = s.outputs ∧ (s.putAxis a r).freeCount = s.freeCount ∧
    (s.putAxis a r).pending = s.pending := by
  refine ⟨rfl, rfl, rfl, rfl, rfl, rfl, rfl, rfl, rfl, rfl, rfl,
    rfl, rfl, rfl, rfl, rfl, rfl, rfl, rfl, rfl, rfl⟩

@[simp] theorem State.putAlarm_frame (s : State) (k : AlarmKind) (r : AlarmRecord) :
    (s.putAlarm k r).table = s.table ∧ (s.putAlarm k r).boards = s.boards ∧
    (s.putAlarm k r).nextNumber = s.nextNumber ∧ (s.putAlarm k r).runCounter = s.runCounter ∧
    (s.putAlarm k r).exchange = s.exchange ∧ (s.putAlarm k r).stations = s.stations ∧
    (s.putAlarm k r).stretch = s.stretch ∧ (s.putAlarm k r).chain = s.chain ∧
    (s.putAlarm k r).conditions = s.conditions ∧ (s.putAlarm k r).slots = s.slots ∧
    (s.putAlarm k r).alternation = s.alternation ∧ (s.putAlarm k r).axes = s.axes ∧
    (s.putAlarm k r).head = s.head ∧ (s.putAlarm k r).drive = s.drive ∧
    (s.putAlarm k r).machine = s.machine ∧ (s.putAlarm k r).port = s.port ∧
    (s.putAlarm k r).settings = s.settings ∧ (s.putAlarm k r).inputs = s.inputs ∧
    (s.putAlarm k r).outputs = s.outputs ∧ (s.putAlarm k r).freeCount = s.freeCount ∧
    (s.putAlarm k r).pending = s.pending := by
  refine ⟨rfl, rfl, rfl, rfl, rfl, rfl, rfl, rfl, rfl, rfl, rfl,
    rfl, rfl, rfl, rfl, rfl, rfl, rfl, rfl, rfl, rfl⟩

@[simp] theorem State.replied_frame (s : State)
    (cmd : Byte) (code : ReplyCode) (payload : List Byte) :
    (s.replied cmd code payload).table = s.table ∧ (s.replied cmd code payload).boards = s.boards ∧
    (s.replied cmd code payload).nextNumber = s.nextNumber ∧
    (s.replied cmd code payload).runCounter = s.runCounter ∧
    (s.replied cmd code payload).exchange = s.exchange ∧
    (s.replied cmd code payload).stations = s.stations ∧
    (s.replied cmd code payload).stretch = s.stretch ∧
    (s.replied cmd code payload).chain = s.chain ∧
    (s.replied cmd code payload).conditions = s.conditions ∧
    (s.replied cmd code payload).slots = s.slots ∧
    (s.replied cmd code payload).alternation = s.alternation ∧
    (s.replied cmd code payload).axes = s.axes ∧ (s.replied cmd code payload).head = s.head ∧
    (s.replied cmd code payload).drive = s.drive ∧
    (s.replied cmd code payload).machine = s.machine ∧
    (s.replied cmd code payload).alarms = s.alarms ∧
    (s.replied cmd code payload).settings = s.settings ∧
    (s.replied cmd code payload).inputs = s.inputs ∧
    (s.replied cmd code payload).outputs = s.outputs ∧
    (s.replied cmd code payload).pending = s.pending := by
  refine ⟨rfl, rfl, rfl, rfl, rfl, rfl, rfl, rfl, rfl, rfl, rfl,
    rfl, rfl, rfl, rfl, rfl, rfl, rfl, rfl, rfl⟩

@[simp] theorem State.putSettings_frame (s : State) (g : Settings) :
    (s.putSettings g).table = s.table ∧ (s.putSettings g).boards = s.boards ∧
    (s.putSettings g).nextNumber = s.nextNumber ∧ (s.putSettings g).runCounter = s.runCounter ∧
    (s.putSettings g).exchange = s.exchange ∧ (s.putSettings g).stations = s.stations ∧
    (s.putSettings g).stretch = s.stretch ∧ (s.putSettings g).chain = s.chain ∧
    (s.putSettings g).conditions = s.conditions ∧ (s.putSettings g).slots = s.slots ∧
    (s.putSettings g).alternation = s.alternation ∧ (s.putSettings g).axes = s.axes ∧
    (s.putSettings g).head = s.head ∧ (s.putSettings g).drive = s.drive ∧
    (s.putSettings g).machine = s.machine ∧ (s.putSettings g).alarms = s.alarms ∧
    (s.putSettings g).port = s.port ∧ (s.putSettings g).inputs = s.inputs ∧
    (s.putSettings g).outputs = s.outputs ∧ (s.putSettings g).freeCount = s.freeCount ∧
    (s.putSettings g).pending = s.pending := by
  refine ⟨rfl, rfl, rfl, rfl, rfl, rfl, rfl, rfl, rfl, rfl, rfl,
    rfl, rfl, rfl, rfl, rfl, rfl, rfl, rfl, rfl, rfl⟩

@[simp] theorem State.putAxisSettings_frame (s : State) (a : Axis) (g : AxisSettings) :
    (s.putAxisSettings a g).table = s.table ∧ (s.putAxisSettings a g).boards = s.boards ∧
    (s.putAxisSettings a g).nextNumber = s.nextNumber ∧
    (s.putAxisSettings a g).runCounter = s.runCounter ∧
    (s.putAxisSettings a g).exchange = s.exchange ∧ (s.putAxisSettings a g).stations = s.stations ∧
    (s.putAxisSettings a g).stretch = s.stretch ∧ (s.putAxisSettings a g).chain = s.chain ∧
    (s.putAxisSettings a g).conditions = s.conditions ∧ (s.putAxisSettings a g).slots = s.slots ∧
    (s.putAxisSettings a g).alternation = s.alternation ∧ (s.putAxisSettings a g).axes = s.axes ∧
    (s.putAxisSettings a g).head = s.head ∧ (s.putAxisSettings a g).drive = s.drive ∧
    (s.putAxisSettings a g).machine = s.machine ∧ (s.putAxisSettings a g).alarms = s.alarms ∧
    (s.putAxisSettings a g).port = s.port ∧ (s.putAxisSettings a g).inputs = s.inputs ∧
    (s.putAxisSettings a g).outputs = s.outputs ∧ (s.putAxisSettings a g).freeCount = s.freeCount ∧
    (s.putAxisSettings a g).pending = s.pending := by
  refine ⟨rfl, rfl, rfl, rfl, rfl, rfl, rfl, rfl, rfl, rfl, rfl,
    rfl, rfl, rfl, rfl, rfl, rfl, rfl, rfl, rfl, rfl⟩

@[simp] theorem State.putStroke_frame (s : State) (g : StrokeSettings) :
    (s.putStroke g).table = s.table ∧ (s.putStroke g).boards = s.boards ∧
    (s.putStroke g).nextNumber = s.nextNumber ∧ (s.putStroke g).runCounter = s.runCounter ∧
    (s.putStroke g).exchange = s.exchange ∧ (s.putStroke g).stations = s.stations ∧
    (s.putStroke g).stretch = s.stretch ∧ (s.putStroke g).chain = s.chain ∧
    (s.putStroke g).conditions = s.conditions ∧ (s.putStroke g).slots = s.slots ∧
    (s.putStroke g).alternation = s.alternation ∧ (s.putStroke g).axes = s.axes ∧
    (s.putStroke g).head = s.head ∧ (s.putStroke g).drive = s.drive ∧
    (s.putStroke g).machine = s.machine ∧ (s.putStroke g).alarms = s.alarms ∧
    (s.putStroke g).port = s.port ∧ (s.putStroke g).inputs = s.inputs ∧
    (s.putStroke g).outputs = s.outputs ∧ (s.putStroke g).freeCount = s.freeCount ∧
    (s.putStroke g).pending = s.pending := by
  refine ⟨rfl, rfl, rfl, rfl, rfl, rfl, rfl, rfl, rfl, rfl, rfl,
    rfl, rfl, rfl, rfl, rfl, rfl, rfl, rfl, rfl, rfl⟩

@[simp] theorem State.setClamped_frame (s : State) (b : Bool) :
    (s.setClamped b).table = s.table ∧ (s.setClamped b).boards = s.boards ∧
    (s.setClamped b).nextNumber = s.nextNumber ∧ (s.setClamped b).runCounter = s.runCounter ∧
    (s.setClamped b).exchange = s.exchange ∧ (s.setClamped b).stations = s.stations ∧
    (s.setClamped b).stretch = s.stretch ∧ (s.setClamped b).chain = s.chain ∧
    (s.setClamped b).conditions = s.conditions ∧ (s.setClamped b).slots = s.slots ∧
    (s.setClamped b).alternation = s.alternation ∧ (s.setClamped b).axes = s.axes ∧
    (s.setClamped b).head = s.head ∧ (s.setClamped b).drive = s.drive ∧
    (s.setClamped b).machine = s.machine ∧ (s.setClamped b).alarms = s.alarms ∧
    (s.setClamped b).port = s.port ∧ (s.setClamped b).settings = s.settings ∧
    (s.setClamped b).outputs = s.outputs ∧ (s.setClamped b).freeCount = s.freeCount ∧
    (s.setClamped b).pending = s.pending := by
  refine ⟨rfl, rfl, rfl, rfl, rfl, rfl, rfl, rfl, rfl, rfl, rfl,
    rfl, rfl, rfl, rfl, rfl, rfl, rfl, rfl, rfl, rfl⟩

@[simp] theorem State.setOvertemp_frame (s : State) (b : Bool) :
    (s.setOvertemp b).table = s.table ∧ (s.setOvertemp b).boards = s.boards ∧
    (s.setOvertemp b).nextNumber = s.nextNumber ∧ (s.setOvertemp b).runCounter = s.runCounter ∧
    (s.setOvertemp b).exchange = s.exchange ∧ (s.setOvertemp b).stations = s.stations ∧
    (s.setOvertemp b).stretch = s.stretch ∧ (s.setOvertemp b).chain = s.chain ∧
    (s.setOvertemp b).conditions = s.conditions ∧ (s.setOvertemp b).slots = s.slots ∧
    (s.setOvertemp b).alternation = s.alternation ∧ (s.setOvertemp b).axes = s.axes ∧
    (s.setOvertemp b).head = s.head ∧ (s.setOvertemp b).drive = s.drive ∧
    (s.setOvertemp b).machine = s.machine ∧ (s.setOvertemp b).alarms = s.alarms ∧
    (s.setOvertemp b).port = s.port ∧ (s.setOvertemp b).settings = s.settings ∧
    (s.setOvertemp b).outputs = s.outputs ∧ (s.setOvertemp b).freeCount = s.freeCount ∧
    (s.setOvertemp b).pending = s.pending := by
  refine ⟨rfl, rfl, rfl, rfl, rfl, rfl, rfl, rfl, rfl, rfl, rfl,
    rfl, rfl, rfl, rfl, rfl, rfl, rfl, rfl, rfl, rfl⟩

@[simp] theorem State.setSupply_frame (s : State) (b : Bool) :
    (s.setSupply b).table = s.table ∧ (s.setSupply b).boards = s.boards ∧
    (s.setSupply b).nextNumber = s.nextNumber ∧ (s.setSupply b).runCounter = s.runCounter ∧
    (s.setSupply b).exchange = s.exchange ∧ (s.setSupply b).stations = s.stations ∧
    (s.setSupply b).stretch = s.stretch ∧ (s.setSupply b).chain = s.chain ∧
    (s.setSupply b).conditions = s.conditions ∧ (s.setSupply b).slots = s.slots ∧
    (s.setSupply b).alternation = s.alternation ∧ (s.setSupply b).axes = s.axes ∧
    (s.setSupply b).head = s.head ∧ (s.setSupply b).drive = s.drive ∧
    (s.setSupply b).machine = s.machine ∧ (s.setSupply b).alarms = s.alarms ∧
    (s.setSupply b).port = s.port ∧ (s.setSupply b).settings = s.settings ∧
    (s.setSupply b).outputs = s.outputs ∧ (s.setSupply b).freeCount = s.freeCount ∧
    (s.setSupply b).pending = s.pending := by
  refine ⟨rfl, rfl, rfl, rfl, rfl, rfl, rfl, rfl, rfl, rfl, rfl,
    rfl, rfl, rfl, rfl, rfl, rfl, rfl, rfl, rfl, rfl⟩

@[simp] theorem State.setStopN_frame (s : State) (b : Bool) :
    (s.setStopN b).table = s.table ∧ (s.setStopN b).boards = s.boards ∧
    (s.setStopN b).nextNumber = s.nextNumber ∧ (s.setStopN b).runCounter = s.runCounter ∧
    (s.setStopN b).exchange = s.exchange ∧ (s.setStopN b).stations = s.stations ∧
    (s.setStopN b).stretch = s.stretch ∧ (s.setStopN b).chain = s.chain ∧
    (s.setStopN b).conditions = s.conditions ∧ (s.setStopN b).slots = s.slots ∧
    (s.setStopN b).alternation = s.alternation ∧ (s.setStopN b).axes = s.axes ∧
    (s.setStopN b).head = s.head ∧ (s.setStopN b).drive = s.drive ∧
    (s.setStopN b).machine = s.machine ∧ (s.setStopN b).alarms = s.alarms ∧
    (s.setStopN b).port = s.port ∧ (s.setStopN b).settings = s.settings ∧
    (s.setStopN b).outputs = s.outputs ∧ (s.setStopN b).freeCount = s.freeCount ∧
    (s.setStopN b).pending = s.pending := by
  refine ⟨rfl, rfl, rfl, rfl, rfl, rfl, rfl, rfl, rfl, rfl, rfl,
    rfl, rfl, rfl, rfl, rfl, rfl, rfl, rfl, rfl, rfl⟩

@[simp] theorem State.enter_frame (s : State) (m : MachineState) :
    (s.enter m).table = s.table ∧ (s.enter m).boards = s.boards ∧
    (s.enter m).nextNumber = s.nextNumber ∧ (s.enter m).runCounter = s.runCounter ∧
    (s.enter m).exchange = s.exchange ∧ (s.enter m).stations = s.stations ∧
    (s.enter m).stretch = s.stretch ∧ (s.enter m).chain = s.chain ∧
    (s.enter m).conditions = s.conditions ∧ (s.enter m).slots = s.slots ∧
    (s.enter m).alternation = s.alternation ∧ (s.enter m).axes = s.axes ∧
    (s.enter m).head = s.head ∧ (s.enter m).drive = s.drive ∧ (s.enter m).alarms = s.alarms ∧
    (s.enter m).port = s.port ∧ (s.enter m).settings = s.settings ∧ (s.enter m).inputs = s.inputs ∧
    (s.enter m).outputs = s.outputs ∧ (s.enter m).freeCount = s.freeCount ∧
    (s.enter m).pending = s.pending := by
  refine ⟨rfl, rfl, rfl, rfl, rfl, rfl, rfl, rfl, rfl, rfl, rfl,
    rfl, rfl, rfl, rfl, rfl, rfl, rfl, rfl, rfl, rfl⟩

/-! ## Readers after writers -/

@[simp] theorem Pair.get_put {α : Type} (q : Pair α) (p r : Parity) (v : α) :
    (q.put p v).get r = if r = p then v else q.get r := by
  cases p <;> cases r <;> rfl

@[simp] theorem Pair.get_map {α β : Type} (q : Pair α) (f : α → β) (p : Parity) :
    (q.map f).get p = f (q.get p) := by cases p <;> rfl

@[simp] theorem Quad.get_put {α : Type} (q : Quad α) (a b : Axis) (v : α) :
    (q.put a v).get b = if b = a then v else q.get b := by
  cases a <;> cases b <;> rfl

@[simp] theorem Quad.get_map {α β : Type} (q : Quad α) (f : α → β) (a : Axis) :
    (q.map f).get a = f (q.get a) := by cases a <;> rfl

theorem Quad.all_eq_true {α : Type} (q : Quad α) (f : α → Bool) :
    q.all f = true ↔ ∀ a : Axis, f (q.get a) = true := by
  constructor
  · intro h a
    cases a <;> simp_all [Quad.all, Quad.get]
  · intro h
    have hx := h .x; have hy := h .y; have hr := h .r; have hs := h .s
    simp_all [Quad.all, Quad.get]

@[simp] theorem PerKind.get_put {α : Type} (t : PerKind α) (k l : AlarmKind) (v : α) :
    (t.put k v).get l = if l = k then v else t.get l := by
  cases k <;> cases l <;> rfl

@[simp] theorem PerKind.get_map {α β : Type} (t : PerKind α) (f : α → β) (k : AlarmKind) :
    (t.map f).get k = f (t.get k) := by cases k <;> rfl

@[simp] theorem PerKind.put_get {α : Type} (t : PerKind α) (k : AlarmKind) :
    t.put k (t.get k) = t := by cases k <;> rfl

@[simp] theorem State.board_putBoard (s : State) (p q : Parity) (b : BoardRecord) :
    (s.putBoard p b).board q = if q = p then b else s.board q := Pair.get_put ..

@[simp] theorem State.moveSlot_putMoveSlot (s : State) (p q : Parity) (m : MoveSlot) :
    (s.putMoveSlot p m).moveSlot q = if q = p then m else s.moveSlot q := Pair.get_put ..

@[simp] theorem State.axis_putAxis (s : State) (a b : Axis) (r : AxisRecord) :
    (s.putAxis a r).axis b = if b = a then r else s.axis b := Quad.get_put ..

@[simp] theorem State.alarm_putAlarm (s : State) (k l : AlarmKind) (r : AlarmRecord) :
    (s.putAlarm k r).alarm l = if l = k then r else s.alarm l := PerKind.get_put ..

@[simp] theorem State.putAlarm_alarm (s : State) (k : AlarmKind) : s.putAlarm k (s.alarm k) = s := by
  simp [State.putAlarm, State.alarm]

@[simp] theorem State.length_table_putSlot (s : State) (n : Nat) (r : Option Placement) :
    (s.putSlot n r).table.length = s.table.length := by simp [State.putSlot]

@[simp] theorem State.length_stretch_putClip (s : State) (p : Nat) (c : Clip) :
    (s.putClip p c).stretch.length = s.stretch.length := by simp [State.putClip]

@[simp] theorem State.length_conditions_putCondition (s : State) (n : Nat) (c : ClipCondition) :
    (s.putCondition n c).conditions.length = s.conditions.length := by simp [State.putCondition]

@[simp] theorem State.length_stations_putStation (s : State) (k : Nat) (st : Station) :
    (s.putStation k st).stations.length = s.stations.length := by
  unfold State.putStation; split <;> simp

theorem State.slot?_putSlot (s : State) (n m : Nat) (r : Option Placement) :
    (s.putSlot n r).slot? m = if n = m ∧ n < s.table.length then r else s.slot? m := by
  simp only [State.slot?, State.putSlot, List.getElem?_set]
  split
  · split <;> simp_all
  · simp_all

theorem State.clip_putClip (s : State) (p q : Nat) (c : Clip) :
    (s.putClip p c).clip q = if p = q ∧ p < s.stretch.length then c else s.clip q := by
  simp only [State.clip, State.putClip, List.getD_eq_getElem?_getD, List.getElem?_set]
  split
  · split <;> simp_all
  · simp_all

theorem State.station?_putStation (s : State) (k j : Nat) (st : Station) :
    (s.putStation k st).station? j =
      if k = j ∧ 1 ≤ k ∧ k ≤ s.stations.length then some st else s.station? j := by
  unfold State.putStation State.station?
  rcases Nat.eq_zero_or_pos k with hk | hk
  · simp [hk]
  · rcases Nat.eq_zero_or_pos j with hj | hj
    · have : k ≠ j := by omega
      simp [hj]; omega
    · have hk0 : k ≠ 0 := by omega
      have hj0 : j ≠ 0 := by omega
      simp only [hk0, hj0, if_false, List.getElem?_set]
      by_cases h : k = j
      · subst h
        by_cases h2 : k - 1 < s.stations.length
        · simp [h2]; omega
        · have : ¬ k ≤ s.stations.length := by omega
          simp [h2, this]
      · have : ¬ k - 1 = j - 1 := by omega
        simp [h, this]

theorem State.condition_putCondition (s : State) (n m : Nat) (c : ClipCondition) :
    (s.putCondition n c).condition m =
      if n = m ∧ n < s.conditions.length then c else s.condition m := by
  simp only [State.condition, State.putCondition, List.getD_eq_getElem?_getD, List.getElem?_set]
  split
  · split <;> simp_all
  · simp_all

/-- A fold keeps what every step of it keeps. -/
theorem foldl_keeps {α β : Type} (f : State → α → State) (g : State → β)
    (h : ∀ s a, g (f s a) = g s) (l : List α) (s : State) : g (l.foldl f s) = g s := by
  induction l generalizing s with
  | nil => rfl
  | cons a l ih => rw [List.foldl_cons, ih, h]

end Sys2Proof.Machine
end

