-- ==== Sys2Proof/Laws/Frames.lean ====
section
/-! SUPPORT. The frame of each shared operation: the fields of State that it leaves as they were. What
the operations do to the fields they change stands in Laws/Operations.lean. -/

namespace Sys2Proof.Machine

@[simp] theorem State.evalPhase_frame (s : State) (p : Parity) :
    (s.evalPhase p).table = s.table ∧ (s.evalPhase p).nextNumber = s.nextNumber ∧
    (s.evalPhase p).runCounter = s.runCounter ∧ (s.evalPhase p).exchange = s.exchange ∧
    (s.evalPhase p).stations = s.stations ∧ (s.evalPhase p).stretch = s.stretch ∧
    (s.evalPhase p).chain = s.chain ∧ (s.evalPhase p).conditions = s.conditions ∧
    (s.evalPhase p).slots = s.slots ∧ (s.evalPhase p).alternation = s.alternation ∧
    (s.evalPhase p).axes = s.axes ∧ (s.evalPhase p).head = s.head ∧
    (s.evalPhase p).drive = s.drive ∧ (s.evalPhase p).machine = s.machine ∧
    (s.evalPhase p).alarms = s.alarms ∧ (s.evalPhase p).port = s.port ∧
    (s.evalPhase p).settings = s.settings ∧ (s.evalPhase p).inputs = s.inputs ∧
    (s.evalPhase p).outputs = s.outputs ∧ (s.evalPhase p).freeCount = s.freeCount ∧
    (s.evalPhase p).pending = s.pending := by
  unfold State.evalPhase; (repeat' split) <;> simp

@[simp] theorem State.report_frame (s : State) (p : Parity) (r : Report) :
    (s.report p r).table = s.table ∧ (s.report p r).nextNumber = s.nextNumber ∧
    (s.report p r).runCounter = s.runCounter ∧ (s.report p r).exchange = s.exchange ∧
    (s.report p r).stations = s.stations ∧ (s.report p r).stretch = s.stretch ∧
    (s.report p r).chain = s.chain ∧ (s.report p r).conditions = s.conditions ∧
    (s.report p r).slots = s.slots ∧ (s.report p r).alternation = s.alternation ∧
    (s.report p r).axes = s.axes ∧ (s.report p r).head = s.head ∧ (s.report p r).drive = s.drive ∧
    (s.report p r).machine = s.machine ∧ (s.report p r).alarms = s.alarms ∧
    (s.report p r).port = s.port ∧ (s.report p r).settings = s.settings ∧
    (s.report p r).inputs = s.inputs ∧ (s.report p r).outputs = s.outputs ∧
    (s.report p r).freeCount = s.freeCount ∧ (s.report p r).pending = s.pending := by
  unfold State.report; simp

@[simp] theorem State.modifyStatus_frame (s : State)
    (n : Nat) (p : Parity) (f : StatusSlot → StatusSlot) :
    (s.modifyStatus n p f).boards = s.boards ∧ (s.modifyStatus n p f).nextNumber = s.nextNumber ∧
    (s.modifyStatus n p f).runCounter = s.runCounter ∧
    (s.modifyStatus n p f).exchange = s.exchange ∧ (s.modifyStatus n p f).stations = s.stations ∧
    (s.modifyStatus n p f).stretch = s.stretch ∧ (s.modifyStatus n p f).chain = s.chain ∧
    (s.modifyStatus n p f).conditions = s.conditions ∧ (s.modifyStatus n p f).slots = s.slots ∧
    (s.modifyStatus n p f).alternation = s.alternation ∧ (s.modifyStatus n p f).axes = s.axes ∧
    (s.modifyStatus n p f).head = s.head ∧ (s.modifyStatus n p f).drive = s.drive ∧
    (s.modifyStatus n p f).machine = s.machine ∧ (s.modifyStatus n p f).alarms = s.alarms ∧
    (s.modifyStatus n p f).port = s.port ∧ (s.modifyStatus n p f).settings = s.settings ∧
    (s.modifyStatus n p f).inputs = s.inputs ∧ (s.modifyStatus n p f).outputs = s.outputs ∧
    (s.modifyStatus n p f).freeCount = s.freeCount ∧ (s.modifyStatus n p f).pending = s.pending := by
  unfold State.modifyStatus; (repeat' split) <;> simp

@[simp] theorem State.grantHold_frame (s : State) (n : Nat) :
    (s.grantHold n).boards = s.boards ∧ (s.grantHold n).nextNumber = s.nextNumber ∧
    (s.grantHold n).runCounter = s.runCounter ∧ (s.grantHold n).exchange = s.exchange ∧
    (s.grantHold n).stations = s.stations ∧ (s.grantHold n).stretch = s.stretch ∧
    (s.grantHold n).chain = s.chain ∧ (s.grantHold n).conditions = s.conditions ∧
    (s.grantHold n).slots = s.slots ∧ (s.grantHold n).alternation = s.alternation ∧
    (s.grantHold n).axes = s.axes ∧ (s.grantHold n).head = s.head ∧
    (s.grantHold n).drive = s.drive ∧ (s.grantHold n).machine = s.machine ∧
    (s.grantHold n).alarms = s.alarms ∧ (s.grantHold n).port = s.port ∧
    (s.grantHold n).settings = s.settings ∧ (s.grantHold n).inputs = s.inputs ∧
    (s.grantHold n).outputs = s.outputs ∧ (s.grantHold n).freeCount = s.freeCount ∧
    (s.grantHold n).pending = s.pending := by
  unfold State.grantHold; (repeat' split) <;> simp

@[simp] theorem State.request_frame (s : State)
    (n : Nat) (p : Parity) (f : StatusSlot → StatusSlot) (r : Report) :
    (s.request n p f r).nextNumber = s.nextNumber ∧ (s.request n p f r).runCounter = s.runCounter ∧
    (s.request n p f r).exchange = s.exchange ∧ (s.request n p f r).stations = s.stations ∧
    (s.request n p f r).stretch = s.stretch ∧ (s.request n p f r).chain = s.chain ∧
    (s.request n p f r).conditions = s.conditions ∧ (s.request n p f r).slots = s.slots ∧
    (s.request n p f r).alternation = s.alternation ∧ (s.request n p f r).axes = s.axes ∧
    (s.request n p f r).head = s.head ∧ (s.request n p f r).drive = s.drive ∧
    (s.request n p f r).machine = s.machine ∧ (s.request n p f r).alarms = s.alarms ∧
    (s.request n p f r).port = s.port ∧ (s.request n p f r).settings = s.settings ∧
    (s.request n p f r).inputs = s.inputs ∧ (s.request n p f r).outputs = s.outputs ∧
    (s.request n p f r).freeCount = s.freeCount ∧ (s.request n p f r).pending = s.pending := by
  unfold State.request; (repeat' split) <;> simp

@[simp] theorem State.callRequest_frame (s : State) (n : Nat) (p : Parity) :
    (s.callRequest n p).nextNumber = s.nextNumber ∧ (s.callRequest n p).runCounter = s.runCounter ∧
    (s.callRequest n p).exchange = s.exchange ∧ (s.callRequest n p).stations = s.stations ∧
    (s.callRequest n p).stretch = s.stretch ∧ (s.callRequest n p).chain = s.chain ∧
    (s.callRequest n p).conditions = s.conditions ∧ (s.callRequest n p).slots = s.slots ∧
    (s.callRequest n p).alternation = s.alternation ∧ (s.callRequest n p).axes = s.axes ∧
    (s.callRequest n p).head = s.head ∧ (s.callRequest n p).drive = s.drive ∧
    (s.callRequest n p).machine = s.machine ∧ (s.callRequest n p).alarms = s.alarms ∧
    (s.callRequest n p).port = s.port ∧ (s.callRequest n p).settings = s.settings ∧
    (s.callRequest n p).inputs = s.inputs ∧ (s.callRequest n p).outputs = s.outputs ∧
    (s.callRequest n p).freeCount = s.freeCount ∧ (s.callRequest n p).pending = s.pending := by
  unfold State.callRequest; simp

@[simp] theorem State.recallUncounted_frame (s : State) (n : Nat) (p : Parity) :
    (s.recallUncounted n p).nextNumber = s.nextNumber ∧
    (s.recallUncounted n p).runCounter = s.runCounter ∧
    (s.recallUncounted n p).exchange = s.exchange ∧ (s.recallUncounted n p).stations = s.stations ∧
    (s.recallUncounted n p).stretch = s.stretch ∧ (s.recallUncounted n p).chain = s.chain ∧
    (s.recallUncounted n p).conditions = s.conditions ∧ (s.recallUncounted n p).slots = s.slots ∧
    (s.recallUncounted n p).alternation = s.alternation ∧ (s.recallUncounted n p).axes = s.axes ∧
    (s.recallUncounted n p).head = s.head ∧ (s.recallUncounted n p).drive = s.drive ∧
    (s.recallUncounted n p).machine = s.machine ∧ (s.recallUncounted n p).alarms = s.alarms ∧
    (s.recallUncounted n p).port = s.port ∧ (s.recallUncounted n p).settings = s.settings ∧
    (s.recallUncounted n p).inputs = s.inputs ∧ (s.recallUncounted n p).outputs = s.outputs ∧
    (s.recallUncounted n p).freeCount = s.freeCount ∧ (s.recallUncounted n p).pending = s.pending := by
  unfold State.recallUncounted; simp

@[simp] theorem State.recallDeferral_frame (s : State) (n : Nat) (p : Parity) :
    (s.recallDeferral n p).nextNumber = s.nextNumber ∧
    (s.recallDeferral n p).runCounter = s.runCounter ∧
    (s.recallDeferral n p).exchange = s.exchange ∧ (s.recallDeferral n p).stations = s.stations ∧
    (s.recallDeferral n p).stretch = s.stretch ∧ (s.recallDeferral n p).chain = s.chain ∧
    (s.recallDeferral n p).conditions = s.conditions ∧ (s.recallDeferral n p).slots = s.slots ∧
    (s.recallDeferral n p).alternation = s.alternation ∧ (s.recallDeferral n p).axes = s.axes ∧
    (s.recallDeferral n p).head = s.head ∧ (s.recallDeferral n p).drive = s.drive ∧
    (s.recallDeferral n p).machine = s.machine ∧ (s.recallDeferral n p).alarms = s.alarms ∧
    (s.recallDeferral n p).port = s.port ∧ (s.recallDeferral n p).settings = s.settings ∧
    (s.recallDeferral n p).inputs = s.inputs ∧ (s.recallDeferral n p).outputs = s.outputs ∧
    (s.recallDeferral n p).freeCount = s.freeCount ∧ (s.recallDeferral n p).pending = s.pending := by
  unfold State.recallDeferral; simp

@[simp] theorem State.recallCounted_frame (s : State) (n : Nat) (p : Parity) :
    (s.recallCounted n p).nextNumber = s.nextNumber ∧
    (s.recallCounted n p).runCounter = s.runCounter ∧ (s.recallCounted n p).exchange = s.exchange ∧
    (s.recallCounted n p).stations = s.stations ∧ (s.recallCounted n p).stretch = s.stretch ∧
    (s.recallCounted n p).chain = s.chain ∧ (s.recallCounted n p).conditions = s.conditions ∧
    (s.recallCounted n p).slots = s.slots ∧ (s.recallCounted n p).alternation = s.alternation ∧
    (s.recallCounted n p).axes = s.axes ∧ (s.recallCounted n p).head = s.head ∧
    (s.recallCounted n p).drive = s.drive ∧ (s.recallCounted n p).machine = s.machine ∧
    (s.recallCounted n p).alarms = s.alarms ∧ (s.recallCounted n p).port = s.port ∧
    (s.recallCounted n p).settings = s.settings ∧ (s.recallCounted n p).inputs = s.inputs ∧
    (s.recallCounted n p).outputs = s.outputs ∧ (s.recallCounted n p).freeCount = s.freeCount ∧
    (s.recallCounted n p).pending = s.pending := by
  unfold State.recallCounted; (repeat' split) <;> simp

@[simp] theorem State.insertionRequest_frame (s : State) (n : Nat) (p : Parity) (peak : Nat) :
    (s.insertionRequest n p peak).nextNumber = s.nextNumber ∧
    (s.insertionRequest n p peak).runCounter = s.runCounter ∧
    (s.insertionRequest n p peak).exchange = s.exchange ∧
    (s.insertionRequest n p peak).stations = s.stations ∧
    (s.insertionRequest n p peak).stretch = s.stretch ∧
    (s.insertionRequest n p peak).chain = s.chain ∧
    (s.insertionRequest n p peak).conditions = s.conditions ∧
    (s.insertionRequest n p peak).slots = s.slots ∧
    (s.insertionRequest n p peak).alternation = s.alternation ∧
    (s.insertionRequest n p peak).axes = s.axes ∧ (s.insertionRequest n p peak).head = s.head ∧
    (s.insertionRequest n p peak).drive = s.drive ∧
    (s.insertionRequest n p peak).machine = s.machine ∧
    (s.insertionRequest n p peak).alarms = s.alarms ∧ (s.insertionRequest n p peak).port = s.port ∧
    (s.insertionRequest n p peak).settings = s.settings ∧
    (s.insertionRequest n p peak).inputs = s.inputs ∧
    (s.insertionRequest n p peak).outputs = s.outputs ∧
    (s.insertionRequest n p peak).freeCount = s.freeCount ∧
    (s.insertionRequest n p peak).pending = s.pending := by
  unfold State.insertionRequest; simp

@[simp] theorem State.interruptionRequest_frame (s : State) (n : Nat) (p : Parity) :
    (s.interruptionRequest n p).nextNumber = s.nextNumber ∧
    (s.interruptionRequest n p).runCounter = s.runCounter ∧
    (s.interruptionRequest n p).exchange = s.exchange ∧
    (s.interruptionRequest n p).stations = s.stations ∧
    (s.interruptionRequest n p).stretch = s.stretch ∧ (s.interruptionRequest n p).chain = s.chain ∧
    (s.interruptionRequest n p).conditions = s.conditions ∧
    (s.interruptionRequest n p).slots = s.slots ∧
    (s.interruptionRequest n p).alternation = s.alternation ∧
    (s.interruptionRequest n p).axes = s.axes ∧ (s.interruptionRequest n p).head = s.head ∧
    (s.interruptionRequest n p).drive = s.drive ∧ (s.interruptionRequest n p).machine = s.machine ∧
    (s.interruptionRequest n p).alarms = s.alarms ∧ (s.interruptionRequest n p).port = s.port ∧
    (s.interruptionRequest n p).settings = s.settings ∧
    (s.interruptionRequest n p).inputs = s.inputs ∧
    (s.interruptionRequest n p).outputs = s.outputs ∧
    (s.interruptionRequest n p).freeCount = s.freeCount ∧
    (s.interruptionRequest n p).pending = s.pending := by
  unfold State.interruptionRequest; simp

@[simp] theorem State.travelRequest_frame (s : State) (n : Nat) (p : Parity) :
    (s.travelRequest n p).nextNumber = s.nextNumber ∧
    (s.travelRequest n p).runCounter = s.runCounter ∧ (s.travelRequest n p).exchange = s.exchange ∧
    (s.travelRequest n p).stations = s.stations ∧ (s.travelRequest n p).stretch = s.stretch ∧
    (s.travelRequest n p).chain = s.chain ∧ (s.travelRequest n p).conditions = s.conditions ∧
    (s.travelRequest n p).slots = s.slots ∧ (s.travelRequest n p).alternation = s.alternation ∧
    (s.travelRequest n p).axes = s.axes ∧ (s.travelRequest n p).head = s.head ∧
    (s.travelRequest n p).drive = s.drive ∧ (s.travelRequest n p).machine = s.machine ∧
    (s.travelRequest n p).alarms = s.alarms ∧ (s.travelRequest n p).port = s.port ∧
    (s.travelRequest n p).settings = s.settings ∧ (s.travelRequest n p).inputs = s.inputs ∧
    (s.travelRequest n p).outputs = s.outputs ∧ (s.travelRequest n p).freeCount = s.freeCount ∧
    (s.travelRequest n p).pending = s.pending := by
  unfold State.travelRequest; simp

@[simp] theorem State.endCondition_frame (s : State) (k : AlarmKind) :
    (s.endCondition k).table = s.table ∧ (s.endCondition k).boards = s.boards ∧
    (s.endCondition k).nextNumber = s.nextNumber ∧ (s.endCondition k).runCounter = s.runCounter ∧
    (s.endCondition k).exchange = s.exchange ∧ (s.endCondition k).stations = s.stations ∧
    (s.endCondition k).stretch = s.stretch ∧ (s.endCondition k).chain = s.chain ∧
    (s.endCondition k).conditions = s.conditions ∧ (s.endCondition k).slots = s.slots ∧
    (s.endCondition k).alternation = s.alternation ∧ (s.endCondition k).axes = s.axes ∧
    (s.endCondition k).head = s.head ∧ (s.endCondition k).drive = s.drive ∧
    (s.endCondition k).machine = s.machine ∧ (s.endCondition k).port = s.port ∧
    (s.endCondition k).settings = s.settings ∧ (s.endCondition k).inputs = s.inputs ∧
    (s.endCondition k).outputs = s.outputs ∧ (s.endCondition k).freeCount = s.freeCount ∧
    (s.endCondition k).pending = s.pending := by
  unfold State.endCondition; simp

@[simp] theorem State.raiseRecord_frame (s : State) (k : AlarmKind) (src : Option Source) :
    (s.raiseRecord k src).table = s.table ∧ (s.raiseRecord k src).boards = s.boards ∧
    (s.raiseRecord k src).nextNumber = s.nextNumber ∧
    (s.raiseRecord k src).runCounter = s.runCounter ∧ (s.raiseRecord k src).exchange = s.exchange ∧
    (s.raiseRecord k src).stations = s.stations ∧ (s.raiseRecord k src).stretch = s.stretch ∧
    (s.raiseRecord k src).chain = s.chain ∧ (s.raiseRecord k src).conditions = s.conditions ∧
    (s.raiseRecord k src).slots = s.slots ∧ (s.raiseRecord k src).alternation = s.alternation ∧
    (s.raiseRecord k src).axes = s.axes ∧ (s.raiseRecord k src).head = s.head ∧
    (s.raiseRecord k src).drive = s.drive ∧ (s.raiseRecord k src).machine = s.machine ∧
    (s.raiseRecord k src).port = s.port ∧ (s.raiseRecord k src).settings = s.settings ∧
    (s.raiseRecord k src).inputs = s.inputs ∧ (s.raiseRecord k src).outputs = s.outputs ∧
    (s.raiseRecord k src).freeCount = s.freeCount ∧ (s.raiseRecord k src).pending = s.pending := by
  unfold State.raiseRecord; (repeat' split) <;> simp

@[simp] theorem State.markClip_frame (s : State) (p : Nat) (c : ClipState) :
    (s.markClip p c).table = s.table ∧ (s.markClip p c).boards = s.boards ∧
    (s.markClip p c).nextNumber = s.nextNumber ∧ (s.markClip p c).runCounter = s.runCounter ∧
    (s.markClip p c).exchange = s.exchange ∧ (s.markClip p c).stations = s.stations ∧
    (s.markClip p c).chain = s.chain ∧ (s.markClip p c).conditions = s.conditions ∧
    (s.markClip p c).slots = s.slots ∧ (s.markClip p c).alternation = s.alternation ∧
    (s.markClip p c).axes = s.axes ∧ (s.markClip p c).head = s.head ∧
    (s.markClip p c).drive = s.drive ∧ (s.markClip p c).machine = s.machine ∧
    (s.markClip p c).alarms = s.alarms ∧ (s.markClip p c).port = s.port ∧
    (s.markClip p c).settings = s.settings ∧ (s.markClip p c).inputs = s.inputs ∧
    (s.markClip p c).outputs = s.outputs ∧ (s.markClip p c).freeCount = s.freeCount ∧
    (s.markClip p c).pending = s.pending := by
  unfold State.markClip; simp

@[simp] theorem State.endIfNone_frame (s : State) (k : AlarmKind) (h : Station → Bool) :
    (s.endIfNone k h).table = s.table ∧ (s.endIfNone k h).boards = s.boards ∧
    (s.endIfNone k h).nextNumber = s.nextNumber ∧ (s.endIfNone k h).runCounter = s.runCounter ∧
    (s.endIfNone k h).exchange = s.exchange ∧ (s.endIfNone k h).stations = s.stations ∧
    (s.endIfNone k h).stretch = s.stretch ∧ (s.endIfNone k h).chain = s.chain ∧
    (s.endIfNone k h).conditions = s.conditions ∧ (s.endIfNone k h).slots = s.slots ∧
    (s.endIfNone k h).alternation = s.alternation ∧ (s.endIfNone k h).axes = s.axes ∧
    (s.endIfNone k h).head = s.head ∧ (s.endIfNone k h).drive = s.drive ∧
    (s.endIfNone k h).machine = s.machine ∧ (s.endIfNone k h).port = s.port ∧
    (s.endIfNone k h).settings = s.settings ∧ (s.endIfNone k h).inputs = s.inputs ∧
    (s.endIfNone k h).outputs = s.outputs ∧ (s.endIfNone k h).freeCount = s.freeCount ∧
    (s.endIfNone k h).pending = s.pending := by
  unfold State.endIfNone; (repeat' split) <;> simp

@[simp] theorem State.stationConditions_frame (s : State) :
    (s.stationConditions).table = s.table ∧ (s.stationConditions).boards = s.boards ∧
    (s.stationConditions).nextNumber = s.nextNumber ∧
    (s.stationConditions).runCounter = s.runCounter ∧ (s.stationConditions).exchange = s.exchange ∧
    (s.stationConditions).stations = s.stations ∧ (s.stationConditions).stretch = s.stretch ∧
    (s.stationConditions).chain = s.chain ∧ (s.stationConditions).conditions = s.conditions ∧
    (s.stationConditions).slots = s.slots ∧ (s.stationConditions).alternation = s.alternation ∧
    (s.stationConditions).axes = s.axes ∧ (s.stationConditions).head = s.head ∧
    (s.stationConditions).drive = s.drive ∧ (s.stationConditions).machine = s.machine ∧
    (s.stationConditions).port = s.port ∧ (s.stationConditions).settings = s.settings ∧
    (s.stationConditions).inputs = s.inputs ∧ (s.stationConditions).outputs = s.outputs ∧
    (s.stationConditions).freeCount = s.freeCount ∧ (s.stationConditions).pending = s.pending := by
  unfold State.stationConditions; simp

@[simp] theorem State.dropAt_frame (s : State) (k : Nat) :
    (s.dropAt k).nextNumber = s.nextNumber ∧ (s.dropAt k).runCounter = s.runCounter ∧
    (s.dropAt k).exchange = s.exchange ∧ (s.dropAt k).chain = s.chain ∧
    (s.dropAt k).conditions = s.conditions ∧ (s.dropAt k).slots = s.slots ∧
    (s.dropAt k).alternation = s.alternation ∧ (s.dropAt k).axes = s.axes ∧
    (s.dropAt k).head = s.head ∧ (s.dropAt k).drive = s.drive ∧ (s.dropAt k).machine = s.machine ∧
    (s.dropAt k).alarms = s.alarms ∧ (s.dropAt k).port = s.port ∧
    (s.dropAt k).settings = s.settings ∧ (s.dropAt k).inputs = s.inputs ∧
    (s.dropAt k).outputs = s.outputs ∧ (s.dropAt k).freeCount = s.freeCount ∧
    (s.dropAt k).pending = s.pending := by
  unfold State.dropAt; (repeat' split) <;> simp

@[simp] theorem State.takeOn_frame (s : State) (k : Nat) :
    (s.takeOn k).table = s.table ∧ (s.takeOn k).boards = s.boards ∧
    (s.takeOn k).nextNumber = s.nextNumber ∧ (s.takeOn k).runCounter = s.runCounter ∧
    (s.takeOn k).exchange = s.exchange ∧ (s.takeOn k).stretch = s.stretch ∧
    (s.takeOn k).chain = s.chain ∧ (s.takeOn k).conditions = s.conditions ∧
    (s.takeOn k).slots = s.slots ∧ (s.takeOn k).alternation = s.alternation ∧
    (s.takeOn k).axes = s.axes ∧ (s.takeOn k).head = s.head ∧ (s.takeOn k).drive = s.drive ∧
    (s.takeOn k).machine = s.machine ∧ (s.takeOn k).alarms = s.alarms ∧
    (s.takeOn k).port = s.port ∧ (s.takeOn k).settings = s.settings ∧
    (s.takeOn k).inputs = s.inputs ∧ (s.takeOn k).outputs = s.outputs ∧
    (s.takeOn k).freeCount = s.freeCount ∧ (s.takeOn k).pending = s.pending := by
  unfold State.takeOn; (repeat' split) <;> simp

@[simp] theorem State.requestIndex_frame (s : State) :
    (s.requestIndex).table = s.table ∧ (s.requestIndex).boards = s.boards ∧
    (s.requestIndex).nextNumber = s.nextNumber ∧ (s.requestIndex).runCounter = s.runCounter ∧
    (s.requestIndex).exchange = s.exchange ∧ (s.requestIndex).stations = s.stations ∧
    (s.requestIndex).stretch = s.stretch ∧ (s.requestIndex).conditions = s.conditions ∧
    (s.requestIndex).slots = s.slots ∧ (s.requestIndex).alternation = s.alternation ∧
    (s.requestIndex).axes = s.axes ∧ (s.requestIndex).head = s.head ∧
    (s.requestIndex).drive = s.drive ∧ (s.requestIndex).machine = s.machine ∧
    (s.requestIndex).alarms = s.alarms ∧ (s.requestIndex).port = s.port ∧
    (s.requestIndex).settings = s.settings ∧ (s.requestIndex).inputs = s.inputs ∧
    (s.requestIndex).outputs = s.outputs ∧ (s.requestIndex).freeCount = s.freeCount ∧
    (s.requestIndex).pending = s.pending := by
  unfold State.requestIndex; (repeat' split) <;> simp

@[simp] theorem State.headJudge_frame (s : State) :
    (s.headJudge).table = s.table ∧ (s.headJudge).boards = s.boards ∧
    (s.headJudge).nextNumber = s.nextNumber ∧ (s.headJudge).runCounter = s.runCounter ∧
    (s.headJudge).exchange = s.exchange ∧ (s.headJudge).stations = s.stations ∧
    (s.headJudge).stretch = s.stretch ∧ (s.headJudge).conditions = s.conditions ∧
    (s.headJudge).slots = s.slots ∧ (s.headJudge).alternation = s.alternation ∧
    (s.headJudge).axes = s.axes ∧ (s.headJudge).head = s.head ∧ (s.headJudge).drive = s.drive ∧
    (s.headJudge).machine = s.machine ∧ (s.headJudge).alarms = s.alarms ∧
    (s.headJudge).port = s.port ∧ (s.headJudge).settings = s.settings ∧
    (s.headJudge).inputs = s.inputs ∧ (s.headJudge).outputs = s.outputs ∧
    (s.headJudge).freeCount = s.freeCount ∧ (s.headJudge).pending = s.pending := by
  unfold State.headJudge; (repeat' split) <;> simp

@[simp] theorem State.homingCheck_frame (s : State) :
    (s.homingCheck).table = s.table ∧ (s.homingCheck).boards = s.boards ∧
    (s.homingCheck).nextNumber = s.nextNumber ∧ (s.homingCheck).runCounter = s.runCounter ∧
    (s.homingCheck).exchange = s.exchange ∧ (s.homingCheck).stations = s.stations ∧
    (s.homingCheck).stretch = s.stretch ∧ (s.homingCheck).conditions = s.conditions ∧
    (s.homingCheck).slots = s.slots ∧ (s.homingCheck).alternation = s.alternation ∧
    (s.homingCheck).axes = s.axes ∧ (s.homingCheck).drive = s.drive ∧
    (s.homingCheck).machine = s.machine ∧ (s.homingCheck).alarms = s.alarms ∧
    (s.homingCheck).port = s.port ∧ (s.homingCheck).settings = s.settings ∧
    (s.homingCheck).inputs = s.inputs ∧ (s.homingCheck).outputs = s.outputs ∧
    (s.homingCheck).freeCount = s.freeCount ∧ (s.homingCheck).pending = s.pending := by
  unfold State.homingCheck; (repeat' split) <;> simp

@[simp] theorem State.beginStroke_frame (s : State) :
    (s.beginStroke).table = s.table ∧ (s.beginStroke).boards = s.boards ∧
    (s.beginStroke).nextNumber = s.nextNumber ∧ (s.beginStroke).runCounter = s.runCounter ∧
    (s.beginStroke).exchange = s.exchange ∧ (s.beginStroke).stations = s.stations ∧
    (s.beginStroke).stretch = s.stretch ∧ (s.beginStroke).chain = s.chain ∧
    (s.beginStroke).conditions = s.conditions ∧ (s.beginStroke).slots = s.slots ∧
    (s.beginStroke).alternation = s.alternation ∧ (s.beginStroke).axes = s.axes ∧
    (s.beginStroke).head = s.head ∧ (s.beginStroke).machine = s.machine ∧
    (s.beginStroke).alarms = s.alarms ∧ (s.beginStroke).port = s.port ∧
    (s.beginStroke).settings = s.settings ∧ (s.beginStroke).inputs = s.inputs ∧
    (s.beginStroke).freeCount = s.freeCount ∧ (s.beginStroke).pending = s.pending := by
  unfold State.beginStroke; (repeat' split) <;> simp

@[simp] theorem State.releaseSlot_frame (s : State) (p : Parity) :
    (s.releaseSlot p).table = s.table ∧ (s.releaseSlot p).boards = s.boards ∧
    (s.releaseSlot p).nextNumber = s.nextNumber ∧ (s.releaseSlot p).runCounter = s.runCounter ∧
    (s.releaseSlot p).exchange = s.exchange ∧ (s.releaseSlot p).stations = s.stations ∧
    (s.releaseSlot p).stretch = s.stretch ∧ (s.releaseSlot p).chain = s.chain ∧
    (s.releaseSlot p).conditions = s.conditions ∧ (s.releaseSlot p).alternation = s.alternation ∧
    (s.releaseSlot p).axes = s.axes ∧ (s.releaseSlot p).head = s.head ∧
    (s.releaseSlot p).drive = s.drive ∧ (s.releaseSlot p).machine = s.machine ∧
    (s.releaseSlot p).alarms = s.alarms ∧ (s.releaseSlot p).port = s.port ∧
    (s.releaseSlot p).settings = s.settings ∧ (s.releaseSlot p).inputs = s.inputs ∧
    (s.releaseSlot p).outputs = s.outputs ∧ (s.releaseSlot p).freeCount = s.freeCount ∧
    (s.releaseSlot p).pending = s.pending := by
  unfold State.releaseSlot; simp

@[simp] theorem State.haltFeed_frame (s : State) (k : Nat) :
    (s.haltFeed k).nextNumber = s.nextNumber ∧ (s.haltFeed k).runCounter = s.runCounter ∧
    (s.haltFeed k).exchange = s.exchange ∧ (s.haltFeed k).chain = s.chain ∧
    (s.haltFeed k).conditions = s.conditions ∧ (s.haltFeed k).slots = s.slots ∧
    (s.haltFeed k).alternation = s.alternation ∧ (s.haltFeed k).axes = s.axes ∧
    (s.haltFeed k).head = s.head ∧ (s.haltFeed k).drive = s.drive ∧
    (s.haltFeed k).machine = s.machine ∧ (s.haltFeed k).alarms = s.alarms ∧
    (s.haltFeed k).port = s.port ∧ (s.haltFeed k).settings = s.settings ∧
    (s.haltFeed k).inputs = s.inputs ∧ (s.haltFeed k).outputs = s.outputs ∧
    (s.haltFeed k).freeCount = s.freeCount ∧ (s.haltFeed k).pending = s.pending := by
  unfold State.haltFeed; (repeat' split) <;> simp

@[simp] theorem State.haltFeeds_frame (s : State) :
    (s.haltFeeds).nextNumber = s.nextNumber ∧ (s.haltFeeds).runCounter = s.runCounter ∧
    (s.haltFeeds).exchange = s.exchange ∧ (s.haltFeeds).chain = s.chain ∧
    (s.haltFeeds).conditions = s.conditions ∧ (s.haltFeeds).slots = s.slots ∧
    (s.haltFeeds).alternation = s.alternation ∧ (s.haltFeeds).axes = s.axes ∧
    (s.haltFeeds).head = s.head ∧ (s.haltFeeds).drive = s.drive ∧
    (s.haltFeeds).machine = s.machine ∧ (s.haltFeeds).alarms = s.alarms ∧
    (s.haltFeeds).port = s.port ∧ (s.haltFeeds).settings = s.settings ∧
    (s.haltFeeds).inputs = s.inputs ∧ (s.haltFeeds).outputs = s.outputs ∧
    (s.haltFeeds).freeCount = s.freeCount ∧ (s.haltFeeds).pending = s.pending := by
  unfold State.haltFeeds
  refine ⟨?_, ?_, ?_, ?_, ?_, ?_, ?_, ?_, ?_, ?_, ?_, ?_, ?_, ?_, ?_, ?_, ?_, ?_⟩ <;>
    exact foldl_keeps _ _ (by simp) _ _

@[simp] theorem State.haltIndex_frame (s : State) :
    (s.haltIndex).table = s.table ∧ (s.haltIndex).boards = s.boards ∧
    (s.haltIndex).nextNumber = s.nextNumber ∧ (s.haltIndex).runCounter = s.runCounter ∧
    (s.haltIndex).exchange = s.exchange ∧ (s.haltIndex).stations = s.stations ∧
    (s.haltIndex).stretch = s.stretch ∧ (s.haltIndex).conditions = s.conditions ∧
    (s.haltIndex).slots = s.slots ∧ (s.haltIndex).alternation = s.alternation ∧
    (s.haltIndex).axes = s.axes ∧ (s.haltIndex).head = s.head ∧ (s.haltIndex).drive = s.drive ∧
    (s.haltIndex).machine = s.machine ∧ (s.haltIndex).alarms = s.alarms ∧
    (s.haltIndex).port = s.port ∧ (s.haltIndex).settings = s.settings ∧
    (s.haltIndex).inputs = s.inputs ∧ (s.haltIndex).outputs = s.outputs ∧
    (s.haltIndex).freeCount = s.freeCount ∧ (s.haltIndex).pending = s.pending := by
  unfold State.haltIndex; (repeat' split) <;> simp

@[simp] theorem State.haltExchange_frame (s : State) :
    (s.haltExchange).table = s.table ∧ (s.haltExchange).boards = s.boards ∧
    (s.haltExchange).nextNumber = s.nextNumber ∧ (s.haltExchange).runCounter = s.runCounter ∧
    (s.haltExchange).stations = s.stations ∧ (s.haltExchange).stretch = s.stretch ∧
    (s.haltExchange).chain = s.chain ∧ (s.haltExchange).conditions = s.conditions ∧
    (s.haltExchange).slots = s.slots ∧ (s.haltExchange).alternation = s.alternation ∧
    (s.haltExchange).axes = s.axes ∧ (s.haltExchange).head = s.head ∧
    (s.haltExchange).drive = s.drive ∧ (s.haltExchange).machine = s.machine ∧
    (s.haltExchange).alarms = s.alarms ∧ (s.haltExchange).port = s.port ∧
    (s.haltExchange).settings = s.settings ∧ (s.haltExchange).inputs = s.inputs ∧
    (s.haltExchange).freeCount = s.freeCount ∧ (s.haltExchange).pending = s.pending := by
  unfold State.haltExchange; (repeat' split) <;> simp

@[simp] theorem State.interrupt_frame (s : State) :
    (s.interrupt).nextNumber = s.nextNumber ∧ (s.interrupt).runCounter = s.runCounter ∧
    (s.interrupt).exchange = s.exchange ∧ (s.interrupt).stations = s.stations ∧
    (s.interrupt).chain = s.chain ∧ (s.interrupt).conditions = s.conditions ∧
    (s.interrupt).slots = s.slots ∧ (s.interrupt).alternation = s.alternation ∧
    (s.interrupt).axes = s.axes ∧ (s.interrupt).head = s.head ∧ (s.interrupt).drive = s.drive ∧
    (s.interrupt).machine = s.machine ∧ (s.interrupt).alarms = s.alarms ∧
    (s.interrupt).port = s.port ∧ (s.interrupt).settings = s.settings ∧
    (s.interrupt).inputs = s.inputs ∧ (s.interrupt).outputs = s.outputs ∧
    (s.interrupt).freeCount = s.freeCount ∧ (s.interrupt).pending = s.pending := by
  unfold State.interrupt; dsimp only; (repeat' split) <;> simp

@[simp] theorem State.haltSlot_frame (s : State) :
    (s.haltSlot).table = s.table ∧ (s.haltSlot).boards = s.boards ∧
    (s.haltSlot).nextNumber = s.nextNumber ∧ (s.haltSlot).runCounter = s.runCounter ∧
    (s.haltSlot).exchange = s.exchange ∧ (s.haltSlot).stations = s.stations ∧
    (s.haltSlot).stretch = s.stretch ∧ (s.haltSlot).chain = s.chain ∧
    (s.haltSlot).conditions = s.conditions ∧ (s.haltSlot).alternation = s.alternation ∧
    (s.haltSlot).axes = s.axes ∧ (s.haltSlot).head = s.head ∧ (s.haltSlot).drive = s.drive ∧
    (s.haltSlot).machine = s.machine ∧ (s.haltSlot).alarms = s.alarms ∧
    (s.haltSlot).port = s.port ∧ (s.haltSlot).settings = s.settings ∧
    (s.haltSlot).inputs = s.inputs ∧ (s.haltSlot).outputs = s.outputs ∧
    (s.haltSlot).freeCount = s.freeCount ∧ (s.haltSlot).pending = s.pending := by
  unfold State.haltSlot; (repeat' split) <;> simp

@[simp] theorem State.stopHead_frame (s : State) :
    (s.stopHead).table = s.table ∧ (s.stopHead).boards = s.boards ∧
    (s.stopHead).nextNumber = s.nextNumber ∧ (s.stopHead).runCounter = s.runCounter ∧
    (s.stopHead).exchange = s.exchange ∧ (s.stopHead).stations = s.stations ∧
    (s.stopHead).stretch = s.stretch ∧ (s.stopHead).chain = s.chain ∧
    (s.stopHead).conditions = s.conditions ∧ (s.stopHead).alternation = s.alternation ∧
    (s.stopHead).axes = s.axes ∧ (s.stopHead).machine = s.machine ∧
    (s.stopHead).alarms = s.alarms ∧ (s.stopHead).port = s.port ∧
    (s.stopHead).settings = s.settings ∧ (s.stopHead).inputs = s.inputs ∧
    (s.stopHead).freeCount = s.freeCount ∧ (s.stopHead).pending = s.pending := by
  unfold State.stopHead; simp

@[simp] theorem State.haltHead_frame (s : State) :
    (s.haltHead).nextNumber = s.nextNumber ∧ (s.haltHead).runCounter = s.runCounter ∧
    (s.haltHead).exchange = s.exchange ∧ (s.haltHead).stations = s.stations ∧
    (s.haltHead).chain = s.chain ∧ (s.haltHead).conditions = s.conditions ∧
    (s.haltHead).alternation = s.alternation ∧ (s.haltHead).axes = s.axes ∧
    (s.haltHead).machine = s.machine ∧ (s.haltHead).alarms = s.alarms ∧
    (s.haltHead).port = s.port ∧ (s.haltHead).settings = s.settings ∧
    (s.haltHead).inputs = s.inputs ∧ (s.haltHead).freeCount = s.freeCount ∧
    (s.haltHead).pending = s.pending := by
  unfold State.haltHead; simp

@[simp] theorem State.haltAxes_frame (s : State) :
    (s.haltAxes).table = s.table ∧ (s.haltAxes).boards = s.boards ∧
    (s.haltAxes).nextNumber = s.nextNumber ∧ (s.haltAxes).runCounter = s.runCounter ∧
    (s.haltAxes).exchange = s.exchange ∧ (s.haltAxes).stations = s.stations ∧
    (s.haltAxes).stretch = s.stretch ∧ (s.haltAxes).chain = s.chain ∧
    (s.haltAxes).conditions = s.conditions ∧ (s.haltAxes).alternation = s.alternation ∧
    (s.haltAxes).head = s.head ∧ (s.haltAxes).drive = s.drive ∧ (s.haltAxes).machine = s.machine ∧
    (s.haltAxes).alarms = s.alarms ∧ (s.haltAxes).port = s.port ∧
    (s.haltAxes).settings = s.settings ∧ (s.haltAxes).inputs = s.inputs ∧
    (s.haltAxes).outputs = s.outputs ∧ (s.haltAxes).freeCount = s.freeCount ∧
    (s.haltAxes).pending = s.pending := by
  unfold State.haltAxes; simp

@[simp] theorem State.haltBlocks_frame (s : State) :
    (s.haltBlocks).nextNumber = s.nextNumber ∧ (s.haltBlocks).runCounter = s.runCounter ∧
    (s.haltBlocks).conditions = s.conditions ∧ (s.haltBlocks).alternation = s.alternation ∧
    (s.haltBlocks).machine = s.machine ∧ (s.haltBlocks).alarms = s.alarms ∧
    (s.haltBlocks).port = s.port ∧ (s.haltBlocks).settings = s.settings ∧
    (s.haltBlocks).inputs = s.inputs ∧ (s.haltBlocks).freeCount = s.freeCount ∧
    (s.haltBlocks).pending = s.pending := by
  unfold State.haltBlocks; simp

@[simp] theorem State.enterHalted_frame (s : State) :
    (s.enterHalted).nextNumber = s.nextNumber ∧ (s.enterHalted).runCounter = s.runCounter ∧
    (s.enterHalted).conditions = s.conditions ∧ (s.enterHalted).alternation = s.alternation ∧
    (s.enterHalted).alarms = s.alarms ∧ (s.enterHalted).port = s.port ∧
    (s.enterHalted).settings = s.settings ∧ (s.enterHalted).inputs = s.inputs ∧
    (s.enterHalted).freeCount = s.freeCount ∧ (s.enterHalted).pending = s.pending := by
  unfold State.enterHalted; simp

@[simp] theorem State.haltIfMoving_frame (s : State) :
    (s.haltIfMoving).nextNumber = s.nextNumber ∧ (s.haltIfMoving).runCounter = s.runCounter ∧
    (s.haltIfMoving).conditions = s.conditions ∧ (s.haltIfMoving).alternation = s.alternation ∧
    (s.haltIfMoving).alarms = s.alarms ∧ (s.haltIfMoving).port = s.port ∧
    (s.haltIfMoving).settings = s.settings ∧ (s.haltIfMoving).inputs = s.inputs ∧
    (s.haltIfMoving).freeCount = s.freeCount ∧ (s.haltIfMoving).pending = s.pending := by
  unfold State.haltIfMoving; (repeat' split) <;> simp

@[simp] theorem State.pausingQuiet_frame (s : State) :
    (s.pausingQuiet).table = s.table ∧ (s.pausingQuiet).boards = s.boards ∧
    (s.pausingQuiet).nextNumber = s.nextNumber ∧ (s.pausingQuiet).runCounter = s.runCounter ∧
    (s.pausingQuiet).exchange = s.exchange ∧ (s.pausingQuiet).stations = s.stations ∧
    (s.pausingQuiet).stretch = s.stretch ∧ (s.pausingQuiet).chain = s.chain ∧
    (s.pausingQuiet).conditions = s.conditions ∧ (s.pausingQuiet).slots = s.slots ∧
    (s.pausingQuiet).alternation = s.alternation ∧ (s.pausingQuiet).axes = s.axes ∧
    (s.pausingQuiet).head = s.head ∧ (s.pausingQuiet).drive = s.drive ∧
    (s.pausingQuiet).alarms = s.alarms ∧ (s.pausingQuiet).port = s.port ∧
    (s.pausingQuiet).settings = s.settings ∧ (s.pausingQuiet).inputs = s.inputs ∧
    (s.pausingQuiet).outputs = s.outputs ∧ (s.pausingQuiet).freeCount = s.freeCount ∧
    (s.pausingQuiet).pending = s.pending := by
  unfold State.pausingQuiet; split <;> simp

@[simp] theorem State.endDraining_frame (s : State) :
    (s.endDraining).table = s.table ∧ (s.endDraining).boards = s.boards ∧
    (s.endDraining).nextNumber = s.nextNumber ∧ (s.endDraining).runCounter = s.runCounter ∧
    (s.endDraining).exchange = s.exchange ∧ (s.endDraining).stations = s.stations ∧
    (s.endDraining).stretch = s.stretch ∧ (s.endDraining).conditions = s.conditions ∧
    (s.endDraining).alternation = s.alternation ∧ (s.endDraining).head = s.head ∧
    (s.endDraining).drive = s.drive ∧ (s.endDraining).alarms = s.alarms ∧
    (s.endDraining).port = s.port ∧ (s.endDraining).settings = s.settings ∧
    (s.endDraining).inputs = s.inputs ∧ (s.endDraining).outputs = s.outputs ∧
    (s.endDraining).freeCount = s.freeCount ∧ (s.endDraining).pending = s.pending := by
  refine ⟨rfl, rfl, rfl, rfl, rfl, rfl, rfl, rfl, rfl, rfl, rfl, rfl, rfl, rfl, rfl, rfl, rfl, rfl⟩

@[simp] theorem State.drainEnd_frame (s : State) :
    (s.drainEnd).table = s.table ∧ (s.drainEnd).boards = s.boards ∧
    (s.drainEnd).nextNumber = s.nextNumber ∧ (s.drainEnd).runCounter = s.runCounter ∧
    (s.drainEnd).exchange = s.exchange ∧ (s.drainEnd).stations = s.stations ∧
    (s.drainEnd).stretch = s.stretch ∧ (s.drainEnd).conditions = s.conditions ∧
    (s.drainEnd).alternation = s.alternation ∧ (s.drainEnd).head = s.head ∧
    (s.drainEnd).drive = s.drive ∧ (s.drainEnd).alarms = s.alarms ∧ (s.drainEnd).port = s.port ∧
    (s.drainEnd).settings = s.settings ∧ (s.drainEnd).inputs = s.inputs ∧
    (s.drainEnd).outputs = s.outputs ∧ (s.drainEnd).freeCount = s.freeCount ∧
    (s.drainEnd).pending = s.pending := by
  unfold State.drainEnd; split <;> simp

@[simp] theorem State.settle_frame (s : State) :
    (s.settle).table = s.table ∧ (s.settle).boards = s.boards ∧
    (s.settle).nextNumber = s.nextNumber ∧ (s.settle).runCounter = s.runCounter ∧
    (s.settle).exchange = s.exchange ∧ (s.settle).stations = s.stations ∧
    (s.settle).stretch = s.stretch ∧ (s.settle).conditions = s.conditions ∧
    (s.settle).alternation = s.alternation ∧ (s.settle).head = s.head ∧
    (s.settle).drive = s.drive ∧ (s.settle).alarms = s.alarms ∧ (s.settle).port = s.port ∧
    (s.settle).settings = s.settings ∧ (s.settle).inputs = s.inputs ∧
    (s.settle).outputs = s.outputs ∧ (s.settle).freeCount = s.freeCount ∧
    (s.settle).pending = s.pending := by
  unfold State.settle; simp

@[simp] theorem State.enterPausing_frame (s : State) :
    (s.enterPausing).table = s.table ∧ (s.enterPausing).boards = s.boards ∧
    (s.enterPausing).nextNumber = s.nextNumber ∧ (s.enterPausing).runCounter = s.runCounter ∧
    (s.enterPausing).exchange = s.exchange ∧ (s.enterPausing).stations = s.stations ∧
    (s.enterPausing).stretch = s.stretch ∧ (s.enterPausing).conditions = s.conditions ∧
    (s.enterPausing).slots = s.slots ∧ (s.enterPausing).alternation = s.alternation ∧
    (s.enterPausing).axes = s.axes ∧ (s.enterPausing).drive = s.drive ∧
    (s.enterPausing).alarms = s.alarms ∧ (s.enterPausing).port = s.port ∧
    (s.enterPausing).settings = s.settings ∧ (s.enterPausing).inputs = s.inputs ∧
    (s.enterPausing).outputs = s.outputs ∧ (s.enterPausing).freeCount = s.freeCount ∧
    (s.enterPausing).pending = s.pending := by
  unfold State.enterPausing; (repeat' split) <;> simp

@[simp] theorem State.react_frame (s : State) (r : Reaction) :
    (s.react r).nextNumber = s.nextNumber ∧ (s.react r).runCounter = s.runCounter ∧
    (s.react r).conditions = s.conditions ∧ (s.react r).alternation = s.alternation ∧
    (s.react r).alarms = s.alarms ∧ (s.react r).port = s.port ∧ (s.react r).settings = s.settings ∧
    (s.react r).inputs = s.inputs ∧ (s.react r).freeCount = s.freeCount ∧
    (s.react r).pending = s.pending := by
  unfold State.react; (repeat' split) <;> simp

@[simp] theorem State.raise_frame (s : State) (k : AlarmKind) (src : Option Source) :
    (s.raise k src).nextNumber = s.nextNumber ∧ (s.raise k src).runCounter = s.runCounter ∧
    (s.raise k src).conditions = s.conditions ∧ (s.raise k src).alternation = s.alternation ∧
    (s.raise k src).port = s.port ∧ (s.raise k src).settings = s.settings ∧
    (s.raise k src).inputs = s.inputs ∧ (s.raise k src).freeCount = s.freeCount ∧
    (s.raise k src).pending = s.pending := by
  unfold State.raise; simp

@[simp] theorem State.reactAll_frame (s : State) (ks : List AlarmKind) :
    (s.reactAll ks).nextNumber = s.nextNumber ∧ (s.reactAll ks).runCounter = s.runCounter ∧
    (s.reactAll ks).conditions = s.conditions ∧ (s.reactAll ks).alternation = s.alternation ∧
    (s.reactAll ks).alarms = s.alarms ∧ (s.reactAll ks).port = s.port ∧
    (s.reactAll ks).settings = s.settings ∧ (s.reactAll ks).inputs = s.inputs ∧
    (s.reactAll ks).freeCount = s.freeCount ∧ (s.reactAll ks).pending = s.pending := by
  unfold State.reactAll
  refine ⟨?_, ?_, ?_, ?_, ?_, ?_, ?_, ?_, ?_, ?_⟩ <;>
    exact foldl_keeps _ _ (by simp) _ _

@[simp] theorem State.takeSlot_frame (s : State) (m : MoveSlot) :
    (s.takeSlot m).table = s.table ∧ (s.takeSlot m).boards = s.boards ∧
    (s.takeSlot m).nextNumber = s.nextNumber ∧ (s.takeSlot m).runCounter = s.runCounter ∧
    (s.takeSlot m).exchange = s.exchange ∧ (s.takeSlot m).stations = s.stations ∧
    (s.takeSlot m).stretch = s.stretch ∧ (s.takeSlot m).chain = s.chain ∧
    (s.takeSlot m).conditions = s.conditions ∧ (s.takeSlot m).axes = s.axes ∧
    (s.takeSlot m).head = s.head ∧ (s.takeSlot m).drive = s.drive ∧
    (s.takeSlot m).machine = s.machine ∧ (s.takeSlot m).alarms = s.alarms ∧
    (s.takeSlot m).port = s.port ∧ (s.takeSlot m).settings = s.settings ∧
    (s.takeSlot m).inputs = s.inputs ∧ (s.takeSlot m).outputs = s.outputs ∧
    (s.takeSlot m).freeCount = s.freeCount ∧ (s.takeSlot m).pending = s.pending := by
  unfold State.takeSlot; simp

@[simp] theorem State.outOfTravel_frame (s : State) (pos : Nat) (j : Job) :
    (s.outOfTravel pos j).nextNumber = s.nextNumber ∧
    (s.outOfTravel pos j).runCounter = s.runCounter ∧ (s.outOfTravel pos j).exchange = s.exchange ∧
    (s.outOfTravel pos j).stations = s.stations ∧ (s.outOfTravel pos j).chain = s.chain ∧
    (s.outOfTravel pos j).conditions = s.conditions ∧ (s.outOfTravel pos j).slots = s.slots ∧
    (s.outOfTravel pos j).alternation = s.alternation ∧ (s.outOfTravel pos j).axes = s.axes ∧
    (s.outOfTravel pos j).head = s.head ∧ (s.outOfTravel pos j).drive = s.drive ∧
    (s.outOfTravel pos j).machine = s.machine ∧ (s.outOfTravel pos j).alarms = s.alarms ∧
    (s.outOfTravel pos j).port = s.port ∧ (s.outOfTravel pos j).settings = s.settings ∧
    (s.outOfTravel pos j).inputs = s.inputs ∧ (s.outOfTravel pos j).outputs = s.outputs ∧
    (s.outOfTravel pos j).freeCount = s.freeCount ∧ (s.outOfTravel pos j).pending = s.pending := by
  unfold State.outOfTravel; simp

@[simp] theorem State.planInsert_frame (s : State) (pos : SlotPosition) (j : Job) :
    (s.planInsert pos j).nextNumber = s.nextNumber ∧
    (s.planInsert pos j).runCounter = s.runCounter ∧ (s.planInsert pos j).exchange = s.exchange ∧
    (s.planInsert pos j).stations = s.stations ∧ (s.planInsert pos j).chain = s.chain ∧
    (s.planInsert pos j).conditions = s.conditions ∧ (s.planInsert pos j).axes = s.axes ∧
    (s.planInsert pos j).head = s.head ∧ (s.planInsert pos j).drive = s.drive ∧
    (s.planInsert pos j).machine = s.machine ∧ (s.planInsert pos j).alarms = s.alarms ∧
    (s.planInsert pos j).port = s.port ∧ (s.planInsert pos j).settings = s.settings ∧
    (s.planInsert pos j).inputs = s.inputs ∧ (s.planInsert pos j).outputs = s.outputs ∧
    (s.planInsert pos j).freeCount = s.freeCount ∧ (s.planInsert pos j).pending = s.pending := by
  unfold State.planInsert; (repeat' split) <;> simp

@[simp] theorem State.planDump_frame (s : State) (pos : SlotPosition) :
    (s.planDump pos).table = s.table ∧ (s.planDump pos).boards = s.boards ∧
    (s.planDump pos).nextNumber = s.nextNumber ∧ (s.planDump pos).runCounter = s.runCounter ∧
    (s.planDump pos).exchange = s.exchange ∧ (s.planDump pos).stations = s.stations ∧
    (s.planDump pos).stretch = s.stretch ∧ (s.planDump pos).chain = s.chain ∧
    (s.planDump pos).conditions = s.conditions ∧ (s.planDump pos).axes = s.axes ∧
    (s.planDump pos).head = s.head ∧ (s.planDump pos).drive = s.drive ∧
    (s.planDump pos).machine = s.machine ∧ (s.planDump pos).alarms = s.alarms ∧
    (s.planDump pos).port = s.port ∧ (s.planDump pos).settings = s.settings ∧
    (s.planDump pos).inputs = s.inputs ∧ (s.planDump pos).outputs = s.outputs ∧
    (s.planDump pos).freeCount = s.freeCount ∧ (s.planDump pos).pending = s.pending := by
  unfold State.planDump; simp

@[simp] theorem State.computeSlot_frame (s : State) (p : Parity) :
    (s.computeSlot p).nextNumber = s.nextNumber ∧ (s.computeSlot p).runCounter = s.runCounter ∧
    (s.computeSlot p).exchange = s.exchange ∧ (s.computeSlot p).stations = s.stations ∧
    (s.computeSlot p).chain = s.chain ∧ (s.computeSlot p).conditions = s.conditions ∧
    (s.computeSlot p).alternation = s.alternation ∧ (s.computeSlot p).axes = s.axes ∧
    (s.computeSlot p).head = s.head ∧ (s.computeSlot p).drive = s.drive ∧
    (s.computeSlot p).machine = s.machine ∧ (s.computeSlot p).alarms = s.alarms ∧
    (s.computeSlot p).port = s.port ∧ (s.computeSlot p).settings = s.settings ∧
    (s.computeSlot p).inputs = s.inputs ∧ (s.computeSlot p).outputs = s.outputs ∧
    (s.computeSlot p).freeCount = s.freeCount ∧ (s.computeSlot p).pending = s.pending := by
  unfold State.computeSlot; (repeat' split) <;> simp

@[simp] theorem State.computeAwaiting_frame (s : State) :
    (s.computeAwaiting).nextNumber = s.nextNumber ∧ (s.computeAwaiting).runCounter = s.runCounter ∧
    (s.computeAwaiting).exchange = s.exchange ∧ (s.computeAwaiting).stations = s.stations ∧
    (s.computeAwaiting).chain = s.chain ∧ (s.computeAwaiting).conditions = s.conditions ∧
    (s.computeAwaiting).alternation = s.alternation ∧ (s.computeAwaiting).axes = s.axes ∧
    (s.computeAwaiting).head = s.head ∧ (s.computeAwaiting).drive = s.drive ∧
    (s.computeAwaiting).machine = s.machine ∧ (s.computeAwaiting).alarms = s.alarms ∧
    (s.computeAwaiting).port = s.port ∧ (s.computeAwaiting).settings = s.settings ∧
    (s.computeAwaiting).inputs = s.inputs ∧ (s.computeAwaiting).outputs = s.outputs ∧
    (s.computeAwaiting).freeCount = s.freeCount ∧ (s.computeAwaiting).pending = s.pending := by
  unfold State.computeAwaiting; simp

@[simp] theorem State.planAtRun_frame (s : State) (pos : SlotPosition) :
    (s.planAtRun pos).nextNumber = s.nextNumber ∧ (s.planAtRun pos).runCounter = s.runCounter ∧
    (s.planAtRun pos).exchange = s.exchange ∧ (s.planAtRun pos).stations = s.stations ∧
    (s.planAtRun pos).chain = s.chain ∧ (s.planAtRun pos).conditions = s.conditions ∧
    (s.planAtRun pos).axes = s.axes ∧ (s.planAtRun pos).head = s.head ∧
    (s.planAtRun pos).drive = s.drive ∧ (s.planAtRun pos).machine = s.machine ∧
    (s.planAtRun pos).alarms = s.alarms ∧ (s.planAtRun pos).port = s.port ∧
    (s.planAtRun pos).settings = s.settings ∧ (s.planAtRun pos).inputs = s.inputs ∧
    (s.planAtRun pos).outputs = s.outputs ∧ (s.planAtRun pos).freeCount = s.freeCount ∧
    (s.planAtRun pos).pending = s.pending := by
  unfold State.planAtRun; (repeat' split) <;> simp

@[simp] theorem State.giveTargets_frame (s : State) (g : Quad Nat) :
    (s.giveTargets g).table = s.table ∧ (s.giveTargets g).boards = s.boards ∧
    (s.giveTargets g).nextNumber = s.nextNumber ∧ (s.giveTargets g).runCounter = s.runCounter ∧
    (s.giveTargets g).exchange = s.exchange ∧ (s.giveTargets g).stations = s.stations ∧
    (s.giveTargets g).stretch = s.stretch ∧ (s.giveTargets g).chain = s.chain ∧
    (s.giveTargets g).conditions = s.conditions ∧ (s.giveTargets g).slots = s.slots ∧
    (s.giveTargets g).alternation = s.alternation ∧ (s.giveTargets g).head = s.head ∧
    (s.giveTargets g).drive = s.drive ∧ (s.giveTargets g).machine = s.machine ∧
    (s.giveTargets g).alarms = s.alarms ∧ (s.giveTargets g).port = s.port ∧
    (s.giveTargets g).settings = s.settings ∧ (s.giveTargets g).inputs = s.inputs ∧
    (s.giveTargets g).outputs = s.outputs ∧ (s.giveTargets g).freeCount = s.freeCount ∧
    (s.giveTargets g).pending = s.pending := by
  unfold State.giveTargets; simp

@[simp] theorem State.activate_frame (s : State) (p : Parity) :
    (s.activate p).table = s.table ∧ (s.activate p).boards = s.boards ∧
    (s.activate p).nextNumber = s.nextNumber ∧ (s.activate p).runCounter = s.runCounter ∧
    (s.activate p).exchange = s.exchange ∧ (s.activate p).stations = s.stations ∧
    (s.activate p).stretch = s.stretch ∧ (s.activate p).chain = s.chain ∧
    (s.activate p).conditions = s.conditions ∧ (s.activate p).alternation = s.alternation ∧
    (s.activate p).head = s.head ∧ (s.activate p).drive = s.drive ∧
    (s.activate p).machine = s.machine ∧ (s.activate p).alarms = s.alarms ∧
    (s.activate p).port = s.port ∧ (s.activate p).settings = s.settings ∧
    (s.activate p).inputs = s.inputs ∧ (s.activate p).outputs = s.outputs ∧
    (s.activate p).freeCount = s.freeCount ∧ (s.activate p).pending = s.pending := by
  unfold State.activate; (repeat' split) <;> simp

@[simp] theorem State.earlyActivation_frame (s : State) :
    (s.earlyActivation).table = s.table ∧ (s.earlyActivation).boards = s.boards ∧
    (s.earlyActivation).nextNumber = s.nextNumber ∧ (s.earlyActivation).runCounter = s.runCounter ∧
    (s.earlyActivation).exchange = s.exchange ∧ (s.earlyActivation).stations = s.stations ∧
    (s.earlyActivation).stretch = s.stretch ∧ (s.earlyActivation).chain = s.chain ∧
    (s.earlyActivation).conditions = s.conditions ∧
    (s.earlyActivation).alternation = s.alternation ∧ (s.earlyActivation).head = s.head ∧
    (s.earlyActivation).drive = s.drive ∧ (s.earlyActivation).machine = s.machine ∧
    (s.earlyActivation).alarms = s.alarms ∧ (s.earlyActivation).port = s.port ∧
    (s.earlyActivation).settings = s.settings ∧ (s.earlyActivation).inputs = s.inputs ∧
    (s.earlyActivation).outputs = s.outputs ∧ (s.earlyActivation).freeCount = s.freeCount ∧
    (s.earlyActivation).pending = s.pending := by
  unfold State.earlyActivation; (repeat' split) <;> simp

@[simp] theorem State.openRequest_frame (s : State) (p : Parity) :
    (s.openRequest p).boards = s.boards ∧ (s.openRequest p).nextNumber = s.nextNumber ∧
    (s.openRequest p).runCounter = s.runCounter ∧ (s.openRequest p).exchange = s.exchange ∧
    (s.openRequest p).stations = s.stations ∧ (s.openRequest p).stretch = s.stretch ∧
    (s.openRequest p).chain = s.chain ∧ (s.openRequest p).conditions = s.conditions ∧
    (s.openRequest p).slots = s.slots ∧ (s.openRequest p).alternation = s.alternation ∧
    (s.openRequest p).axes = s.axes ∧ (s.openRequest p).head = s.head ∧
    (s.openRequest p).drive = s.drive ∧ (s.openRequest p).machine = s.machine ∧
    (s.openRequest p).alarms = s.alarms ∧ (s.openRequest p).port = s.port ∧
    (s.openRequest p).settings = s.settings ∧ (s.openRequest p).inputs = s.inputs ∧
    (s.openRequest p).outputs = s.outputs ∧ (s.openRequest p).freeCount = s.freeCount ∧
    (s.openRequest p).pending = s.pending := by
  unfold State.openRequest; simp

@[simp] theorem State.openBoard_frame (s : State) :
    (s.openBoard).exchange = s.exchange ∧ (s.openBoard).stations = s.stations ∧
    (s.openBoard).stretch = s.stretch ∧ (s.openBoard).chain = s.chain ∧
    (s.openBoard).conditions = s.conditions ∧ (s.openBoard).slots = s.slots ∧
    (s.openBoard).alternation = s.alternation ∧ (s.openBoard).axes = s.axes ∧
    (s.openBoard).head = s.head ∧ (s.openBoard).machine = s.machine ∧
    (s.openBoard).alarms = s.alarms ∧ (s.openBoard).port = s.port ∧
    (s.openBoard).settings = s.settings ∧ (s.openBoard).inputs = s.inputs ∧
    (s.openBoard).outputs = s.outputs ∧ (s.openBoard).freeCount = s.freeCount ∧
    (s.openBoard).pending = s.pending := by
  unfold State.openBoard; dsimp only; simp

@[simp] theorem State.openIfMay_frame (s : State) :
    (s.openIfMay).exchange = s.exchange ∧ (s.openIfMay).stations = s.stations ∧
    (s.openIfMay).stretch = s.stretch ∧ (s.openIfMay).chain = s.chain ∧
    (s.openIfMay).conditions = s.conditions ∧ (s.openIfMay).slots = s.slots ∧
    (s.openIfMay).alternation = s.alternation ∧ (s.openIfMay).axes = s.axes ∧
    (s.openIfMay).head = s.head ∧ (s.openIfMay).machine = s.machine ∧
    (s.openIfMay).alarms = s.alarms ∧ (s.openIfMay).port = s.port ∧
    (s.openIfMay).settings = s.settings ∧ (s.openIfMay).inputs = s.inputs ∧
    (s.openIfMay).outputs = s.outputs ∧ (s.openIfMay).freeCount = s.freeCount ∧
    (s.openIfMay).pending = s.pending := by
  unfold State.openIfMay; (repeat' split) <;> simp

@[simp] theorem State.waitWith_frame (s : State) (l : Leg) :
    (s.waitWith l).table = s.table ∧ (s.waitWith l).boards = s.boards ∧
    (s.waitWith l).nextNumber = s.nextNumber ∧ (s.waitWith l).runCounter = s.runCounter ∧
    (s.waitWith l).stations = s.stations ∧ (s.waitWith l).stretch = s.stretch ∧
    (s.waitWith l).chain = s.chain ∧ (s.waitWith l).conditions = s.conditions ∧
    (s.waitWith l).slots = s.slots ∧ (s.waitWith l).alternation = s.alternation ∧
    (s.waitWith l).axes = s.axes ∧ (s.waitWith l).head = s.head ∧ (s.waitWith l).drive = s.drive ∧
    (s.waitWith l).machine = s.machine ∧ (s.waitWith l).alarms = s.alarms ∧
    (s.waitWith l).port = s.port ∧ (s.waitWith l).settings = s.settings ∧
    (s.waitWith l).inputs = s.inputs ∧ (s.waitWith l).outputs = s.outputs ∧
    (s.waitWith l).freeCount = s.freeCount ∧ (s.waitWith l).pending = s.pending := by
  unfold State.waitWith; simp

@[simp] theorem State.beginTransfer_frame (s : State) :
    (s.beginTransfer).table = s.table ∧ (s.beginTransfer).boards = s.boards ∧
    (s.beginTransfer).nextNumber = s.nextNumber ∧ (s.beginTransfer).runCounter = s.runCounter ∧
    (s.beginTransfer).stations = s.stations ∧ (s.beginTransfer).stretch = s.stretch ∧
    (s.beginTransfer).chain = s.chain ∧ (s.beginTransfer).conditions = s.conditions ∧
    (s.beginTransfer).slots = s.slots ∧ (s.beginTransfer).alternation = s.alternation ∧
    (s.beginTransfer).axes = s.axes ∧ (s.beginTransfer).head = s.head ∧
    (s.beginTransfer).drive = s.drive ∧ (s.beginTransfer).machine = s.machine ∧
    (s.beginTransfer).alarms = s.alarms ∧ (s.beginTransfer).port = s.port ∧
    (s.beginTransfer).settings = s.settings ∧ (s.beginTransfer).inputs = s.inputs ∧
    (s.beginTransfer).freeCount = s.freeCount ∧ (s.beginTransfer).pending = s.pending := by
  unfold State.beginTransfer; (repeat' split) <;> simp

@[simp] theorem State.clampingEnds_frame (s : State) :
    (s.clampingEnds).nextNumber = s.nextNumber ∧ (s.clampingEnds).runCounter = s.runCounter ∧
    (s.clampingEnds).stations = s.stations ∧ (s.clampingEnds).chain = s.chain ∧
    (s.clampingEnds).conditions = s.conditions ∧ (s.clampingEnds).alternation = s.alternation ∧
    (s.clampingEnds).axes = s.axes ∧ (s.clampingEnds).head = s.head ∧
    (s.clampingEnds).drive = s.drive ∧ (s.clampingEnds).machine = s.machine ∧
    (s.clampingEnds).alarms = s.alarms ∧ (s.clampingEnds).port = s.port ∧
    (s.clampingEnds).settings = s.settings ∧ (s.clampingEnds).inputs = s.inputs ∧
    (s.clampingEnds).outputs = s.outputs ∧ (s.clampingEnds).freeCount = s.freeCount ∧
    (s.clampingEnds).pending = s.pending := by
  unfold State.clampingEnds; dsimp only; (repeat' split) <;> simp

@[simp] theorem State.beginClamping_frame (s : State) :
    (s.beginClamping).nextNumber = s.nextNumber ∧ (s.beginClamping).runCounter = s.runCounter ∧
    (s.beginClamping).stations = s.stations ∧ (s.beginClamping).chain = s.chain ∧
    (s.beginClamping).conditions = s.conditions ∧ (s.beginClamping).alternation = s.alternation ∧
    (s.beginClamping).axes = s.axes ∧ (s.beginClamping).head = s.head ∧
    (s.beginClamping).drive = s.drive ∧ (s.beginClamping).machine = s.machine ∧
    (s.beginClamping).alarms = s.alarms ∧ (s.beginClamping).port = s.port ∧
    (s.beginClamping).settings = s.settings ∧ (s.beginClamping).inputs = s.inputs ∧
    (s.beginClamping).freeCount = s.freeCount ∧ (s.beginClamping).pending = s.pending := by
  unfold State.beginClamping; dsimp only; (repeat' split) <;> simp

@[simp] theorem State.clampNext_frame (s : State) :
    (s.clampNext).nextNumber = s.nextNumber ∧ (s.clampNext).runCounter = s.runCounter ∧
    (s.clampNext).stations = s.stations ∧ (s.clampNext).chain = s.chain ∧
    (s.clampNext).conditions = s.conditions ∧ (s.clampNext).alternation = s.alternation ∧
    (s.clampNext).axes = s.axes ∧ (s.clampNext).head = s.head ∧ (s.clampNext).drive = s.drive ∧
    (s.clampNext).machine = s.machine ∧ (s.clampNext).alarms = s.alarms ∧
    (s.clampNext).port = s.port ∧ (s.clampNext).settings = s.settings ∧
    (s.clampNext).inputs = s.inputs ∧ (s.clampNext).freeCount = s.freeCount ∧
    (s.clampNext).pending = s.pending := by
  unfold State.clampNext; (repeat' split) <;> simp

@[simp] theorem State.moveLegEnd_frame (s : State) (present : Bool) :
    (s.moveLegEnd present).nextNumber = s.nextNumber ∧
    (s.moveLegEnd present).runCounter = s.runCounter ∧
    (s.moveLegEnd present).stations = s.stations ∧ (s.moveLegEnd present).chain = s.chain ∧
    (s.moveLegEnd present).conditions = s.conditions ∧
    (s.moveLegEnd present).alternation = s.alternation ∧ (s.moveLegEnd present).axes = s.axes ∧
    (s.moveLegEnd present).head = s.head ∧ (s.moveLegEnd present).drive = s.drive ∧
    (s.moveLegEnd present).machine = s.machine ∧ (s.moveLegEnd present).alarms = s.alarms ∧
    (s.moveLegEnd present).port = s.port ∧ (s.moveLegEnd present).settings = s.settings ∧
    (s.moveLegEnd present).inputs = s.inputs ∧ (s.moveLegEnd present).freeCount = s.freeCount ∧
    (s.moveLegEnd present).pending = s.pending := by
  unfold State.moveLegEnd; (repeat' split) <;> simp

@[simp] theorem State.beginMove_frame (s : State) (k : ExchangeKind) (l : Option Leaving) :
    (s.beginMove k l).table = s.table ∧ (s.beginMove k l).boards = s.boards ∧
    (s.beginMove k l).nextNumber = s.nextNumber ∧ (s.beginMove k l).runCounter = s.runCounter ∧
    (s.beginMove k l).stations = s.stations ∧ (s.beginMove k l).stretch = s.stretch ∧
    (s.beginMove k l).chain = s.chain ∧ (s.beginMove k l).conditions = s.conditions ∧
    (s.beginMove k l).slots = s.slots ∧ (s.beginMove k l).alternation = s.alternation ∧
    (s.beginMove k l).head = s.head ∧ (s.beginMove k l).drive = s.drive ∧
    (s.beginMove k l).machine = s.machine ∧ (s.beginMove k l).alarms = s.alarms ∧
    (s.beginMove k l).port = s.port ∧ (s.beginMove k l).settings = s.settings ∧
    (s.beginMove k l).inputs = s.inputs ∧ (s.beginMove k l).outputs = s.outputs ∧
    (s.beginMove k l).freeCount = s.freeCount ∧ (s.beginMove k l).pending = s.pending := by
  unfold State.beginMove; simp

@[simp] theorem State.exchangeIfMay_frame (s : State) :
    (s.exchangeIfMay).table = s.table ∧ (s.exchangeIfMay).nextNumber = s.nextNumber ∧
    (s.exchangeIfMay).runCounter = s.runCounter ∧ (s.exchangeIfMay).stations = s.stations ∧
    (s.exchangeIfMay).stretch = s.stretch ∧ (s.exchangeIfMay).chain = s.chain ∧
    (s.exchangeIfMay).conditions = s.conditions ∧ (s.exchangeIfMay).slots = s.slots ∧
    (s.exchangeIfMay).alternation = s.alternation ∧ (s.exchangeIfMay).head = s.head ∧
    (s.exchangeIfMay).drive = s.drive ∧ (s.exchangeIfMay).machine = s.machine ∧
    (s.exchangeIfMay).alarms = s.alarms ∧ (s.exchangeIfMay).port = s.port ∧
    (s.exchangeIfMay).settings = s.settings ∧ (s.exchangeIfMay).inputs = s.inputs ∧
    (s.exchangeIfMay).outputs = s.outputs ∧ (s.exchangeIfMay).freeCount = s.freeCount ∧
    (s.exchangeIfMay).pending = s.pending := by
  unfold State.exchangeIfMay; dsimp only; (repeat' split) <;> simp

@[simp] theorem State.transferEnds_frame (s : State) :
    (s.transferEnds).table = s.table ∧ (s.transferEnds).nextNumber = s.nextNumber ∧
    (s.transferEnds).runCounter = s.runCounter ∧ (s.transferEnds).stations = s.stations ∧
    (s.transferEnds).stretch = s.stretch ∧ (s.transferEnds).chain = s.chain ∧
    (s.transferEnds).conditions = s.conditions ∧ (s.transferEnds).slots = s.slots ∧
    (s.transferEnds).alternation = s.alternation ∧ (s.transferEnds).axes = s.axes ∧
    (s.transferEnds).head = s.head ∧ (s.transferEnds).drive = s.drive ∧
    (s.transferEnds).machine = s.machine ∧ (s.transferEnds).alarms = s.alarms ∧
    (s.transferEnds).port = s.port ∧ (s.transferEnds).settings = s.settings ∧
    (s.transferEnds).inputs = s.inputs ∧ (s.transferEnds).freeCount = s.freeCount ∧
    (s.transferEnds).pending = s.pending := by
  unfold State.transferEnds; dsimp only; (repeat' split) <;> simp

@[simp] theorem State.afterTransfer_frame (s : State) (present : Bool) :
    (s.afterTransfer present).nextNumber = s.nextNumber ∧
    (s.afterTransfer present).runCounter = s.runCounter ∧
    (s.afterTransfer present).stations = s.stations ∧ (s.afterTransfer present).chain = s.chain ∧
    (s.afterTransfer present).conditions = s.conditions ∧
    (s.afterTransfer present).alternation = s.alternation ∧
    (s.afterTransfer present).axes = s.axes ∧ (s.afterTransfer present).head = s.head ∧
    (s.afterTransfer present).drive = s.drive ∧ (s.afterTransfer present).machine = s.machine ∧
    (s.afterTransfer present).alarms = s.alarms ∧ (s.afterTransfer present).port = s.port ∧
    (s.afterTransfer present).settings = s.settings ∧ (s.afterTransfer present).inputs = s.inputs ∧
    (s.afterTransfer present).freeCount = s.freeCount ∧
    (s.afterTransfer present).pending = s.pending := by
  unfold State.afterTransfer; (repeat' split) <;> simp

@[simp] theorem State.exchangeContinue_frame (s : State) (present : Bool) :
    (s.exchangeContinue present).nextNumber = s.nextNumber ∧
    (s.exchangeContinue present).runCounter = s.runCounter ∧
    (s.exchangeContinue present).stations = s.stations ∧
    (s.exchangeContinue present).chain = s.chain ∧
    (s.exchangeContinue present).conditions = s.conditions ∧
    (s.exchangeContinue present).alternation = s.alternation ∧
    (s.exchangeContinue present).axes = s.axes ∧ (s.exchangeContinue present).head = s.head ∧
    (s.exchangeContinue present).drive = s.drive ∧
    (s.exchangeContinue present).machine = s.machine ∧
    (s.exchangeContinue present).alarms = s.alarms ∧ (s.exchangeContinue present).port = s.port ∧
    (s.exchangeContinue present).settings = s.settings ∧
    (s.exchangeContinue present).inputs = s.inputs ∧
    (s.exchangeContinue present).freeCount = s.freeCount ∧
    (s.exchangeContinue present).pending = s.pending := by
  unfold State.exchangeContinue; dsimp only; (repeat' split) <;> simp

@[simp] theorem State.setStation_frame (s : State) (k : Nat) (st : Station) :
    (s.setStation k st).table = s.table ∧ (s.setStation k st).boards = s.boards ∧
    (s.setStation k st).nextNumber = s.nextNumber ∧ (s.setStation k st).runCounter = s.runCounter ∧
    (s.setStation k st).exchange = s.exchange ∧ (s.setStation k st).stretch = s.stretch ∧
    (s.setStation k st).chain = s.chain ∧ (s.setStation k st).conditions = s.conditions ∧
    (s.setStation k st).slots = s.slots ∧ (s.setStation k st).alternation = s.alternation ∧
    (s.setStation k st).axes = s.axes ∧ (s.setStation k st).head = s.head ∧
    (s.setStation k st).drive = s.drive ∧ (s.setStation k st).machine = s.machine ∧
    (s.setStation k st).port = s.port ∧ (s.setStation k st).settings = s.settings ∧
    (s.setStation k st).inputs = s.inputs ∧ (s.setStation k st).outputs = s.outputs ∧
    (s.setStation k st).freeCount = s.freeCount ∧ (s.setStation k st).pending = s.pending := by
  unfold State.setStation; simp

@[simp] theorem State.raiseIfLow_frame (s : State) (k : Nat) (b : Bool) :
    (s.raiseIfLow k b).nextNumber = s.nextNumber ∧ (s.raiseIfLow k b).runCounter = s.runCounter ∧
    (s.raiseIfLow k b).conditions = s.conditions ∧ (s.raiseIfLow k b).alternation = s.alternation ∧
    (s.raiseIfLow k b).port = s.port ∧ (s.raiseIfLow k b).settings = s.settings ∧
    (s.raiseIfLow k b).inputs = s.inputs ∧ (s.raiseIfLow k b).freeCount = s.freeCount ∧
    (s.raiseIfLow k b).pending = s.pending := by
  unfold State.raiseIfLow; (repeat' split) <;> simp

@[simp] theorem State.raiseIfEmptied_frame (s : State) (k : Nat) (b : StationState) :
    (s.raiseIfEmptied k b).nextNumber = s.nextNumber ∧
    (s.raiseIfEmptied k b).runCounter = s.runCounter ∧
    (s.raiseIfEmptied k b).conditions = s.conditions ∧
    (s.raiseIfEmptied k b).alternation = s.alternation ∧ (s.raiseIfEmptied k b).port = s.port ∧
    (s.raiseIfEmptied k b).settings = s.settings ∧ (s.raiseIfEmptied k b).inputs = s.inputs ∧
    (s.raiseIfEmptied k b).freeCount = s.freeCount ∧ (s.raiseIfEmptied k b).pending = s.pending := by
  unfold State.raiseIfEmptied; (repeat' split) <;> simp

@[simp] theorem State.raiseIfSuspect_frame (s : State) (k : Nat) (b : StationState) :
    (s.raiseIfSuspect k b).nextNumber = s.nextNumber ∧
    (s.raiseIfSuspect k b).runCounter = s.runCounter ∧
    (s.raiseIfSuspect k b).conditions = s.conditions ∧
    (s.raiseIfSuspect k b).alternation = s.alternation ∧ (s.raiseIfSuspect k b).port = s.port ∧
    (s.raiseIfSuspect k b).settings = s.settings ∧ (s.raiseIfSuspect k b).inputs = s.inputs ∧
    (s.raiseIfSuspect k b).freeCount = s.freeCount ∧ (s.raiseIfSuspect k b).pending = s.pending := by
  unfold State.raiseIfSuspect; (repeat' split) <;> simp

@[simp] theorem State.shift_frame (s : State) :
    (s.shift).table = s.table ∧ (s.shift).boards = s.boards ∧ (s.shift).nextNumber = s.nextNumber ∧
    (s.shift).runCounter = s.runCounter ∧ (s.shift).exchange = s.exchange ∧
    (s.shift).stations = s.stations ∧ (s.shift).conditions = s.conditions ∧
    (s.shift).alternation = s.alternation ∧ (s.shift).axes = s.axes ∧ (s.shift).head = s.head ∧
    (s.shift).drive = s.drive ∧ (s.shift).machine = s.machine ∧ (s.shift).port = s.port ∧
    (s.shift).settings = s.settings ∧ (s.shift).inputs = s.inputs ∧ (s.shift).outputs = s.outputs ∧
    (s.shift).freeCount = s.freeCount ∧ (s.shift).pending = s.pending := by
  unfold State.shift; dsimp only; (repeat' split) <;> simp

@[simp] theorem State.assign_frame (s : State) (p : Parity) (n k : Nat) :
    (s.assign p n k).nextNumber = s.nextNumber ∧ (s.assign p n k).runCounter = s.runCounter ∧
    (s.assign p n k).exchange = s.exchange ∧ (s.assign p n k).stations = s.stations ∧
    (s.assign p n k).chain = s.chain ∧ (s.assign p n k).conditions = s.conditions ∧
    (s.assign p n k).slots = s.slots ∧ (s.assign p n k).alternation = s.alternation ∧
    (s.assign p n k).axes = s.axes ∧ (s.assign p n k).head = s.head ∧
    (s.assign p n k).drive = s.drive ∧ (s.assign p n k).machine = s.machine ∧
    (s.assign p n k).alarms = s.alarms ∧ (s.assign p n k).port = s.port ∧
    (s.assign p n k).settings = s.settings ∧ (s.assign p n k).inputs = s.inputs ∧
    (s.assign p n k).outputs = s.outputs ∧ (s.assign p n k).freeCount = s.freeCount ∧
    (s.assign p n k).pending = s.pending := by
  unfold State.assign; simp

@[simp] theorem State.stationReacts_frame (s : State) (k : Nat) :
    (s.stationReacts k).nextNumber = s.nextNumber ∧ (s.stationReacts k).runCounter = s.runCounter ∧
    (s.stationReacts k).exchange = s.exchange ∧ (s.stationReacts k).chain = s.chain ∧
    (s.stationReacts k).conditions = s.conditions ∧ (s.stationReacts k).slots = s.slots ∧
    (s.stationReacts k).alternation = s.alternation ∧ (s.stationReacts k).axes = s.axes ∧
    (s.stationReacts k).head = s.head ∧ (s.stationReacts k).drive = s.drive ∧
    (s.stationReacts k).machine = s.machine ∧ (s.stationReacts k).alarms = s.alarms ∧
    (s.stationReacts k).port = s.port ∧ (s.stationReacts k).settings = s.settings ∧
    (s.stationReacts k).inputs = s.inputs ∧ (s.stationReacts k).outputs = s.outputs ∧
    (s.stationReacts k).freeCount = s.freeCount ∧ (s.stationReacts k).pending = s.pending := by
  unfold State.stationReacts; (repeat' split) <;> simp

@[simp] theorem State.reportCondition_frame (s : State) (id : Option Nat) (j : Judgment) :
    (s.reportCondition id j).table = s.table ∧ (s.reportCondition id j).boards = s.boards ∧
    (s.reportCondition id j).nextNumber = s.nextNumber ∧
    (s.reportCondition id j).runCounter = s.runCounter ∧
    (s.reportCondition id j).exchange = s.exchange ∧
    (s.reportCondition id j).stations = s.stations ∧ (s.reportCondition id j).stretch = s.stretch ∧
    (s.reportCondition id j).chain = s.chain ∧ (s.reportCondition id j).slots = s.slots ∧
    (s.reportCondition id j).alternation = s.alternation ∧ (s.reportCondition id j).axes = s.axes ∧
    (s.reportCondition id j).head = s.head ∧ (s.reportCondition id j).drive = s.drive ∧
    (s.reportCondition id j).machine = s.machine ∧ (s.reportCondition id j).alarms = s.alarms ∧
    (s.reportCondition id j).port = s.port ∧ (s.reportCondition id j).settings = s.settings ∧
    (s.reportCondition id j).inputs = s.inputs ∧ (s.reportCondition id j).outputs = s.outputs ∧
    (s.reportCondition id j).freeCount = s.freeCount ∧ (s.reportCondition id j).pending = s.pending := by
  unfold State.reportCondition; (repeat' split) <;> simp

@[simp] theorem State.writeJudgment_frame (s : State) (c : ClipState) (j : Judgment) :
    (s.writeJudgment c j).table = s.table ∧ (s.writeJudgment c j).boards = s.boards ∧
    (s.writeJudgment c j).nextNumber = s.nextNumber ∧
    (s.writeJudgment c j).runCounter = s.runCounter ∧ (s.writeJudgment c j).exchange = s.exchange ∧
    (s.writeJudgment c j).stations = s.stations ∧ (s.writeJudgment c j).chain = s.chain ∧
    (s.writeJudgment c j).conditions = s.conditions ∧ (s.writeJudgment c j).slots = s.slots ∧
    (s.writeJudgment c j).alternation = s.alternation ∧ (s.writeJudgment c j).axes = s.axes ∧
    (s.writeJudgment c j).head = s.head ∧ (s.writeJudgment c j).drive = s.drive ∧
    (s.writeJudgment c j).machine = s.machine ∧ (s.writeJudgment c j).alarms = s.alarms ∧
    (s.writeJudgment c j).port = s.port ∧ (s.writeJudgment c j).settings = s.settings ∧
    (s.writeJudgment c j).inputs = s.inputs ∧ (s.writeJudgment c j).outputs = s.outputs ∧
    (s.writeJudgment c j).freeCount = s.freeCount ∧ (s.writeJudgment c j).pending = s.pending := by
  unfold State.writeJudgment; simp

@[simp] theorem State.judgeUncarried_frame (s : State) (present : Bool) :
    (s.judgeUncarried present).table = s.table ∧ (s.judgeUncarried present).boards = s.boards ∧
    (s.judgeUncarried present).nextNumber = s.nextNumber ∧
    (s.judgeUncarried present).runCounter = s.runCounter ∧
    (s.judgeUncarried present).exchange = s.exchange ∧
    (s.judgeUncarried present).stations = s.stations ∧ (s.judgeUncarried present).chain = s.chain ∧
    (s.judgeUncarried present).conditions = s.conditions ∧
    (s.judgeUncarried present).slots = s.slots ∧
    (s.judgeUncarried present).alternation = s.alternation ∧
    (s.judgeUncarried present).axes = s.axes ∧ (s.judgeUncarried present).head = s.head ∧
    (s.judgeUncarried present).drive = s.drive ∧ (s.judgeUncarried present).machine = s.machine ∧
    (s.judgeUncarried present).alarms = s.alarms ∧ (s.judgeUncarried present).port = s.port ∧
    (s.judgeUncarried present).settings = s.settings ∧
    (s.judgeUncarried present).inputs = s.inputs ∧ (s.judgeUncarried present).outputs = s.outputs ∧
    (s.judgeUncarried present).freeCount = s.freeCount ∧
    (s.judgeUncarried present).pending = s.pending := by
  unfold State.judgeUncarried; (repeat' split) <;> simp

@[simp] theorem State.countedRecallOf_frame (s : State) (c : Option Call) :
    ((s.countedRecallOf c).1).nextNumber = s.nextNumber ∧
    ((s.countedRecallOf c).1).runCounter = s.runCounter ∧
    ((s.countedRecallOf c).1).exchange = s.exchange ∧
    ((s.countedRecallOf c).1).stations = s.stations ∧
    ((s.countedRecallOf c).1).stretch = s.stretch ∧ ((s.countedRecallOf c).1).chain = s.chain ∧
    ((s.countedRecallOf c).1).conditions = s.conditions ∧
    ((s.countedRecallOf c).1).slots = s.slots ∧
    ((s.countedRecallOf c).1).alternation = s.alternation ∧
    ((s.countedRecallOf c).1).axes = s.axes ∧ ((s.countedRecallOf c).1).head = s.head ∧
    ((s.countedRecallOf c).1).drive = s.drive ∧ ((s.countedRecallOf c).1).machine = s.machine ∧
    ((s.countedRecallOf c).1).port = s.port ∧ ((s.countedRecallOf c).1).settings = s.settings ∧
    ((s.countedRecallOf c).1).inputs = s.inputs ∧ ((s.countedRecallOf c).1).outputs = s.outputs ∧
    ((s.countedRecallOf c).1).freeCount = s.freeCount ∧
    ((s.countedRecallOf c).1).pending = s.pending := by
  unfold State.countedRecallOf; (repeat' split) <;> simp

@[simp] theorem State.verifyReacts_frame (s : State) (present leads : Bool) :
    ((s.verifyReacts present leads).1).nextNumber = s.nextNumber ∧
    ((s.verifyReacts present leads).1).runCounter = s.runCounter ∧
    ((s.verifyReacts present leads).1).exchange = s.exchange ∧
    ((s.verifyReacts present leads).1).stations = s.stations ∧
    ((s.verifyReacts present leads).1).chain = s.chain ∧
    ((s.verifyReacts present leads).1).slots = s.slots ∧
    ((s.verifyReacts present leads).1).alternation = s.alternation ∧
    ((s.verifyReacts present leads).1).axes = s.axes ∧
    ((s.verifyReacts present leads).1).head = s.head ∧
    ((s.verifyReacts present leads).1).drive = s.drive ∧
    ((s.verifyReacts present leads).1).machine = s.machine ∧
    ((s.verifyReacts present leads).1).port = s.port ∧
    ((s.verifyReacts present leads).1).settings = s.settings ∧
    ((s.verifyReacts present leads).1).inputs = s.inputs ∧
    ((s.verifyReacts present leads).1).outputs = s.outputs ∧
    ((s.verifyReacts present leads).1).freeCount = s.freeCount ∧
    ((s.verifyReacts present leads).1).pending = s.pending := by
  unfold State.verifyReacts; dsimp only; (repeat' split) <;> simp

@[simp] theorem State.eject_frame (s : State) :
    (s.eject).table = s.table ∧ (s.eject).boards = s.boards ∧ (s.eject).nextNumber = s.nextNumber ∧
    (s.eject).runCounter = s.runCounter ∧ (s.eject).exchange = s.exchange ∧
    (s.eject).stations = s.stations ∧ (s.eject).stretch = s.stretch ∧ (s.eject).chain = s.chain ∧
    (s.eject).conditions = s.conditions ∧ (s.eject).slots = s.slots ∧
    (s.eject).alternation = s.alternation ∧ (s.eject).axes = s.axes ∧ (s.eject).head = s.head ∧
    (s.eject).drive = s.drive ∧ (s.eject).machine = s.machine ∧ (s.eject).alarms = s.alarms ∧
    (s.eject).port = s.port ∧ (s.eject).settings = s.settings ∧ (s.eject).inputs = s.inputs ∧
    (s.eject).freeCount = s.freeCount ∧ (s.eject).pending = s.pending := by
  unfold State.eject; simp

@[simp] theorem State.gateReacts_frame (s : State) :
    (s.gateReacts).nextNumber = s.nextNumber ∧ (s.gateReacts).runCounter = s.runCounter ∧
    (s.gateReacts).exchange = s.exchange ∧ (s.gateReacts).stations = s.stations ∧
    (s.gateReacts).chain = s.chain ∧ (s.gateReacts).conditions = s.conditions ∧
    (s.gateReacts).slots = s.slots ∧ (s.gateReacts).alternation = s.alternation ∧
    (s.gateReacts).axes = s.axes ∧ (s.gateReacts).head = s.head ∧ (s.gateReacts).drive = s.drive ∧
    (s.gateReacts).machine = s.machine ∧ (s.gateReacts).alarms = s.alarms ∧
    (s.gateReacts).port = s.port ∧ (s.gateReacts).settings = s.settings ∧
    (s.gateReacts).inputs = s.inputs ∧ (s.gateReacts).freeCount = s.freeCount ∧
    (s.gateReacts).pending = s.pending := by
  unfold State.gateReacts; (repeat' split) <;> simp

@[simp] theorem State.plannerReacts_frame (s : State) :
    (s.plannerReacts).nextNumber = s.nextNumber ∧ (s.plannerReacts).runCounter = s.runCounter ∧
    (s.plannerReacts).exchange = s.exchange ∧ (s.plannerReacts).stations = s.stations ∧
    (s.plannerReacts).chain = s.chain ∧ (s.plannerReacts).conditions = s.conditions ∧
    (s.plannerReacts).axes = s.axes ∧ (s.plannerReacts).head = s.head ∧
    (s.plannerReacts).drive = s.drive ∧ (s.plannerReacts).machine = s.machine ∧
    (s.plannerReacts).alarms = s.alarms ∧ (s.plannerReacts).port = s.port ∧
    (s.plannerReacts).settings = s.settings ∧ (s.plannerReacts).inputs = s.inputs ∧
    (s.plannerReacts).outputs = s.outputs ∧ (s.plannerReacts).freeCount = s.freeCount ∧
    (s.plannerReacts).pending = s.pending := by
  unfold State.plannerReacts; (repeat' split) <;> simp

/-- The scan changes the station it commits, the entering clip and what the call request reaches. -/
theorem State.scanFrom_frame (s : State) (fuel : Nat) (l : List Nat) :
    ((s.scanFrom fuel l).1).nextNumber = s.nextNumber ∧
    ((s.scanFrom fuel l).1).runCounter = s.runCounter ∧
    ((s.scanFrom fuel l).1).exchange = s.exchange ∧ ((s.scanFrom fuel l).1).chain = s.chain ∧
    ((s.scanFrom fuel l).1).conditions = s.conditions ∧ ((s.scanFrom fuel l).1).slots = s.slots ∧
    ((s.scanFrom fuel l).1).alternation = s.alternation ∧ ((s.scanFrom fuel l).1).axes = s.axes ∧
    ((s.scanFrom fuel l).1).head = s.head ∧ ((s.scanFrom fuel l).1).drive = s.drive ∧
    ((s.scanFrom fuel l).1).machine = s.machine ∧ ((s.scanFrom fuel l).1).alarms = s.alarms ∧
    ((s.scanFrom fuel l).1).port = s.port ∧ ((s.scanFrom fuel l).1).settings = s.settings ∧
    ((s.scanFrom fuel l).1).inputs = s.inputs ∧ ((s.scanFrom fuel l).1).outputs = s.outputs ∧
    ((s.scanFrom fuel l).1).freeCount = s.freeCount ∧ ((s.scanFrom fuel l).1).pending = s.pending := by
  induction fuel generalizing l with
  | zero => simp [State.scanFrom]
  | succ fuel ih =>
    unfold State.scanFrom
    split
    · simp
    · split
      · simp
      · split
        · rename_i e
          unfold State.commit at e
          split at e
          · simp at e
          · split at e
            · cases e; simp
            · simp at e
        · exact ih _

@[simp] theorem State.callScan_frame (s : State) :
    (s.callScan.1).nextNumber = s.nextNumber ∧ (s.callScan.1).runCounter = s.runCounter ∧
    (s.callScan.1).exchange = s.exchange ∧ (s.callScan.1).chain = s.chain ∧
    (s.callScan.1).conditions = s.conditions ∧ (s.callScan.1).slots = s.slots ∧
    (s.callScan.1).alternation = s.alternation ∧ (s.callScan.1).axes = s.axes ∧
    (s.callScan.1).head = s.head ∧ (s.callScan.1).drive = s.drive ∧
    (s.callScan.1).machine = s.machine ∧ (s.callScan.1).port = s.port ∧
    (s.callScan.1).settings = s.settings ∧ (s.callScan.1).inputs = s.inputs ∧
    (s.callScan.1).outputs = s.outputs ∧ (s.callScan.1).freeCount = s.freeCount ∧
    (s.callScan.1).pending = s.pending := by
  unfold State.callScan
  have h := s.scanFrom_frame (Config.stationCount + 1) []
  split
  · split <;> rename_i e <;> rw [e] at h <;> dsimp only at h <;> simp [h]
  · simp

@[simp] theorem State.reacts_frame (s : State) (present leads : Bool) (r : Reactor) :
    ((s.reacts present leads r).1).nextNumber = s.nextNumber ∧
    ((s.reacts present leads r).1).runCounter = s.runCounter ∧
    ((s.reacts present leads r).1).exchange = s.exchange ∧
    ((s.reacts present leads r).1).chain = s.chain ∧ ((s.reacts present leads r).1).axes = s.axes ∧
    ((s.reacts present leads r).1).head = s.head ∧ ((s.reacts present leads r).1).drive = s.drive ∧
    ((s.reacts present leads r).1).machine = s.machine ∧
    ((s.reacts present leads r).1).port = s.port ∧
    ((s.reacts present leads r).1).settings = s.settings ∧
    ((s.reacts present leads r).1).inputs = s.inputs ∧
    ((s.reacts present leads r).1).freeCount = s.freeCount ∧
    ((s.reacts present leads r).1).pending = s.pending := by
  unfold State.reacts; (repeat' split) <;> simp

@[simp] theorem State.formEnds_frame (s : State) :
    (s.formEnds).table = s.table ∧ (s.formEnds).boards = s.boards ∧
    (s.formEnds).nextNumber = s.nextNumber ∧ (s.formEnds).runCounter = s.runCounter ∧
    (s.formEnds).exchange = s.exchange ∧ (s.formEnds).stations = s.stations ∧
    (s.formEnds).stretch = s.stretch ∧ (s.formEnds).chain = s.chain ∧
    (s.formEnds).conditions = s.conditions ∧ (s.formEnds).slots = s.slots ∧
    (s.formEnds).alternation = s.alternation ∧ (s.formEnds).axes = s.axes ∧
    (s.formEnds).drive = s.drive ∧ (s.formEnds).machine = s.machine ∧
    (s.formEnds).alarms = s.alarms ∧ (s.formEnds).port = s.port ∧
    (s.formEnds).settings = s.settings ∧ (s.formEnds).inputs = s.inputs ∧
    (s.formEnds).freeCount = s.freeCount ∧ (s.formEnds).pending = s.pending := by
  unfold State.formEnds; (repeat' split) <;> simp

@[simp] theorem State.axesChanged_frame (s : State) (present : Bool) :
    (s.axesChanged present).nextNumber = s.nextNumber ∧
    (s.axesChanged present).runCounter = s.runCounter ∧
    (s.axesChanged present).stations = s.stations ∧
    (s.axesChanged present).conditions = s.conditions ∧
    (s.axesChanged present).alternation = s.alternation ∧ (s.axesChanged present).axes = s.axes ∧
    (s.axesChanged present).drive = s.drive ∧ (s.axesChanged present).machine = s.machine ∧
    (s.axesChanged present).alarms = s.alarms ∧ (s.axesChanged present).port = s.port ∧
    (s.axesChanged present).settings = s.settings ∧ (s.axesChanged present).inputs = s.inputs ∧
    (s.axesChanged present).freeCount = s.freeCount ∧ (s.axesChanged present).pending = s.pending := by
  unfold State.axesChanged; simp

@[simp] theorem State.enterStroke_frame (s : State) :
    (s.enterStroke).table = s.table ∧ (s.enterStroke).boards = s.boards ∧
    (s.enterStroke).nextNumber = s.nextNumber ∧ (s.enterStroke).runCounter = s.runCounter ∧
    (s.enterStroke).exchange = s.exchange ∧ (s.enterStroke).stations = s.stations ∧
    (s.enterStroke).stretch = s.stretch ∧ (s.enterStroke).chain = s.chain ∧
    (s.enterStroke).conditions = s.conditions ∧ (s.enterStroke).slots = s.slots ∧
    (s.enterStroke).alternation = s.alternation ∧ (s.enterStroke).axes = s.axes ∧
    (s.enterStroke).machine = s.machine ∧ (s.enterStroke).alarms = s.alarms ∧
    (s.enterStroke).port = s.port ∧ (s.enterStroke).settings = s.settings ∧
    (s.enterStroke).inputs = s.inputs ∧ (s.enterStroke).freeCount = s.freeCount ∧
    (s.enterStroke).pending = s.pending := by
  unfold State.enterStroke; simp

@[simp] theorem State.enterRetract_frame (s : State) :
    (s.enterRetract).table = s.table ∧ (s.enterRetract).boards = s.boards ∧
    (s.enterRetract).nextNumber = s.nextNumber ∧ (s.enterRetract).runCounter = s.runCounter ∧
    (s.enterRetract).exchange = s.exchange ∧ (s.enterRetract).stations = s.stations ∧
    (s.enterRetract).chain = s.chain ∧ (s.enterRetract).conditions = s.conditions ∧
    (s.enterRetract).slots = s.slots ∧ (s.enterRetract).alternation = s.alternation ∧
    (s.enterRetract).axes = s.axes ∧ (s.enterRetract).drive = s.drive ∧
    (s.enterRetract).machine = s.machine ∧ (s.enterRetract).alarms = s.alarms ∧
    (s.enterRetract).port = s.port ∧ (s.enterRetract).settings = s.settings ∧
    (s.enterRetract).inputs = s.inputs ∧ (s.enterRetract).freeCount = s.freeCount ∧
    (s.enterRetract).pending = s.pending := by
  unfold State.enterRetract; simp

@[simp] theorem State.requestInsertion_frame (s : State) (h : Head) :
    (s.requestInsertion h).nextNumber = s.nextNumber ∧
    (s.requestInsertion h).runCounter = s.runCounter ∧
    (s.requestInsertion h).exchange = s.exchange ∧ (s.requestInsertion h).stations = s.stations ∧
    (s.requestInsertion h).stretch = s.stretch ∧ (s.requestInsertion h).chain = s.chain ∧
    (s.requestInsertion h).conditions = s.conditions ∧ (s.requestInsertion h).slots = s.slots ∧
    (s.requestInsertion h).alternation = s.alternation ∧ (s.requestInsertion h).axes = s.axes ∧
    (s.requestInsertion h).head = s.head ∧ (s.requestInsertion h).drive = s.drive ∧
    (s.requestInsertion h).machine = s.machine ∧ (s.requestInsertion h).alarms = s.alarms ∧
    (s.requestInsertion h).port = s.port ∧ (s.requestInsertion h).settings = s.settings ∧
    (s.requestInsertion h).inputs = s.inputs ∧ (s.requestInsertion h).outputs = s.outputs ∧
    (s.requestInsertion h).freeCount = s.freeCount ∧ (s.requestInsertion h).pending = s.pending := by
  unfold State.requestInsertion; (repeat' split) <;> simp

@[simp] theorem State.releaseCycleSlot_frame (s : State) :
    (s.releaseCycleSlot).table = s.table ∧ (s.releaseCycleSlot).boards = s.boards ∧
    (s.releaseCycleSlot).nextNumber = s.nextNumber ∧
    (s.releaseCycleSlot).runCounter = s.runCounter ∧ (s.releaseCycleSlot).exchange = s.exchange ∧
    (s.releaseCycleSlot).stations = s.stations ∧ (s.releaseCycleSlot).stretch = s.stretch ∧
    (s.releaseCycleSlot).chain = s.chain ∧ (s.releaseCycleSlot).conditions = s.conditions ∧
    (s.releaseCycleSlot).alternation = s.alternation ∧ (s.releaseCycleSlot).axes = s.axes ∧
    (s.releaseCycleSlot).head = s.head ∧ (s.releaseCycleSlot).drive = s.drive ∧
    (s.releaseCycleSlot).machine = s.machine ∧ (s.releaseCycleSlot).alarms = s.alarms ∧
    (s.releaseCycleSlot).port = s.port ∧ (s.releaseCycleSlot).settings = s.settings ∧
    (s.releaseCycleSlot).inputs = s.inputs ∧ (s.releaseCycleSlot).outputs = s.outputs ∧
    (s.releaseCycleSlot).freeCount = s.freeCount ∧ (s.releaseCycleSlot).pending = s.pending := by
  unfold State.releaseCycleSlot; (repeat' split) <;> simp

@[simp] theorem State.headClearSteps_frame (s : State) (b : Bool) :
    (s.headClearSteps b).table = s.table ∧ (s.headClearSteps b).nextNumber = s.nextNumber ∧
    (s.headClearSteps b).runCounter = s.runCounter ∧ (s.headClearSteps b).stations = s.stations ∧
    (s.headClearSteps b).stretch = s.stretch ∧ (s.headClearSteps b).conditions = s.conditions ∧
    (s.headClearSteps b).alternation = s.alternation ∧ (s.headClearSteps b).drive = s.drive ∧
    (s.headClearSteps b).machine = s.machine ∧ (s.headClearSteps b).alarms = s.alarms ∧
    (s.headClearSteps b).port = s.port ∧ (s.headClearSteps b).settings = s.settings ∧
    (s.headClearSteps b).inputs = s.inputs ∧ (s.headClearSteps b).outputs = s.outputs ∧
    (s.headClearSteps b).freeCount = s.freeCount ∧ (s.headClearSteps b).pending = s.pending := by
  unfold State.headClearSteps; dsimp only; (repeat' split) <;> simp

@[simp] theorem State.headClear_frame (s : State) (b : Bool) :
    (s.headClear b).table = s.table ∧ (s.headClear b).nextNumber = s.nextNumber ∧
    (s.headClear b).runCounter = s.runCounter ∧ (s.headClear b).stations = s.stations ∧
    (s.headClear b).stretch = s.stretch ∧ (s.headClear b).conditions = s.conditions ∧
    (s.headClear b).alternation = s.alternation ∧ (s.headClear b).drive = s.drive ∧
    (s.headClear b).machine = s.machine ∧ (s.headClear b).alarms = s.alarms ∧
    (s.headClear b).port = s.port ∧ (s.headClear b).settings = s.settings ∧
    (s.headClear b).inputs = s.inputs ∧ (s.headClear b).outputs = s.outputs ∧
    (s.headClear b).freeCount = s.freeCount ∧ (s.headClear b).pending = s.pending := by
  unfold State.headClear; (repeat' split) <;> simp

@[simp] theorem State.resolveDue_frame (s : State) (k : Nat) :
    (s.resolveDue k).nextNumber = s.nextNumber ∧ (s.resolveDue k).runCounter = s.runCounter ∧
    (s.resolveDue k).exchange = s.exchange ∧ (s.resolveDue k).chain = s.chain ∧
    (s.resolveDue k).conditions = s.conditions ∧ (s.resolveDue k).slots = s.slots ∧
    (s.resolveDue k).alternation = s.alternation ∧ (s.resolveDue k).axes = s.axes ∧
    (s.resolveDue k).head = s.head ∧ (s.resolveDue k).drive = s.drive ∧
    (s.resolveDue k).machine = s.machine ∧ (s.resolveDue k).alarms = s.alarms ∧
    (s.resolveDue k).port = s.port ∧ (s.resolveDue k).settings = s.settings ∧
    (s.resolveDue k).inputs = s.inputs ∧ (s.resolveDue k).outputs = s.outputs ∧
    (s.resolveDue k).freeCount = s.freeCount ∧ (s.resolveDue k).pending = s.pending := by
  unfold State.resolveDue; (repeat' split) <;> simp

@[simp] theorem State.resolveDueFeeds_frame (s : State) :
    (s.resolveDueFeeds).nextNumber = s.nextNumber ∧ (s.resolveDueFeeds).runCounter = s.runCounter ∧
    (s.resolveDueFeeds).exchange = s.exchange ∧ (s.resolveDueFeeds).chain = s.chain ∧
    (s.resolveDueFeeds).conditions = s.conditions ∧ (s.resolveDueFeeds).slots = s.slots ∧
    (s.resolveDueFeeds).alternation = s.alternation ∧ (s.resolveDueFeeds).axes = s.axes ∧
    (s.resolveDueFeeds).head = s.head ∧ (s.resolveDueFeeds).drive = s.drive ∧
    (s.resolveDueFeeds).machine = s.machine ∧ (s.resolveDueFeeds).alarms = s.alarms ∧
    (s.resolveDueFeeds).port = s.port ∧ (s.resolveDueFeeds).settings = s.settings ∧
    (s.resolveDueFeeds).inputs = s.inputs ∧ (s.resolveDueFeeds).outputs = s.outputs ∧
    (s.resolveDueFeeds).freeCount = s.freeCount ∧ (s.resolveDueFeeds).pending = s.pending := by
  unfold State.resolveDueFeeds
  refine ⟨?_, ?_, ?_, ?_, ?_, ?_, ?_, ?_, ?_, ?_, ?_, ?_, ?_, ?_, ?_, ?_, ?_, ?_⟩ <;>
    exact foldl_keeps _ _ (by simp) _ _

/-- The blocks that react at a completion change only what one of them may change. -/
theorem State.reactInOrder_frame (present leads : Bool) (rs : List Reactor) (s : State) :
    ((State.reactInOrder present leads rs s).1).nextNumber = s.nextNumber ∧
    ((State.reactInOrder present leads rs s).1).runCounter = s.runCounter ∧
    ((State.reactInOrder present leads rs s).1).exchange = s.exchange ∧
    ((State.reactInOrder present leads rs s).1).chain = s.chain ∧
    ((State.reactInOrder present leads rs s).1).axes = s.axes ∧
    ((State.reactInOrder present leads rs s).1).head = s.head ∧
    ((State.reactInOrder present leads rs s).1).drive = s.drive ∧
    ((State.reactInOrder present leads rs s).1).machine = s.machine ∧
    ((State.reactInOrder present leads rs s).1).port = s.port ∧
    ((State.reactInOrder present leads rs s).1).settings = s.settings ∧
    ((State.reactInOrder present leads rs s).1).inputs = s.inputs ∧
    ((State.reactInOrder present leads rs s).1).freeCount = s.freeCount ∧
    ((State.reactInOrder present leads rs s).1).pending = s.pending := by
  induction rs generalizing s with
  | nil => simp [State.reactInOrder]
  | cons r rs ih =>
    have h := ih (s.reacts present leads r).1
    simpa [State.reactInOrder] using h

end Sys2Proof.Machine
end

