-- ==== Sys2Proof/Laws/Operations.lean ====
section
/-! SUPPORT. What each shared operation does to the fields it changes: raisings and reactions, reports
and requests, drops, HALT, targets, and the lengths of the collections. With Laws/Frames.lean, a proof
about a command cites these and unfolds no operation. -/

namespace Sys2Proof.Machine

/-! ## Outcomes -/

theorem event_live {s : State} (h : Live s) (act : State → State) : event s act = .next (act s) := by
  have h' : s.inputs.porN = true := h
  simp [event, h']

theorem Taking.live {s : State} (h : Taking s) : Live s := h.1

/-- A frame that ends while the part takes frames. -/
theorem frameEnd_taking {s : State} (h : Taking s) (act : State → State) :
    frameEnd s act = .next (act s) := by
  simp [frameEnd, event, h.1, h.2]

/-- A frame that ends while the part waits for CS_N to rise ends the wait alone (R208). -/
theorem frameEnd_waiting {s : State} (h : Live s) (hw : s.port.awaitsRise = true)
    (act : State → State) :
    frameEnd s act = .next { s with port := { s.port with awaitsRise := false } } := by
  have h' : s.inputs.porN = true := h
  simp [frameEnd, event, h', hw, State.csRisen]

theorem taken_taking {s : State} (h : Taking s) (cmd : Byte) (act : State → Answer) :
    taken cmd s act = .next ((act s).state.replied cmd (act s).code (act s).payload) :=
  frameEnd_taking h _

theorem answered_replied (s u : State) (h : u.freeCount = s.freeCount) (hp : u.port = s.port)
    (cmd : Byte) (code : ReplyCode) (payload : List Byte) :
    Answered s (u.replied cmd code payload) cmd code payload := by
  simp [Answered, State.replied, h, hp]

/-! ## Parities and views -/

@[simp] theorem otherParity_ne (p : Parity) : otherParity p ≠ p := by cases p <;> decide

@[simp] theorem ne_otherParity (p : Parity) : p ≠ otherParity p := by cases p <;> decide

@[simp] theorem otherParity_otherParity (p : Parity) : otherParity (otherParity p) = p := by
  cases p <;> rfl

theorem eq_or_eq_otherParity (p q : Parity) : q = p ∨ q = otherParity p := by
  cases p <;> cases q <;> decide

theorem State.allLocked_iff (s : State) :
    s.allLocked = true ↔ ∀ a : Axis, (s.axis a).state = .locked := by
  simp [State.allLocked, Quad.all_eq_true, State.axis]

theorem State.working_iff (s : State) :
    s.working = true ↔ s.machine.state = .running ∨ s.machine.state = .draining := by
  unfold State.working; split <;> simp_all

theorem State.pausing_iff (s : State) :
    s.pausing = true ↔ s.machine.state = .pausing ∨ s.machine.state = .paused := by
  unfold State.pausing; split <;> simp_all

theorem State.standing_iff (s : State) :
    s.standing = true ↔ s.machine.state = .start ∨ s.machine.state = .stopped := by
  unfold State.standing; split <;> simp_all

theorem mem_alarmKinds (k : AlarmKind) : k ∈ alarmKinds := by cases k <;> decide

theorem State.anyAlarm_iff (s : State) (test : AlarmRecord → Bool) :
    s.anyAlarm test = true ↔ ∃ k : AlarmKind, (s.alarm k).state ≠ .clear ∧ test (s.alarm k) = true := by
  simp only [State.anyAlarm, List.any_eq_true, Bool.and_eq_true, decide_eq_true_eq]
  exact ⟨fun ⟨k, _, h⟩ => ⟨k, h⟩, fun ⟨k, h⟩ => ⟨k, mem_alarmKinds k, h⟩⟩

theorem State.driveAvailable_iff (s : State) : s.driveAvailable = true ↔ ¬ DriveForbidden s := by
  simp [State.driveAvailable, DriveForbidden, State.claimHalt, State.claimOvertemp,
    State.claimOvercurrent, State.claimSupply, State.claimLockout]
  tauto

/-! ## The alarm records (R192, R193) -/

/-- The record after a raising of kind `k`, its reaction not yet taken. -/
theorem State.alarm_raiseRecord (s : State) (k : AlarmKind) (src : Option Source) :
    (s.raiseRecord k src).alarm k =
      if isEventKind k then ((s.alarm k).raised src).ended s.settings.retryInterval
      else (s.alarm k).raised src := by
  unfold State.raiseRecord State.endCondition; split <;> simp

/-- A raising changes no other record. -/
theorem State.alarm_raiseRecord_ne (s : State) {k l : AlarmKind} (h : l ≠ k)
    (src : Option Source) : (s.raiseRecord k src).alarm l = s.alarm l := by
  unfold State.raiseRecord State.endCondition; split <;> simp [h]

/-- The end of a condition acts on its own record. -/
@[simp] theorem State.alarm_endCondition (s : State) (k l : AlarmKind) :
    (s.endCondition k).alarm l =
      if l = k then (s.alarm k).ended s.settings.retryInterval else s.alarm l := by
  simp [State.endCondition]

theorem alarm_congr {s t : State} (h : t.alarms = s.alarms) (k : AlarmKind) :
    t.alarm k = s.alarm k := by simp [State.alarm, h]

theorem board_congr {s t : State} (h : t.boards = s.boards) (p : Parity) : t.board p = s.board p := by
  simp [State.board, h]

theorem axis_congr {s t : State} (h : t.axes = s.axes) (a : Axis) : t.axis a = s.axis a := by
  simp [State.axis, h]

theorem moveSlot_congr {s t : State} (h : t.slots = s.slots) (p : Parity) :
    t.moveSlot p = s.moveSlot p := by simp [State.moveSlot, h]

theorem clip_congr {s t : State} (h : t.stretch = s.stretch) (q : Nat) : t.clip q = s.clip q := by
  simp [State.clip, h]

theorem slot?_congr {s t : State} (h : t.table = s.table) (n : Nat) : t.slot? n = s.slot? n := by
  simp [State.slot?, h]

theorem station?_congr {s t : State} (h : t.stations = s.stations) (k : Nat) :
    t.station? k = s.station? k := by simp [State.station?, h]

/-- The record of a raising, in the words of the statements (R192, R193). -/
theorem raised_of_alarm {s t : State} {k : AlarmKind} {src : Option Source}
    (h : t.alarm k = (s.raiseRecord k src).alarm k) : Raised s t k src := by
  rw [State.alarm_raiseRecord] at h
  unfold Raised
  rw [h]
  by_cases he : isEventKind k = true
  · simp only [he, if_true]
    unfold AlarmRecord.ended AlarmRecord.raised
    cases (s.alarm k).clearMode <;> simp [saturate]
  · simp only [he]
    simp [AlarmRecord.raised, saturate]

/-- A record that the state before shows in the same way is raised in the same way. -/
theorem raised_congr {s u t : State} {k : AlarmKind} {src : Option Source}
    (ha : s.alarm k = u.alarm k) (hi : s.settings.retryInterval = u.settings.retryInterval)
    (h : Raised s t k src) : Raised u t k src := by
  unfold Raised at *
  rw [ha, hi] at h
  exact h

/-! ## Reactions (R194) -/

theorem State.machine_enterHalted (s : State) :
    s.enterHalted.machine = { state := .halted, returnState := none } := by
  simp [State.enterHalted]

/-! ## The ends of PAUSING and DRAINING (R185, R187) -/

@[simp] theorem State.quiet_machine (s : State) (m : MachineRecord) :
    ({ s with machine := m } : State).quiet = s.quiet := rfl

@[simp] theorem State.drainedOut_machine (s : State) (m : MachineRecord) :
    ({ s with machine := m } : State).drainedOut = s.drainedOut := rfl

@[simp] theorem State.quiet_pausingQuiet (s : State) : s.pausingQuiet.quiet = s.quiet := by
  unfold State.pausingQuiet; split <;> rfl

@[simp] theorem State.drainedOut_pausingQuiet (s : State) :
    s.pausingQuiet.drainedOut = s.drainedOut := by
  unfold State.pausingQuiet; split <;> rfl

/-- The end of DRAINING leaves what its conditions read, but for the lock timers, which stop. -/
theorem State.drainedOut_endDraining (s : State) (h : s.drainedOut = true) :
    s.endDraining.drainedOut = true := by
  simp only [State.drainedOut, State.quiet, Bool.and_eq_true, Bool.not_eq_true'] at h ⊢
  refine ⟨⟨⟨h.1.1.1, h.1.1.2⟩, ⟨⟨?_, h.1.2.1.1.2⟩, h.1.2.1.2⟩, ?_⟩, h.2⟩
  · have hx := h.1.2.1.1.1
    simp only [State.indexInFlight, State.endDraining, decide_eq_false_iff_not] at hx ⊢
    split <;> simp_all
  · simp [State.axesMoving, State.endDraining, Quad.map, AxisRecord.idled]

/-- What the ends do to the machine record: PAUSING to PAUSED, DRAINING to STOPPED, each under its
conditions, and nothing otherwise. -/
theorem State.machine_settle (s : State) :
    s.settle.machine =
      if s.machine.state = .pausing ∧ s.quiet = true then { s.machine with state := .paused }
      else if s.machine.state = .draining ∧ s.drainedOut = true then
        { state := .stopped, returnState := none }
      else s.machine := by
  unfold State.settle State.drainEnd
  rw [State.drainedOut_pausingQuiet]
  unfold State.pausingQuiet
  by_cases hp : s.machine.state = .pausing ∧ s.quiet = true
  · simp [hp]
  · simp only [hp, if_false]
    split <;> rfl

/-- Whatever the ends leave is quiet, or drained out, where the state before was. -/
theorem State.quiet_settle (s : State) (h : s.machine.state = .pausing) :
    s.settle.quiet = s.quiet := by
  unfold State.settle State.drainEnd State.pausingQuiet
  split <;> simp [h]

theorem State.drainedOut_settle (s : State) (h : s.machine.state = .draining) :
    s.settle.drainedOut = s.drainedOut := by
  unfold State.settle State.drainEnd
  rw [State.drainedOut_pausingQuiet]
  unfold State.pausingQuiet
  simp only [h, reduceCtorEq, false_and, if_false, true_and]
  split
  · rename_i hd; rw [hd, State.drainedOut_endDraining s hd]
  · rfl

/-- The machine state after the ends, in the words of the statements. -/
theorem State.settledIn_settle (s : State) :
    s.settle.machine.state = s.machine.state.settledIn s.settle := by
  rw [State.machine_settle]
  cases hm : s.machine.state with
  | pausing =>
    rw [MachineState.settledIn, State.quiet_settle s hm]
    cases s.quiet <;> simp [hm]
  | draining =>
    rw [MachineState.settledIn, State.drainedOut_settle s hm]
    cases s.drainedOut <;> simp [hm]
  | _ => simp [MachineState.settledIn, hm]

/-- Nothing ends where neither PAUSING nor DRAINING stands, or its conditions fail. -/
theorem State.settle_of_settled (s : State) (h : SettledHolds s) : s.settle = s := by
  unfold State.settle State.drainEnd
  have h1 : s.pausingQuiet = s := by simp only [State.pausingQuiet, h.1, if_false]
  rw [h1, if_neg h.2]

/-- The machine is settled after the ends have been judged. -/
theorem State.settled_settle (s : State) : SettledHolds s.settle := by
  have hm := s.machine_settle
  constructor
  · rintro ⟨h1, h2⟩
    rw [hm] at h1
    split at h1
    · cases h1
    · split at h1
      · cases h1
      · rename_i h3 _
        rw [State.quiet_settle s h1] at h2
        exact h3 ⟨h1, h2⟩
  · rintro ⟨h1, h2⟩
    rw [hm] at h1
    split at h1
    · cases h1
    · split at h1
      · cases h1
      · rename_i _ h3
        rw [State.drainedOut_settle s h1] at h2
        exact h3 ⟨h1, h2⟩

/-- An axis after the ends, in the words of the statements. -/
theorem State.axis_settle (s : State) (a : Axis) :
    s.settle.axis a = (s.axis a).settledIn s s.settle := by
  unfold AxisRecord.settledIn
  rw [State.machine_settle]
  unfold State.settle State.drainEnd
  rw [State.drainedOut_pausingQuiet]
  unfold State.pausingQuiet
  by_cases hd : s.machine.state = .draining ∧ s.drainedOut = true
  · simp [hd, State.endDraining, State.axis, AxisRecord.idled]
  · by_cases hp : s.machine.state = .pausing ∧ s.quiet = true
    · simp [hp, State.axis]
    · simp only [hp, hd, if_false]
      split
      · rename_i h; simp [h.1] at h
      · rfl

/-- PAUSING and DRAINING end in PAUSING with their return state, and in PAUSED where the machine is
quiet; other states stay. -/
theorem State.machine_enterPausing (s : State) :
    s.enterPausing.machine =
      match s.machine.state with
      | .running =>
        { state := if s.enterPausing.quiet = true then .paused else .pausing
          returnState := some .running }
      | .draining =>
        { state := if s.enterPausing.quiet = true then .paused else .pausing
          returnState := some .draining }
      | _ => s.machine := by
  unfold State.enterPausing
  split
  all_goals first
    | (simp only [State.quiet_pausingQuiet]; unfold State.pausingQuiet; split <;> simp_all)
    | simp_all

/-- The machine state after a reaction: PAUSE in RUNNING and DRAINING also judges the end of PAUSING. -/
theorem State.machine_react (s : State) (r : Reaction) :
    (s.react r).machine.state =
      if r = .pause ∧ (s.machine.state = .running ∨ s.machine.state = .draining) ∧
          (s.react r).quiet = true then .paused
      else MachineAfter r s.machine.state := by
  cases r
  · simp [State.react, MachineAfter]
  · simp only [State.react, State.machine_enterPausing, MachineAfter]
    split <;> simp_all
  · simp only [State.react, State.haltIfMoving, reduceCtorEq, false_and, if_false]
    split
    · rename_i h
      simp only [Bool.or_eq_true, State.working_iff, State.pausing_iff] at h
      rw [State.machine_enterHalted]
      rcases h with (h | h) | (h | h) <;> simp [h, MachineAfter]
    · rename_i h
      simp only [Bool.or_eq_true, State.working_iff, State.pausing_iff] at h
      cases hm : s.machine.state <;> simp_all [MachineAfter]

/-- The machine state after a reaction and the ends, in the words of the statements. -/
theorem State.machine_react_settle (s : State) (r : Reaction) :
    (s.react r).settle.machine.state =
      (MachineAfter r s.machine.state).settledIn (s.react r).settle := by
  have h := s.machine_react r
  split at h
  · rename_i hp
    have hs : (s.react r).settle = s.react r :=
      State.settle_of_settled _ ⟨by simp [h], by simp [h]⟩
    rw [hs, h]
    rcases hp with ⟨rfl, hm | hm, hq⟩ <;> simp [hm, MachineAfter, MachineState.settledIn, hq]
  · rw [State.settledIn_settle, h]

/-- What every raising leaves in the table (R192). -/
theorem State.alarms_raise (s : State) (k : AlarmKind) (src : Option Source) :
    (s.raise k src).alarms = (s.raiseRecord k src).alarms := by simp [State.raise]

/-- What every raising does to the machine state, the ends judged with it (R194, R185, R187). -/
theorem State.machine_raise_settle (s : State) (k : AlarmKind) (src : Option Source) :
    (s.raise k src).settle.machine.state =
      (MachineAfter (s.alarm k).reaction s.machine.state).settledIn (s.raise k src).settle := by
  have h := (s.raiseRecord k src).machine_react_settle (s.alarm k).reaction
  simpa [State.raise] using h

/-- A raising, in the words of the statements. -/
theorem State.raised_raise (s : State) (k : AlarmKind) (src : Option Source) :
    Raised s (s.raise k src) k src :=
  raised_of_alarm (alarm_congr (s.alarms_raise k src) k)

theorem State.alarm_raise_ne (s : State) {k l : AlarmKind} (h : l ≠ k) (src : Option Source) :
    (s.raise k src).alarm l = s.alarm l := by
  rw [alarm_congr (s.alarms_raise k src) l, State.alarm_raiseRecord_ne s h]

/-- A reaction that is not HALT changes the machine record, the head and the index request alone. -/
theorem State.react_of_ne_halt (s : State) {r : Reaction} (h : r ≠ .halt) :
    (s.react r).table = s.table ∧ (s.react r).boards = s.boards ∧
    (s.react r).stations = s.stations ∧ (s.react r).stretch = s.stretch ∧
    (s.react r).exchange = s.exchange ∧ (s.react r).slots = s.slots ∧
    (s.react r).axes = s.axes ∧ (s.react r).drive = s.drive ∧ (s.react r).outputs = s.outputs := by
  cases r with
  | note => simp [State.react]
  | pause => simp [State.react]
  | halt => exact absurd rfl h

theorem State.homingCheck_head (s : State) (h : s.head.state ≠ .homing) : s.homingCheck = s := by
  simp [State.homingCheck, h]

/-- A reaction that is not HALT leaves a head that is not in HOMING as it is. -/
theorem State.react_head (s : State) {r : Reaction} (h : r ≠ .halt) (hh : s.head.state ≠ .homing) :
    (s.react r).head = s.head := by
  cases r with
  | note => rfl
  | pause =>
    simp only [State.react, State.enterPausing]
    split
    · rw [State.homingCheck_head _ (by simpa using hh)]; simp
    · rw [State.homingCheck_head _ (by simpa using hh)]; simp
    · rfl
  | halt => exact absurd rfl h

/-- The same of a raising. -/
theorem State.raise_of_ne_halt (s : State) (k : AlarmKind) (src : Option Source)
    (h : (s.alarm k).reaction ≠ .halt) :
    (s.raise k src).table = s.table ∧ (s.raise k src).boards = s.boards ∧
    (s.raise k src).stations = s.stations ∧ (s.raise k src).stretch = s.stretch ∧
    (s.raise k src).exchange = s.exchange ∧ (s.raise k src).slots = s.slots ∧
    (s.raise k src).axes = s.axes ∧ (s.raise k src).drive = s.drive ∧
    (s.raise k src).outputs = s.outputs := by
  have := (s.raiseRecord k src).react_of_ne_halt h
  simpa [State.raise] using this

theorem State.raise_head (s : State) (k : AlarmKind) (src : Option Source)
    (h : (s.alarm k).reaction ≠ .halt) (hh : s.head.state ≠ .homing) :
    (s.raise k src).head = s.head := by
  have := (s.raiseRecord k src).react_head h (by simpa using hh)
  simpa [State.raise] using this

/-! ## HALT (R188) -/

theorem State.exchange_haltExchange (s : State) :
    s.haltExchange.exchange =
      if s.exchange.leg = .idle then s.exchange
      else
        { s.exchange with
          leg := .idle, waiting := false, leaving := none, incoming := none
          transferTimer := none, clampTimer := none } := by
  unfold State.haltExchange; split <;> rfl

theorem State.outputs_haltExchange (s : State) :
    s.haltExchange.outputs =
      if s.exchange.leg = .idle then s.outputs
      else
        { s.outputs with
          transferReq := false
          clamp := if s.exchange.leg = .clamping then false else s.outputs.clamp } := by
  unfold State.haltExchange; split <;> rfl

/-- A HALT leaves every axis IDLE with its target held (R155). -/
theorem State.axis_enterHalted (s : State) (a : Axis) :
    s.enterHalted.axis a = (s.axis a).idled := by
  simp [State.enterHalted, State.haltBlocks, State.haltAxes, State.axis]

/-- A HALT ends the head cycle (R167). -/
theorem State.head_enterHalted (s : State) :
    s.enterHalted.head = { s.head.ended with held := .none } := by
  simp [State.enterHalted, State.haltBlocks, State.haltHead, State.stopHead]

/-- A HALT withdraws the stroke command (R167, R170). -/
theorem State.drive_enterHalted (s : State) : s.enterHalted.drive = s.drive.strokeEnded := by
  simp [State.enterHalted, State.haltBlocks, State.haltHead, State.stopHead]

/-- A HALT ends an index in flight unshifted and withdraws a request (R92, R97). -/
theorem State.chain_enterHalted (s : State) : s.enterHalted.chain = s.haltIndex.chain := by
  simp [State.enterHalted, State.haltBlocks, State.haltIndex]

/-- A HALT stops an exchange where it stands (R40). -/
theorem State.exchange_enterHalted (s : State) :
    s.enterHalted.exchange =
      if s.exchange.leg = .idle then s.exchange
      else
        { s.exchange with
          leg := .idle, waiting := false, leaving := none, incoming := none
          transferTimer := none, clampTimer := none } := by
  simp [State.enterHalted, State.haltBlocks, State.exchange_haltExchange]

/-- The outputs that a HALT lowers (R40, R167). -/
theorem State.outputs_enterHalted (s : State) :
    s.enterHalted.outputs =
      { (if s.exchange.leg = .idle then s.outputs
        else
          { s.outputs with
            transferReq := false
            clamp := if s.exchange.leg = .clamping then false else s.outputs.clamp }) with
        former := false, headDrive := false } := by
  simp [State.enterHalted, State.haltBlocks, State.haltHead, State.stopHead,
    State.outputs_haltExchange]

theorem State.slots_haltSlot (s : State) :
    s.haltSlot.slots =
      match s.head.slot, s.head.cleared with
      | some p, false => s.slots.put p { s.moveSlot p with state := .free, position := none }
      | _, _ => s.slots := by
  unfold State.haltSlot
  rcases s.head.slot with _ | p <;> cases s.head.cleared <;> rfl

/-- A HALT releases the slot of the cycle and returns other ACTIVE slots to PLANNED (R149). -/
theorem State.moveSlot_enterHalted (s : State) (p : Parity) :
    s.enterHalted.moveSlot p =
      if s.head.slot = some p ∧ s.head.cleared = false then
        { s.moveSlot p with state := .free, position := none }
      else (s.moveSlot p).deactivated := by
  have h : s.enterHalted.slots = s.haltSlot.slots.map MoveSlot.deactivated := by
    simp [State.enterHalted, State.haltBlocks, State.haltAxes, State.haltHead, State.stopHead,
      State.slots_haltSlot, State.moveSlot]
  rw [State.moveSlot, h, Pair.get_map, State.slots_haltSlot]
  split
  · rename_i q hq hc
    rw [Pair.get_put]
    by_cases hp : p = q
    · subst hp; simp [hq, hc, MoveSlot.deactivated]
    · have : ¬ (some q = some p ∧ s.head.cleared = false) := fun ⟨h, _⟩ => hp (by simpa using h.symm)
      rw [hq]
      simp only [this, hp, if_false]
      rfl
  · rename_i h
    have : ¬ (s.head.slot = some p ∧ s.head.cleared = false) := fun ⟨h1, h2⟩ => h p h1 h2
    simp only [this, if_false]
    rfl

/-- After a reaction an axis is as it was, or IDLE by a HALT (R155). -/
theorem State.axis_react (s : State) (r : Reaction) (a : Axis) :
    (s.react r).axis a = s.axis a ∨ (s.react r).axis a = (s.axis a).idled := by
  cases r with
  | note => exact Or.inl rfl
  | pause => exact Or.inl (axis_congr (by simp [State.react]) a)
  | halt =>
    simp only [State.react, State.haltIfMoving]
    split
    · exact Or.inr (s.axis_enterHalted a)
    · exact Or.inl rfl

/-- After a reaction the drive is as it was, or its stroke ended by a HALT (R167). -/
theorem State.drive_react (s : State) (r : Reaction) :
    (s.react r).drive = s.drive ∨ (s.react r).drive = s.drive.strokeEnded := by
  cases r with
  | note => exact Or.inl rfl
  | pause => exact Or.inl (by simp [State.react])
  | halt =>
    simp only [State.react, State.haltIfMoving]
    split
    · exact Or.inr s.drive_enterHalted
    · exact Or.inl rfl

/-- HALT of a machine that moves. -/
theorem State.haltIfMoving_moving (s : State)
    (h : s.machine.state = .running ∨ s.machine.state = .pausing ∨ s.machine.state = .paused ∨
      s.machine.state = .draining) : s.haltIfMoving = s.enterHalted := by
  have hw := s.working_iff
  have hp := s.pausing_iff
  have : (s.working || s.pausing) = true := by
    rw [Bool.or_eq_true, hw, hp]; tauto
  simp [State.haltIfMoving, this]

/-- HALT of a machine that stands or is HALTED. -/
theorem State.haltIfMoving_standing (s : State)
    (h : s.machine.state = .start ∨ s.machine.state = .stopped ∨ s.machine.state = .halted) :
    s.haltIfMoving = s := by
  have : (s.working || s.pausing) = false := by
    rcases h with h | h | h <;> simp [State.working, State.pausing, h]
  simp [State.haltIfMoving, this]

/-! ## The head's judgment and HOMING (R159, R161) -/

/-- The judgment changes the index request alone. -/
theorem State.headJudge_eq (s : State) :
    s.headJudge = { s with chain := { s.chain with indexState := s.headJudge.chain.indexState } } := by
  unfold State.headJudge State.requestIndex
  split
  · split <;> simp
  · rfl

theorem State.startReady_unlocked (s : State) (h : s.allLocked = false) : s.startReady = none := by
  unfold State.startReady; split
  · rfl
  · simp [h]

theorem State.startReady_idle (s : State) (h : s.working = false) : s.startReady = none := by
  unfold State.startReady; split
  · rfl
  · simp [h]

theorem State.startReady_unavailable (s : State) (h : s.driveAvailable = false) :
    s.startReady = none := by
  unfold State.startReady; split
  · rfl
  · simp [h]

/-- HOMING ends where no cycle may start. -/
theorem State.homingCheck_ends (s : State) (h : s.head.state = .homing) (hn : s.startReady = none) :
    s.homingCheck.head = { s.head with state := .idle, phaseTimer := none } := by
  simp [State.homingCheck, h, hn]

/-- The start conditions read neither the head nor the index state. -/
@[simp] theorem State.startReady_homingEnds (s : State) : s.homingEnds.startReady = s.startReady := by
  unfold State.homingEnds
  rw [State.headJudge_eq]
  rfl

theorem State.head_homingEnds (s : State) :
    s.homingEnds.head = { s.head with state := .idle, phaseTimer := none } := by
  unfold State.homingEnds
  rw [State.headJudge_eq]

/-- At the rise of HOME that ends HOMING, the cycle starts where the start conditions hold (R161). -/
theorem State.homingArrives_starts (s : State) {p : Parity} (h : s.startReady = some p) :
    s.homingArrives = s.homingEnds.startCycle p := by
  simp [State.homingArrives, State.cycleStart, State.head_homingEnds, h]

theorem State.homingArrives_stays (s : State) (h : s.startReady = none) :
    s.homingArrives = s.homingEnds := by
  simp [State.homingArrives, State.cycleStart, State.head_homingEnds, h]

/-! ## Reports and requests (R6 to R13, R29, R31) -/

theorem State.board_evalPhase_ne (s : State) {p q : Parity} (h : q ≠ p) :
    (s.evalPhase p).board q = s.board q := by
  unfold State.evalPhase; split <;> simp [h]

theorem State.board_evalPhase (s : State) (p : Parity) :
    (s.evalPhase p).board p =
      { s.board p with
        phase :=
          match (s.board p).phase with
          | .free => .free
          | .complete => .complete
          | _ => s.phaseFound p } := by
  unfold State.evalPhase
  split
  · rename_i h; cases hb : s.board p; simp_all
  · rename_i h; cases hb : s.board p; simp_all
  · rename_i h1 h2
    cases hph : (s.board p).phase <;> simp_all

theorem State.phaseFound_congr {s t : State} (p : Parity) (h : t.table = s.table)
    (hb : (t.board p).tableState = (s.board p).tableState) : t.phaseFound p = s.phaseFound p := by
  simp [State.phaseFound, State.allResolved, State.anyCallable, h, hb]

@[simp] theorem BoardRecord.count_phase (b : BoardRecord) (r : Report) :
    (b.count r).phase = b.phase := by cases r <;> rfl

@[simp] theorem BoardRecord.count_tableState (b : BoardRecord) (r : Report) :
    (b.count r).tableState = b.tableState := by cases r <;> rfl

@[simp] theorem BoardRecord.count_number (b : BoardRecord) (r : Report) :
    (b.count r).number = b.number := by cases r <;> rfl

/-- A report leaves the other board. -/
theorem State.board_report_ne (s : State) {p q : Parity} (h : q ≠ p) (r : Report) :
    (s.report p r).board q = s.board q := by
  simp [State.report, State.board_evalPhase_ne _ h, h]

/-- A report counts and evaluates (R29, R31). -/
theorem State.board_report (s : State) (p : Parity) (r : Report) :
    (s.report p r).board p =
      { (s.board p).count r with
        phase :=
          match (s.board p).phase with
          | .free => .free
          | .complete => .complete
          | _ => s.phaseFound p } := by
  rw [State.report, State.board_evalPhase]
  have h : (s.putBoard p ((s.board p).count r)).phaseFound p = s.phaseFound p :=
    State.phaseFound_congr p (by simp) (by simp)
  simp [h]

/-- Whether a board is open is the same after a report. -/
theorem State.isOpen_report (s : State) (p q : Parity) (r : Report) :
    (s.report p r).isOpen q = s.isOpen q := by
  unfold State.isOpen
  by_cases h : q = p
  · subst h
    rw [State.board_report]
    have hf : s.phaseFound q ≠ .free := by
      unfold State.phaseFound; split
      · simp
      · split <;> simp
    cases hp : (s.board q).phase <;> simp [hf]
  · rw [State.board_report_ne _ h]

theorem State.isOpen_congr {s t : State} (h : t.boards = s.boards) (p : Parity) :
    t.isOpen p = s.isOpen p := by unfold State.isOpen State.board; rw [h]

theorem State.nextToLoad_congr {s t : State} (h : t.boards = s.boards) :
    t.nextToLoad = s.nextToLoad := by
  have hb : t.board = s.board := funext fun p => board_congr h p
  have ho : t.isOpen = s.isOpen := funext fun p => State.isOpen_congr h p
  unfold State.nextToLoad State.boardsByAge State.isOlder State.openBoards
  rw [hb, ho]

theorem State.modifyStatus_of (s : State) {n : Nat} {r : Placement} (h : s.slot? n = some r)
    (p : Parity) (f : StatusSlot → StatusSlot) :
    s.modifyStatus n p f =
      s.putSlot n (some { r with status := r.status.put p (f (r.status.get p)) }) := by
  simp [State.modifyStatus, h]

/-- A request that finds its placement CALLED in an open board is applied (R12, R13). -/
theorem State.request_applied (s : State) {n : Nat} {p : Parity} {r : Placement}
    (hs : s.slot? n = some r) (ho : s.isOpen p = true) (hc : (r.status.get p).state = .called)
    (f : StatusSlot → StatusSlot) (rep : Report) :
    s.request n p f rep =
      ((s.putSlot n (some { r with status := r.status.put p (f (r.status.get p)) })).grantHold
        n).report p rep := by
  simp [State.request, ho, State.statusOf, hs, hc, State.modifyStatus_of s hs]

/-- A request that finds its board closed or its placement not CALLED is ignored (R12). -/
theorem State.request_ignored (s : State) {n : Nat} {p : Parity}
    (h : s.isOpen p = false ∨ ∀ u, s.statusOf n p = some u → u.state ≠ .called)
    (f : StatusSlot → StatusSlot) (rep : Report) : s.request n p f rep = s := by
  unfold State.request
  split
  · split
    · rfl
    · split
      · rename_i ho st hst hc
        rcases h with h | h
        · simp_all
        · exact absurd hc (h _ hst)
      · rfl
  · rfl

theorem slot?_lt (s : State) {n : Nat} {r : Placement} (h : s.slot? n = some r) :
    n < s.table.length := by
  by_contra hn
  simp [State.slot?, List.getElem?_eq_none (Nat.le_of_not_lt hn)] at h

theorem State.carried_congr {s t : State} (h : t.stretch = s.stretch) (n : Nat) :
    t.carried n = s.carried n := by simp [State.carried, State.carriedIn, h]

/-- The table after a hold is granted (R13). -/
theorem State.slot?_grantHold (s : State) (n m : Nat) :
    (s.grantHold n).slot? m =
      (s.slot? m).map fun r =>
        if m = n ∧ r.hold = .holdPending ∧ s.carried n = false then { r with hold := .held }
        else r := by
  unfold State.grantHold
  split
  · rename_i h
    by_cases hm : m = n
    · subst hm; simp [h]
    · simp [hm]
  · rename_i r h
    split
    · rename_i hc
      rw [State.slot?_putSlot]
      by_cases hm : n = m
      · subst hm
        simp [slot?_lt s h, h, hc]
      · have : ¬ m = n := fun e => hm e.symm
        simp [hm, this]
    · rename_i hc
      by_cases hm : m = n
      · subst hm
        simp [h]
        intro h1 h2
        exact absurd ⟨h1, h2⟩ hc
      · simp [hm]

/-- The table after an applied request: the status slot, and the hold where it is granted. -/
theorem State.slot?_request (s : State) {n : Nat} {p : Parity} {r : Placement}
    (hs : s.slot? n = some r) (ho : s.isOpen p = true) (hc : (r.status.get p).state = .called)
    (f : StatusSlot → StatusSlot) (rep : Report) (m : Nat) :
    (s.request n p f rep).slot? m =
      if m = n then
        some
          { r with
            hold := if r.hold = .holdPending ∧ s.carried n = false then .held else r.hold
            status := r.status.put p (f (r.status.get p)) }
      else s.slot? m := by
  rw [State.request_applied s hs ho hc]
  generalize hu : s.putSlot n (some { r with status := r.status.put p (f (r.status.get p)) }) = u
  have hr : ((u.grantHold n).report p rep).slot? m = (u.grantHold n).slot? m :=
    slot?_congr (by simp) m
  rw [hr, State.slot?_grantHold, ← hu, State.slot?_putSlot]
  have hl := slot?_lt s hs
  have hcar : (s.putSlot n (some { r with status := r.status.put p (f (r.status.get p)) })).carried n
      = s.carried n := State.carried_congr (by simp) n
  by_cases hm : m = n
  · subst hm
    simp only [hl, and_self, if_true, Option.map_some, hcar, true_and]
    split <;> rfl
  · have : ¬ n = m := fun e => hm e.symm
    simp [hm, this]

/-- The boards after an applied request. -/
theorem State.board_request (s : State) {n : Nat} {p : Parity} {r : Placement}
    (hs : s.slot? n = some r) (ho : s.isOpen p = true) (hc : (r.status.get p).state = .called)
    (f : StatusSlot → StatusSlot) (rep : Report) :
    (s.request n p f rep).board p =
        { (s.board p).count rep with phase := ((s.request n p f rep).board p).phase } ∧
      (s.request n p f rep).board (otherParity p) = s.board (otherParity p) := by
  rw [State.request_applied s hs ho hc]
  constructor
  · rw [State.board_report, board_congr (s := s) (by simp)]
  · rw [State.board_report_ne _ (otherParity_ne p), board_congr (s := s) (by simp)]

/-- A request leaves openness, whatever it does. -/
theorem State.isOpen_request (s : State) (n : Nat) (p q : Parity) (f : StatusSlot → StatusSlot)
    (rep : Report) : (s.request n p f rep).isOpen q = s.isOpen q := by
  unfold State.request
  split
  · split
    · rfl
    · split
      · rw [State.isOpen_report]
        exact State.isOpen_congr (by simp) q
      · rfl
  · rfl

/-! ## Drops and the feeds at a HALT or RESUME (R49, R50, R58) -/

/-- The record of a station that gives up its clip. -/
theorem State.station?_dropAt (s : State) (k j : Nat) :
    (s.dropAt k).station? j =
      if j = k then
        (s.station? k).map fun st =>
          { st with
            committed := st.committed - 1, feed := .idle, work := none, advanceTimer := none }
      else s.station? j := by
  unfold State.dropAt
  split
  · rename_i h
    by_cases hj : j = k
    · subst hj; simp [h]
    · simp [hj]
  · rename_i st h
    have hk : 1 ≤ k ∧ k ≤ s.stations.length := by
      unfold State.station? at h
      split at h
      · cases h
      · have := (List.getElem?_eq_some_iff.1 h).1
        omega
    have hs : ∀ u : State, u.stations =
        (s.putStation k
          { st with
            committed := st.committed - 1, feed := .idle, work := none
            advanceTimer := none }).stations →
        u.station? j =
          if j = k then
            some
              { st with
                committed := st.committed - 1, feed := .idle, work := none, advanceTimer := none }
          else s.station? j := by
      intro u hu
      rw [station?_congr hu, State.station?_putStation]
      by_cases hj : k = j
      · subst hj; simp [hk]
      · have : ¬ j = k := fun e => hj e.symm
        simp [hj, this]
    dsimp only
    split <;> (rw [hs _ (by simp), h]; rfl)

/-- A station that gives up its clip leaves it DROP_MISSED, and every other clip as it was. -/
theorem State.clip_dropAt (s : State) {k : Nat} {st : Station} (h : s.station? k = some st)
    (hk : k < s.stretch.length) (q : Nat) :
    (s.dropAt k).clip q = if q = k then { s.clip k with state := .dropMissed } else s.clip q := by
  have hs : ∀ u : State, u.stretch = (s.markClip k .dropMissed).stretch →
      u.clip q = if q = k then { s.clip k with state := .dropMissed } else s.clip q := by
    intro u hu
    rw [clip_congr hu, State.markClip, State.clip_putClip]
    by_cases hq : k = q
    · subst hq; simp [hk]
    · have : ¬ q = k := fun e => hq e.symm
      simp [hq, this]
  unfold State.dropAt
  rw [h]
  dsimp only
  split <;> exact hs _ (by simp [State.markClip, State.putClip, State.clip])

@[simp] theorem State.length_stretch_markClip (s : State) (p : Nat) (c : ClipState) :
    (s.markClip p c).stretch.length = s.stretch.length := by simp [State.markClip]

@[simp] theorem State.length_stretch_dropAt (s : State) (k : Nat) :
    (s.dropAt k).stretch.length = s.stretch.length := by
  unfold State.dropAt
  split
  · rfl
  · dsimp only; split <;> simp

@[simp] theorem State.length_stretch_haltFeed (s : State) (k : Nat) :
    (s.haltFeed k).stretch.length = s.stretch.length := by
  unfold State.haltFeed; split
  · rfl
  · split <;> simp

/-- A fold over the stations whose step at `k` changes the record and the clip of `k` alone does to
each station what its own step does. -/
theorem foldl_stations {f : State → Nat → State}
    (hother : ∀ s k j, j ≠ k → (f s k).station? j = s.station? j ∧ (f s k).clip j = s.clip j)
    (hlen : ∀ s k, (f s k).stretch.length = s.stretch.length) (P : State → Nat → Prop)
    (Q : State → Nat → Prop)
    (hP : ∀ s t k, t.station? k = s.station? k → t.clip k = s.clip k →
      t.stretch.length = s.stretch.length → P s k → P t k)
    (hQ : ∀ s t k, t.station? k = s.station? k → t.clip k = s.clip k → Q s k → Q t k)
    (hstep : ∀ s k, P s k → Q (f s k) k) (l : List Nat) (hn : l.Nodup) (s : State) (k : Nat)
    (hk : k ∈ l) (hs : P s k) : Q (l.foldl f s) k := by
  induction l generalizing s with
  | nil => cases hk
  | cons a l ih =>
    rw [List.nodup_cons] at hn
    rw [List.foldl_cons]
    by_cases ha : k = a
    · subst ha
      have key : ∀ (m : List Nat) (u : State), k ∉ m → (m.foldl f u).station? k = u.station? k ∧
          (m.foldl f u).clip k = u.clip k := by
        intro m
        induction m with
        | nil => intro u _; exact ⟨rfl, rfl⟩
        | cons b m ihm =>
          intro u hb
          rw [List.mem_cons, not_or] at hb
          rw [List.foldl_cons, (ihm _ hb.2).1, (ihm _ hb.2).2]
          exact hother u b k hb.1
      exact hQ _ _ k (key l _ hn.1).1 (key l _ hn.1).2 (hstep s k hs)
    · have hm : k ∈ l := by simpa [ha] using hk
      exact ih hn.2 _ hm (hP _ _ k (hother s a k ha).1 (hother s a k ha).2 (hlen s a) hs)

theorem mem_stationNumbers (k : Nat) : k ∈ stationNumbers ↔ 1 ≤ k ∧ k ≤ 72 := by
  simp [stationNumbers, Config.stationCount]
  omega

theorem nodup_stationNumbers : stationNumbers.Nodup := List.nodup_range'

/-- What HALT leaves at a station and its clip (R58). -/
theorem State.station?_haltFeeds (s : State) {k : Nat} {st : Station} (h1 : 1 ≤ k) (h2 : k ≤ 72)
    (hs : s.station? k = some st) (hl : 72 < s.stretch.length) :
    (st.feed = .idle →
      s.haltFeeds.station? k = some st ∧ s.haltFeeds.clip k = s.clip k) ∧
    (st.feed ≠ .idle →
      s.haltFeeds.station? k =
        some
          { st with
            committed := st.committed - 1, feed := .idle, work := none, advanceTimer := none } ∧
      (s.haltFeeds.clip k).state = .dropMissed) := by
  have hother : ∀ (u : State) (a j : Nat), j ≠ a →
      (u.haltFeed a).station? j = u.station? j ∧ (u.haltFeed a).clip j = u.clip j := by
    intro u a j hj
    unfold State.haltFeed
    split
    · exact ⟨rfl, rfl⟩
    · rename_i st' h
      split
      · exact ⟨rfl, rfl⟩
      · constructor
        · rw [State.station?_dropAt, if_neg hj]
        · unfold State.dropAt
          rw [h]
          dsimp only
          have hc : ∀ w : State, w.stretch = (u.markClip a .dropMissed).stretch →
              w.clip j = u.clip j := by
            intro w hw
            rw [clip_congr hw, State.markClip, State.clip_putClip]
            have : ¬ a = j := fun e => hj e.symm
            simp [this]
          split <;> exact hc _ (by simp [State.markClip, State.putClip, State.clip])
  constructor
  · intro hf
    refine foldl_stations hother State.length_stretch_haltFeed
      (fun u j => u.station? j = some st ∧ u.clip j = s.clip k)
      (fun u j => u.station? j = some st ∧ u.clip j = s.clip k)
      (fun a b j e1 e2 _ h => ⟨e1 ▸ h.1, e2 ▸ h.2⟩) (fun a b j e1 e2 h => ⟨e1 ▸ h.1, e2 ▸ h.2⟩)
      ?_ stationNumbers nodup_stationNumbers s k ((mem_stationNumbers k).2 ⟨h1, h2⟩) ⟨hs, rfl⟩
    intro u j h
    unfold State.haltFeed
    rw [h.1]
    simpa [hf] using h
  · intro hf
    refine foldl_stations hother State.length_stretch_haltFeed
      (fun u j => u.station? j = some st ∧ j < u.stretch.length)
      (fun u j => u.station? j =
          some
            { st with
              committed := st.committed - 1, feed := .idle, work := none, advanceTimer := none } ∧
        (u.clip j).state = .dropMissed)
      (fun a b j e1 e2 e3 h => ⟨e1 ▸ h.1, e3 ▸ h.2⟩) (fun a b j e1 e2 h => ⟨e1 ▸ h.1, e2 ▸ h.2⟩)
      ?_ stationNumbers nodup_stationNumbers s k ((mem_stationNumbers k).2 ⟨h1, h2⟩)
      ⟨hs, by omega⟩
    intro u j h
    unfold State.haltFeed
    rw [h.1]
    simp only [hf, if_false]
    constructor
    · rw [State.station?_dropAt, if_pos rfl, h.1]; rfl
    · rw [State.clip_dropAt u h.1 h.2, if_pos rfl]

/-! ## New targets (R151) -/

theorem State.axis_giveTargets (s : State) (g : Quad Nat) (a : Axis) :
    (s.giveTargets g).axis a = (s.axis a).retarget (s.axisSettings a) (g.get a) := by
  cases a <;> rfl

theorem State.newTarget_giveTargets (s : State) (g : Quad Nat) (a : Axis) :
    NewTarget s (s.giveTargets g) a (g.get a) := by
  unfold NewTarget
  rw [State.axis_giveTargets]
  rfl

theorem newTarget_congr {s t u : State} {a : Axis} {v : Nat} (h : u.axes = t.axes)
    (hs : NewTarget s t a v) : NewTarget s u a v := by
  unfold NewTarget at *
  rw [axis_congr h, hs]

theorem dumpTargets_get (s : State) (a : Axis) :
    s.dumpTargets.get a = (s.axisSettings a).dumpPosition := by
  simp [State.dumpTargets, State.axisSettings]

theorem loadTargets_get (s : State) (a : Axis) :
    s.loadTargets.get a = (s.axisSettings a).loadPosition := by
  simp [State.loadTargets, State.axisSettings]

/-! ## Currents (R174) -/

@[simp] theorem Drive.overcurrentAt_iff (d : Drive) (current : Nat) :
    d.overcurrentAt current = true ↔ d.inForce.overcurrentThreshold < current := by
  simp [Drive.overcurrentAt]

end Sys2Proof.Machine
end

