-- ==== Sys2Proof/Laws/Completion.lean ====
section
/-! SUPPORT. What an index completion does, block by block: the order of the blocks, the record each
block may change, the shift of the stretch, the clip ids, and what the reactions leave. A proof on
INDEX_COMPLETION cites these and unfolds only the block it is about. -/

namespace Sys2Proof.Machine

/-! ## The order of the blocks (R70) -/

/-- The block that a command names first acts first, and once. -/
theorem fullOrder_cons (r : Reactor) (rest : List Reactor) (h : r ∈ allReactors) :
    ∃ l, fullOrder (r :: rest) = r :: l ∧ r ∉ l := by
  unfold fullOrder
  rw [List.filter_cons_of_pos (by simpa using h), List.eraseDups_cons]
  exact ⟨_, rfl, by simp⟩

/-- Only blocks that exist act. -/
theorem mem_allReactors_of_fullOrder {order : List Reactor} {r : Reactor}
    (h : r ∈ fullOrder order) :
    r ∈ allReactors := by
  unfold fullOrder at h
  simp only [List.mem_append, List.mem_eraseDups, List.mem_filter, List.contains_iff_mem] at h
  tauto

/-- The position at which a block may change the clip record. -/
def reactorPosition : Reactor → Nat
  | .scan => 0
  | .station k => k
  | .verify => 76
  | .gate => 78
  | .planner => 79

theorem station_mem_allReactors {k : Nat} (h : Reactor.station k ∈ allReactors) :
    1 ≤ k ∧ k ≤ 72 := by
  simp [allReactors] at h
  exact (mem_stationNumbers k).1 h

/-- No two blocks share a position. -/
theorem reactorPosition_injective {x y : Reactor} (hx : x ∈ allReactors) (hy : y ∈ allReactors)
    (h : reactorPosition x = reactorPosition y) : x = y := by
  cases x <;> cases y <;> simp only [reactorPosition] at h <;> first
    | rfl
    | (subst h; rfl)
    | (exfalso; have := station_mem_allReactors hx; omega)
    | (exfalso; have := station_mem_allReactors hy; omega)
    | (exfalso; omega)

/-! ## A block changes no other clip record -/

theorem State.clip_putClip_ne (s : State) {p q : Nat} (h : q ≠ p) (c : Clip) :
    (s.putClip p c).clip q = s.clip q := by
  rw [State.clip_putClip, if_neg (by tauto)]

theorem State.clip_markClip_ne (s : State) {p q : Nat} (h : q ≠ p) (c : ClipState) :
    (s.markClip p c).clip q = s.clip q := s.clip_putClip_ne h _

theorem State.clip_request (s : State) (n : Nat) (p : Parity) (f : StatusSlot → StatusSlot)
    (r : Report) (q : Nat) : (s.request n p f r).clip q = s.clip q := clip_congr (by simp) q

theorem State.clip_recallCounted (s : State) (n : Nat) (p : Parity) (q : Nat) :
    (s.recallCounted n p).clip q = s.clip q := by
  unfold State.recallCounted; split <;> exact s.clip_request ..

theorem State.clip_dropAt_ne (s : State) {k q : Nat} (h : q ≠ k) :
    (s.dropAt k).clip q = s.clip q := by
  unfold State.dropAt
  split
  · rfl
  · dsimp only
    split
    · rw [State.clip_markClip_ne _ h]; exact clip_congr (by simp) q
    · rw [State.recallUncounted, State.clip_request, State.clip_markClip_ne _ h]
      exact clip_congr (by simp) q

theorem State.clip_assign_ne (s : State) (p : Parity) (n k : Nat) {q : Nat} (h : q ≠ 0) :
    (s.assign p n k).clip q = s.clip q := by
  unfold State.assign State.callRequest
  refine (clip_congr (t := State.report _ _ _) (s := s.putClip 0 _) (by simp [State.report]; rfl)
    q).trans ?_
  exact s.clip_putClip_ne h _

/-- The state after a granted commit request (R48). -/
theorem State.commit_eq (s t : State) {k : Nat} (h : s.commit k = some t) :
    ∃ st, s.station? k = some st ∧ st.available = true ∧
      t = s.putStation k { st with committed := st.committed + 1 } := by
  unfold State.commit at h
  split at h
  · simp at h
  · rename_i st hst
    split at h
    · rename_i ha; cases h; exact ⟨st, hst, ha, rfl⟩
    · simp at h

theorem State.clip_scanFrom_ne (s : State) (fuel : Nat) (l : List Nat) {q : Nat} (h : q ≠ 0) :
    (s.scanFrom fuel l).1.clip q = s.clip q := by
  induction fuel generalizing l with
  | zero => rfl
  | succ fuel ih =>
    unfold State.scanFrom
    split
    · rfl
    · split
      · rfl
      · split
        · rename_i hc
          obtain ⟨st, -, -, rfl⟩ := s.commit_eq _ hc
          rw [State.clip_assign_ne _ _ _ _ h]
          exact clip_congr (by simp) q
        · exact ih _

theorem State.clip_callScan_ne (s : State) {q : Nat} (h : q ≠ 0) :
    s.callScan.1.clip q = s.clip q := by
  unfold State.callScan
  split
  · have hs := s.clip_scanFrom_ne (Config.stationCount + 1) [] h
    split
    · rename_i t k e
      rw [e] at hs
      rw [← hs]; exact clip_congr (by simp) q
    · rename_i t e
      rw [e] at hs
      exact hs
  · rfl

theorem State.clip_takeSlot (s : State) (m : MoveSlot) (q : Nat) :
    (s.takeSlot m).clip q = s.clip q :=
  clip_congr (by simp) q

theorem State.clip_outOfTravel_ne (s : State) {p q : Nat} (h : q ≠ p) (j : Job) :
    (s.outOfTravel p j).clip q = s.clip q := by
  rw [State.outOfTravel, State.travelRequest, State.clip_request, State.clip_putClip_ne _ h]

theorem State.clip_planInsert_ne (s : State) (pos : SlotPosition) (j : Job) {q : Nat}
    (h : q ≠ pos.number) : (s.planInsert pos j).clip q = s.clip q := by
  unfold State.planInsert
  split
  · split
    · exact s.clip_takeSlot _ q
    · rw [State.clip_outOfTravel_ne _ h, State.clip_takeSlot]
  · exact s.clip_takeSlot _ q

theorem State.clip_writeJudgment_ne (s : State) (c : ClipState) (j : Judgment) {q : Nat}
    (h : q ≠ 76) :
    (s.writeJudgment c j).clip q = s.clip q := s.clip_putClip_ne h _

theorem State.clip_countedRecallOf (s : State) (c : Option Call) (q : Nat) :
    (s.countedRecallOf c).1.clip q = s.clip q := by
  unfold State.countedRecallOf
  split
  · rfl
  · split
    · exact clip_congr (by simp) q
    · exact s.clip_recallCounted _ _ q

/-- One block changes the clip record of its own position alone. -/
theorem State.clip_reacts_ne (s : State) (present leads : Bool) (r : Reactor) {q : Nat}
    (h : q ≠ reactorPosition r) : (s.reacts present leads r).1.clip q = s.clip q := by
  cases r with
  | scan => exact s.clip_callScan_ne h
  | station k =>
    simp only [State.reacts, reactorPosition] at *
    unfold State.stationReacts
    split
    · split
      · rfl
      · split
        · exact s.clip_dropAt_ne h
        · split
          · unfold State.takeOn; split
            · rfl
            · exact clip_congr (by simp) q
          · exact clip_congr (by simp) q
    · rfl
  | verify =>
    simp only [State.reacts, reactorPosition] at *
    unfold State.verifyReacts
    split
    · dsimp only
      split
      · rw [State.clip_writeJudgment_ne _ _ _ h]; exact clip_congr (by simp) q
      · rw [State.clip_countedRecallOf, State.clip_writeJudgment_ne _ _ _ h]
        exact clip_congr (by simp) q
    all_goals first
      | rfl
      | (simp only; unfold State.judgeUncarried; split <;> exact s.clip_writeJudgment_ne _ _ h)
  | gate =>
    simp only [State.reacts, reactorPosition] at *
    unfold State.gateReacts
    split
    · exact State.clip_markClip_ne _ h _
    · exact State.clip_markClip_ne _ h _
    · split
      · rfl
      · split
        · rfl
        · rw [State.recallDeferral, State.clip_request]; exact State.clip_markClip_ne _ h _
    · rfl
  | planner =>
    simp only [State.reacts, reactorPosition] at *
    unfold State.plannerReacts
    split
    · exact s.clip_takeSlot _ q
    · split
      · rfl
      · split
        · rfl
        · exact s.clip_planInsert_ne _ _ h
    · rfl

theorem State.clip_reactInOrder_ne (present leads : Bool) (rs : List Reactor) (s : State) {q : Nat}
    (h : ∀ r ∈ rs, q ≠ reactorPosition r) :
    (State.reactInOrder present leads rs s).1.clip q = s.clip q := by
  induction rs generalizing s with
  | nil => rfl
  | cons r rs ih =>
    simp only [State.reactInOrder]
    rw [ih _ fun x hx => h x (by simp [hx]), State.clip_reacts_ne _ _ _ _ (h r (by simp))]

/-! ## The other effects of the blocks -/

/-- REJECT_GATE changes by the gate alone (R120). -/
theorem State.outputs_reactInOrder (present leads : Bool) (rs : List Reactor) (s : State)
    (h : Reactor.gate ∉ rs) : (State.reactInOrder present leads rs s).1.outputs = s.outputs := by
  induction rs generalizing s with
  | nil => rfl
  | cons r rs ih =>
    simp only [List.mem_cons, not_or] at h
    simp only [State.reactInOrder]
    rw [ih _ h.2]
    cases r <;> simp_all [State.reacts]

/-- The move slots change by the planner alone (R140). -/
theorem State.slots_reactInOrder (present leads : Bool) (rs : List Reactor) (s : State)
    (h : Reactor.planner ∉ rs) :
    (State.reactInOrder present leads rs s).1.slots = s.slots ∧
      (State.reactInOrder present leads rs s).1.alternation = s.alternation := by
  induction rs generalizing s with
  | nil => simp [State.reactInOrder]
  | cons r rs ih =>
    simp only [List.mem_cons, not_or] at h
    simp only [State.reactInOrder]
    have hr : (s.reacts present leads r).1.slots = s.slots ∧
        (s.reacts present leads r).1.alternation = s.alternation := by
      cases r <;> simp_all [State.reacts]
    have ht := ih (s.reacts present leads r).1 h.2
    exact ⟨ht.1.trans hr.1, ht.2.trans hr.2⟩

theorem State.length_stretch_scanFrom (s : State) (fuel : Nat) (l : List Nat) :
    (s.scanFrom fuel l).1.stretch.length = s.stretch.length := by
  induction fuel generalizing l with
  | zero => rfl
  | succ fuel ih =>
    unfold State.scanFrom
    split
    · rfl
    · split
      · rfl
      · split
        · rename_i hc
          obtain ⟨st, -, -, rfl⟩ := s.commit_eq _ hc
          simp [State.assign, State.callRequest, State.report]
        · exact ih _

/-- The stretch keeps its length (R67). -/
theorem State.length_stretch_reacts (s : State) (present leads : Bool) (r : Reactor) :
    (s.reacts present leads r).1.stretch.length = s.stretch.length := by
  cases r with
  | scan =>
    simp only [State.reacts, State.callScan]
    have hs := s.length_stretch_scanFrom (Config.stationCount + 1) []
    split
    · split
      · rename_i e; rw [e] at hs; simpa using hs
      · rename_i e; rw [e] at hs; simpa using hs
    · rfl
  | station k =>
    simp only [State.reacts, State.stationReacts]
    split
    · split
      · rfl
      · split
        · simp
        · split
          · unfold State.takeOn; split <;> simp
          · simp
    · rfl
  | verify =>
    simp only [State.reacts, State.verifyReacts]
    split
    · try dsimp only
      split
      · simp [State.writeJudgment]
      · unfold State.countedRecallOf
        split
        · simp [State.writeJudgment]
        · split <;> simp [State.writeJudgment]
    all_goals first
      | rfl
      | (simp only [State.judgeUncarried]; split <;> simp [State.writeJudgment])
  | gate =>
    simp only [State.reacts, State.gateReacts]
    split
    · simp [State.eject]
    · simp [State.eject]
    · split
      · rfl
      · split
        · rfl
        · simp [State.recallDeferral, State.eject]
    · rfl
  | planner =>
    simp only [State.reacts, State.plannerReacts]
    split
    · simp [State.planDump]
    · split
      · rfl
      · split
        · rfl
        · unfold State.planInsert
          split
          · split
            · simp
            · simp [State.outOfTravel, State.travelRequest]
          · simp
    · rfl

theorem State.length_stretch_reactInOrder (present leads : Bool) (rs : List Reactor) (s : State) :
    (State.reactInOrder present leads rs s).1.stretch.length = s.stretch.length := by
  induction rs generalizing s with
  | nil => rfl
  | cons r rs ih => simp only [State.reactInOrder]; rw [ih, State.length_stretch_reacts]

/-- The blocks raise STARVE and PLACEMENT_MISSED alone (R83, R115). -/
theorem State.kinds_reactInOrder (present leads : Bool) (rs : List Reactor) (s : State) :
    ∀ k ∈ (State.reactInOrder present leads rs s).2, k = .starve ∨ k = .placementMissed := by
  have hscan : ∀ u : State, u.callScan.2 = [] ∨ u.callScan.2 = [.starve] := by
    intro u; unfold State.callScan; split; split <;> simp; simp
  have hverify : ∀ u : State, (u.verifyReacts present leads).2 = [] ∨
      (u.verifyReacts present leads).2 = [.placementMissed] := by
    intro u
    unfold State.verifyReacts; split <;> try simp
    split; simp; unfold State.countedRecallOf; split; simp; split <;> simp
  induction rs generalizing s with
  | nil => simp [State.reactInOrder]
  | cons r rs ih =>
    intro k hk
    simp only [State.reactInOrder, List.mem_append] at hk
    rcases hk with h | h
    · cases r <;> simp only [State.reacts] at h
      · rcases hscan s with e | e <;> simp_all
      · simp at h
      · rcases hverify s with e | e <;> simp_all
      · simp at h
      · simp at h
    · exact ih _ k h

/-- A raising leaves every reaction as it is. -/
theorem State.reaction_raiseRecord (s : State) (k l : AlarmKind) (src : Option Source) :
    ((s.raiseRecord k src).alarm l).reaction = (s.alarm l).reaction := by
  by_cases h : l = k
  · subst h
    rw [State.alarm_raiseRecord]
    split
    · unfold AlarmRecord.ended; split
      · split <;> rfl
      · rfl
    · rfl
  · rw [State.alarm_raiseRecord_ne _ h]

theorem State.reaction_reactInOrder (present leads : Bool) (rs : List Reactor) (s : State)
    (l : AlarmKind) :
    ((State.reactInOrder present leads rs s).1.alarm l).reaction = (s.alarm l).reaction := by
  have hr : ∀ (u : State) (r : Reactor),
      ((u.reacts present leads r).1.alarm l).reaction = (u.alarm l).reaction := by
    intro u r
    cases r with
    | scan =>
      simp only [State.reacts, State.callScan]
      split
      · have hs := u.scanFrom_frame (Config.stationCount + 1) []
        split <;> rename_i e <;> rw [e] at hs
        · rw [State.reaction_raiseRecord, alarm_congr (s := u) (by tauto)]
        · rw [alarm_congr (s := u) (by tauto)]
      · rfl
    | station j => rw [alarm_congr (s := u) (by simp [State.reacts])]
    | verify =>
      simp only [State.reacts, State.verifyReacts]
      split
      · try dsimp only
        split
        · rw [alarm_congr (s := u) (by simp)]
        · unfold State.countedRecallOf
          split
          · rw [alarm_congr (s := u) (by simp)]
          · split
            · rw [State.reaction_raiseRecord, alarm_congr (s := u) (by simp)]
            · rw [alarm_congr (s := u) (by simp)]
      all_goals rw [alarm_congr (s := u) (by simp)]
    | gate => rw [alarm_congr (s := u) (by simp [State.reacts])]
    | planner => rw [alarm_congr (s := u) (by simp [State.reacts])]
  induction rs generalizing s with
  | nil => rfl
  | cons r rs ih => simp only [State.reactInOrder]; rw [ih, hr]

/-! ## The shift (R70, R95) -/

theorem State.shift_values (s : State) :
    s.shift.table = s.table ∧ s.shift.boards = s.boards ∧ s.shift.outputs = s.outputs ∧
      s.shift.machine = s.machine ∧ s.shift.settings = s.settings ∧
      s.shift.conditions = s.conditions ∧ s.shift.stations = s.stations ∧
      s.shift.alternation = s.alternation ∧ s.shift.slots = s.slots.map MoveSlot.advanced := by
  unfold State.shift; dsimp only; (repeat' split) <;> simp

theorem State.chain_shift (s : State) :
    s.shift.chain =
      (s.chain.completed s.settings.forwardProtection s.settings.backwardProtection).chain := by
  unfold State.shift; dsimp only; (repeat' split) <;> simp

theorem State.stretch_shift (s : State) :
    s.shift.stretch =
      shiftedWithIds (s.chain.completed s.settings.forwardProtection s.settings.backwardProtection)
        s.stretch := by
  unfold State.shift; dsimp only; (repeat' split) <;> simp

theorem State.length_stretch_shift (s : State) : s.shift.stretch.length = s.stretch.length := by
  rw [State.stretch_shift]; unfold shiftedWithIds; split <;> simp [shifted, giveIds]

theorem State.reaction_shift (s : State) (l : AlarmKind) :
    (s.shift.alarm l).reaction = (s.alarm l).reaction := by
  unfold State.shift; dsimp only; split
  · rw [State.reaction_raiseRecord]; rfl
  · split
    · rw [State.alarm_endCondition]; split
      · rename_i h
        subst h
        unfold AlarmRecord.ended; split
        · split <;> rfl
        · rfl
      · rfl
    · rfl

/-- Every record moves up one position, with a new id at most. -/
theorem State.clip_shift_succ (s : State) (hs : s.stretch.length = 81) {q : Nat} (hq : q < 80) :
    ∃ id : Option Nat, s.shift.clip (q + 1) = { s.clip q with clipId := id } := by
  unfold State.clip
  rw [State.stretch_shift]
  generalize s.chain.completed s.settings.forwardProtection s.settings.backwardProtection = j
  have h : q < s.stretch.length := by omega
  have h' : q + 1 < s.stretch.length := by omega
  have hsh : (shifted j.chain s.stretch)[q + 1]? = some s.stretch[q] := by
    simp [shifted, h']
  simp only [List.getD_eq_getElem?_getD]
  unfold shiftedWithIds
  split
  · rw [hsh]; exact ⟨s.stretch[q].clipId, by simp [h]⟩
  · simp [giveIds, List.getElem?_zipIdx, hsh, h]
  · exact ⟨none, by simp [hsh, h]⟩

/-- The record that enters. -/
theorem State.clip_shift_zero (s : State) (hs : s.stretch.length = 81) :
    (s.shift.clip 0).state = .empty ∧ (s.shift.clip 0).call = none ∧
      (s.shift.clip 0).verify = none ∧ (s.shift.clip 0).dump = false := by
  unfold State.clip
  rw [State.stretch_shift]
  generalize s.chain.completed s.settings.forwardProtection s.settings.backwardProtection = j
  have hsh : (shifted j.chain s.stretch)[0]? = some (enteringClip j.chain) := by simp [shifted, hs]
  simp only [List.getD_eq_getElem?_getD]
  unfold shiftedWithIds
  split
  · simp [hsh, enteringClip]
  · simp [giveIds, List.getElem?_zipIdx, hsh, enteringClip]
  · simp [hsh, enteringClip]

/-! ## What the reactions leave (R194) -/

/-- A HALT changes no record between the stations and 80, nor the one that entered. -/
theorem State.clip_enterHalted (s : State) {q : Nat} (h : q = 0 ∨ 72 < q) (h80 : q ≠ 80) :
    s.enterHalted.clip q = s.clip q := by
  have feeds : ∀ (l : List Nat) (u : State), (∀ k ∈ l, q ≠ k) →
      (l.foldl State.haltFeed u).clip q = u.clip q := by
    intro l
    induction l with
    | nil => intro u _; rfl
    | cons k l ih =>
      intro u hk
      rw [List.foldl_cons, ih _ fun x hx => hk x (by simp [hx])]
      unfold State.haltFeed
      split
      · rfl
      · split
        · rfl
        · exact u.clip_dropAt_ne (hk k (by simp))
  have hf : ∀ u : State, u.haltFeeds.clip q = u.clip q := fun u => feeds _ u fun k hk => by
    have := (mem_stationNumbers k).1 hk
    omega
  have hh : ∀ u : State, u.haltHead.clip q = u.clip q := by
    intro u
    refine (clip_congr (s := u.interrupt) (by simp [State.haltHead, State.stopHead]) q).trans ?_
    unfold State.interrupt
    split
    · dsimp only
      split
      · exact u.clip_putClip_ne h80 _
      · rw [State.interruptionRequest, State.clip_request]; exact u.clip_putClip_ne h80 _
    · rfl
  have hx : ∀ u : State, u.haltExchange.clip q = u.clip q := fun u => clip_congr (by simp) q
  have ha : ∀ u : State, u.haltAxes.clip q = u.clip q := fun u => rfl
  have hi : ∀ u : State, u.haltIndex.clip q = u.clip q := fun u => rfl
  unfold State.enterHalted State.haltBlocks
  rw [ha, hh, hx, hi, hf]; rfl

theorem State.clip_react (s : State) (r : Reaction) {q : Nat} (h : q = 0 ∨ 72 < q) (h80 : q ≠ 80) :
    (s.react r).clip q = s.clip q := by
  cases r with
  | note => rfl
  | pause => exact clip_congr (by simp [State.react]) q
  | halt =>
    simp only [State.react, State.haltIfMoving]
    split
    · exact s.clip_enterHalted h h80
    · rfl

theorem State.clip_reactAll (s : State) (ks : List AlarmKind) {q : Nat} (h : q = 0 ∨ 72 < q)
    (h80 : q ≠ 80) : (s.reactAll ks).clip q = s.clip q :=
  foldl_keeps _ (fun u => u.clip q) (fun u _ => u.clip_react _ h h80) ks s

theorem State.alarms_reactAll (s : State) (ks : List AlarmKind) :
    (s.reactAll ks).alarms = s.alarms :=
  foldl_keeps _ (fun u => u.alarms) (fun u _ => by simp) ks s

theorem State.alternation_reactAll (s : State) (ks : List AlarmKind) :
    (s.reactAll ks).alternation = s.alternation :=
  foldl_keeps _ (fun u => u.alternation) (fun u _ => by simp) ks s

/-- REJECT_GATE keeps its level through every reaction (R120). -/
theorem State.rejectGate_reactAll (s : State) (ks : List AlarmKind) :
    (s.reactAll ks).outputs.rejectGate = s.outputs.rejectGate := by
  refine foldl_keeps _ (fun u => u.outputs.rejectGate) (fun u k => ?_) ks s
  cases (u.alarm k).reaction with
  | note => rfl
  | pause => simp [State.react]
  | halt =>
    simp only [State.react, State.haltIfMoving]
    split
    · rw [State.outputs_enterHalted]; split <;> rfl
    · rfl

/-- Reactions that are not HALT leave the stretch, the slots, the table and the outputs. -/
theorem State.reactAll_of_ne_halt (s : State) (ks : List AlarmKind)
    (h : ∀ k ∈ ks, (s.alarm k).reaction ≠ .halt) :
    (s.reactAll ks).stretch = s.stretch ∧ (s.reactAll ks).slots = s.slots ∧
      (s.reactAll ks).table = s.table ∧ (s.reactAll ks).outputs = s.outputs := by
  induction ks generalizing s with
  | nil => simp [State.reactAll]
  | cons k ks ih =>
    have h1 := s.react_of_ne_halt (h k (by simp))
    have h2 := ih (s.react (s.alarm k).reaction) fun l hl => by
      rw [alarm_congr (s := s) (by simp)]; exact h l (by simp [hl])
    unfold State.reactAll at *
    rw [List.foldl_cons]
    exact ⟨h2.1.trans h1.2.2.2.1, h2.2.1.trans h1.2.2.2.2.2.1, h2.2.2.1.trans h1.1,
      h2.2.2.2.trans h1.2.2.2.2.2.2.2.2⟩

/-! ## The completion (R95) -/

/-- The completion as its parts: the shift, the blocks in order, the head's judgment, the reactions
and the ends of PAUSING and DRAINING. -/
theorem State.indexCompletion_eq (s : State) (h : s.chain.indexState = .indexing)
    (present leads : Bool) (order : List Reactor) :
    s.indexCompletion present leads order =
      (((State.reactInOrder present leads (fullOrder order) s.shift).1.homingCheck.headJudge).reactAll
        (if s.losesLock then
          .chainSync :: (State.reactInOrder present leads (fullOrder order) s.shift).2
        else (State.reactInOrder present leads (fullOrder order) s.shift).2)).settle := by
  simp [State.indexCompletion, h]

/-- The record at the position of the block that acts first is as that block leaves it. -/
theorem State.clip_indexCompletion_first (s : State) (h : s.chain.indexState = .indexing)
    (present leads : Bool) (r : Reactor) (rest : List Reactor) (hr : r ∈ allReactors)
    (hq : reactorPosition r = 0 ∨ 72 < reactorPosition r) :
    (s.indexCompletion present leads (r :: rest)).clip (reactorPosition r) =
      (s.shift.reacts present leads r).1.clip (reactorPosition r) := by
  have h80 : reactorPosition r ≠ 80 := by
    cases r <;> simp [reactorPosition]
    have := station_mem_allReactors hr
    omega
  obtain ⟨l, e, hn⟩ := fullOrder_cons r rest hr
  rw [s.indexCompletion_eq h, clip_congr (State.settle_frame _).2.2.2.2.2.2.1,
    State.clip_reactAll _ _ hq h80,
    clip_congr (s := (State.reactInOrder present leads (fullOrder (r :: rest)) s.shift).1)
      (by simp), e]
  simp only [State.reactInOrder]
  refine State.clip_reactInOrder_ne _ _ _ _ fun x hx hxe => ?_
  have hx' : x ∈ allReactors :=
    mem_allReactors_of_fullOrder (order := r :: rest) (by rw [e]; simp [hx])
  exact hn (reactorPosition_injective hr hx' hxe ▸ hx)

/-- Judging the ends leaves the slots, or releases the ACTIVE ones where DRAINING ends. -/
theorem State.slots_settle (s : State) :
    s.settle.slots = s.slots ∨ s.settle.slots = s.slots.map MoveSlot.deactivated := by
  unfold State.settle State.drainEnd
  split
  · exact Or.inr (by simp [State.endDraining])
  · exact Or.inl (by simp)

/-- With no HALT among the reactions, the stretch, the table and the outputs are as the blocks leave
them, and so are the slots but where DRAINING ends. -/
theorem State.indexCompletion_of_ne_halt (s : State) (h : s.chain.indexState = .indexing)
    (present leads : Bool) (order : List Reactor) (h1 : (s.alarm .starve).reaction ≠ .halt)
    (h2 : (s.alarm .chainSync).reaction ≠ .halt)
    (h3 : (s.alarm .placementMissed).reaction ≠ .halt) :
    let u := (State.reactInOrder present leads (fullOrder order) s.shift).1
    let t := s.indexCompletion present leads order
    t.stretch = u.stretch ∧ (t.slots = u.slots ∨ t.slots = u.slots.map MoveSlot.deactivated) ∧
      t.table = u.table ∧ t.outputs = u.outputs := by
  intro u t
  rw [show t = _ from s.indexCompletion_eq h present leads order]
  have hr := u.homingCheck.headJudge.reactAll_of_ne_halt
    (if s.losesLock then
      .chainSync :: (State.reactInOrder present leads (fullOrder order) s.shift).2
    else (State.reactInOrder present leads (fullOrder order) s.shift).2) (by
      intro k hk
      rw [alarm_congr (s := u) (by simp), State.reaction_reactInOrder, State.reaction_shift]
      have kinds := State.kinds_reactInOrder present leads (fullOrder order) s.shift
      have : k = .chainSync ∨ k = .starve ∨ k = .placementMissed := by
        split at hk
        · rcases List.mem_cons.1 hk with e | e
          · exact Or.inl e
          · exact Or.inr (kinds k e)
        · exact Or.inr (kinds k hk)
      rcases this with e | e | e <;> subst e <;> assumption)
  have hs := State.slots_settle (u.homingCheck.headJudge.reactAll
    (if s.losesLock then
      .chainSync :: (State.reactInOrder present leads (fullOrder order) s.shift).2
    else (State.reactInOrder present leads (fullOrder order) s.shift).2))
  rw [hr.2.1] at hs
  refine ⟨?_, by simpa using hs, ?_, ?_⟩
  · simpa using hr.1
  · simpa using hr.2.2.1
  · simpa using hr.2.2.2

/-! ## The clip ids (R103) -/

/-- The clip ids along the stretch. -/
def State.clipIds (s : State) : List (Option Nat) := s.stretch.map Clip.clipId

theorem clipIds_congr {s t : State} (h : t.stretch = s.stretch) : t.clipIds = s.clipIds := by
  simp [State.clipIds, h]

/-- Writing a record that keeps its id keeps the ids. -/
theorem State.clipIds_putClip (s : State) (p : Nat) (c : Clip) (h : c.clipId = (s.clip p).clipId) :
    (s.putClip p c).clipIds = s.clipIds := by
  unfold State.clipIds State.putClip
  apply List.ext_getElem?
  intro i
  simp only [List.getElem?_map, List.getElem?_set]
  split
  · subst i
    split
    · rename_i hp
      simp only [Option.map_some, h, State.clip, List.getD_eq_getElem?_getD]
      rw [List.getElem?_eq_getElem hp]; rfl
    · rename_i hp
      rw [List.getElem?_eq_none (by omega)]
  · rfl

theorem State.clipIds_markClip (s : State) (p : Nat) (c : ClipState) :
    (s.markClip p c).clipIds = s.clipIds := s.clipIds_putClip _ _ rfl

theorem State.clipIds_request (s : State) (n : Nat) (p : Parity) (f : StatusSlot → StatusSlot)
    (r : Report) : (s.request n p f r).clipIds = s.clipIds := clipIds_congr (by simp)

theorem State.clipIds_dropAt (s : State) (k : Nat) : (s.dropAt k).clipIds = s.clipIds := by
  unfold State.dropAt
  split
  · rfl
  · dsimp only
    split
    · rw [State.clipIds_markClip]; exact clipIds_congr (by simp)
    · rw [State.recallUncounted, State.clipIds_request, State.clipIds_markClip]
      exact clipIds_congr (by simp)

theorem State.clipIds_enterHalted (s : State) : s.enterHalted.clipIds = s.clipIds := by
  have hf : ∀ u : State, u.haltFeeds.clipIds = u.clipIds := fun u =>
    foldl_keeps _ State.clipIds (fun v k => by
      unfold State.haltFeed
      split
      · rfl
      · split
        · rfl
        · exact v.clipIds_dropAt k) _ u
  have hh : ∀ u : State, u.haltHead.clipIds = u.clipIds := by
    intro u
    refine (clipIds_congr (s := u.interrupt) (by simp [State.haltHead, State.stopHead])).trans ?_
    unfold State.interrupt
    split
    · dsimp only
      split
      · exact u.clipIds_putClip _ _ rfl
      · rw [State.interruptionRequest, State.clipIds_request]; exact u.clipIds_putClip _ _ rfl
    · rfl
  have hx : ∀ u : State, u.haltExchange.clipIds = u.clipIds := fun u => clipIds_congr (by simp)
  have ha : ∀ u : State, u.haltAxes.clipIds = u.clipIds := fun u => rfl
  have hi : ∀ u : State, u.haltIndex.clipIds = u.clipIds := fun u => rfl
  unfold State.enterHalted State.haltBlocks
  rw [ha, hh, hx, hi, hf]; rfl

/-- No reaction changes a clip id. -/
theorem State.clipIds_react (s : State) (r : Reaction) : (s.react r).clipIds = s.clipIds := by
  cases r with
  | note => rfl
  | pause => exact clipIds_congr (by simp [State.react])
  | halt =>
    simp only [State.react, State.haltIfMoving]
    split
    · exact s.clipIds_enterHalted
    · rfl

theorem State.clipIds_outOfTravel (s : State) (p : Nat) (j : Job) :
    (s.outOfTravel p j).clipIds = s.clipIds := by
  rw [State.outOfTravel, State.travelRequest, State.clipIds_request]
  exact s.clipIds_putClip _ _ rfl

theorem State.clipIds_planInsert (s : State) (pos : SlotPosition) (j : Job) :
    (s.planInsert pos j).clipIds = s.clipIds := by
  unfold State.planInsert
  split
  · split
    · exact clipIds_congr (by simp)
    · rw [State.clipIds_outOfTravel]; exact clipIds_congr (by simp)
  · exact clipIds_congr (by simp)

end Sys2Proof.Machine
end

