-- ==== Sys2Proof/Laws/Payload.lean ====
section
/-! SUPPORT. What each shared part of a LOOKUP payload sends (R199, R204): the optional fields, which
are free where they are absent (log 10), the bits of the miss window, and the answer around them. -/

namespace Sys2Proof.Machine

/-- LOOKUP answers the part that the record's layout gives, filled to 13 bytes. -/
theorem reads_of_lookup {s : State} (h : Taking s) {kind : Byte} {index : Half} {part : Byte}
    {sent : List Byte → Prop} (l : List Byte) (hl : l.length ≤ 13) (hs : sent l)
    (e : s.lookup kind.toNat index.toNat part.toNat =
      { state := s, code := .ok, payload := fill l }) :
    Reads s kind index part sent :=
  ⟨l, hl, hs, by simp only [exec, execLookup]; rw [taken_taking h, e]; rfl⟩

theorem Free.bit_sent (f : Free) (i b : Nat) {α : Type} (o : Option α) (g : α → Bool) :
    ∃ r : Bool, OptionalBit o g r ∧ f.bit i b (o.map g) = bitAt r b := by
  cases o with
  | none => exact ⟨(f i).getLsbD b, by simp [OptionalBit], rfl⟩
  | some v => exact ⟨g v, by simp [OptionalBit], rfl⟩

theorem Free.byte_sent (f : Free) (i : Nat) {α : Type} (o : Option α) (g : α → Nat) :
    OptionalBytes o 1 (fun v => [Machine.byte (g v)]) (f.byte i (o.map g)) := by
  cases o <;> simp [OptionalBytes, Free.byte, Free.bytes]

theorem Free.half_sent (f : Free) (i : Nat) {α : Type} (o : Option α) (g : α → Nat) :
    OptionalBytes o 2 (fun v => sentTwo (g v)) (f.half i (o.map g)) := by
  cases o <;> simp [OptionalBytes, Free.half, Free.bytes, Machine.half, sentTwo, Machine.byte]

theorem Free.three_sent (f : Free) (i : Nat) (o : Option Nat) :
    OptionalBytes o 3 sentThree (f.three i o) := by
  cases o <;> simp [OptionalBytes, Free.three, Free.bytes, Machine.three, sentThree, Machine.byte]

/-- A miss window of at most `b + 1` entries takes `b + 1` bits. -/
theorem windowBits_lt {w : List FeedOutcome} {b : Nat} (h : w.length ≤ b + 1) :
    windowBits w b < 2 ^ (b + 1) := by
  induction w generalizing b with
  | nil => simp [windowBits]
  | cons o os ih =>
    cases b with
    | zero =>
      obtain rfl : os = [] := by simpa using h
      cases o <;> simp [windowBits, bitAt]
    | succ b =>
      have := ih (b := b) (by simpa using h)
      simp only [windowBits, bitAt, Nat.add_sub_cancel]
      split <;> omega

/-- Bit `b - i` of a miss window is its entry `i`, the oldest first, MISS as 1. -/
theorem windowBits_testBit {w : List FeedOutcome} {b i : Nat} (h : w.length ≤ b + 1) (hi : i ≤ b) :
    (windowBits w b).testBit (b - i) = decide (w[i]? = some .miss) := by
  induction w generalizing b i with
  | nil => simp [windowBits]
  | cons o os ih =>
    cases b with
    | zero =>
      obtain rfl : os = [] := by simpa using h
      obtain rfl : i = 0 := by omega
      cases o <;> simp [windowBits, bitAt]
    | succ b =>
      have hos : os.length ≤ b + 1 := by simpa using h
      have hlt := windowBits_lt hos
      simp only [windowBits, bitAt, Nat.add_sub_cancel]
      cases i with
      | zero =>
        cases o
        · simp [Nat.testBit_lt_two_pow hlt]
        · simp [Nat.testBit_lt_two_pow hlt, Nat.testBit_two_pow_add_eq]
      | succ j =>
        rw [Nat.add_sub_add_right, List.getElem?_cons_succ, ← ih hos (by omega : j ≤ b)]
        cases o
        · simp
        · rw [if_pos (by decide), Nat.testBit_two_pow_add_gt (by omega)]

end Sys2Proof.Machine
end

