-- ==== Sys2Proof/Laws/PerInstr.lean ====
section
/-! SUPPORT. One lemma for each constructor of Instr: the frame that carries a command of the host is a
whole frame of 16 bytes (R199), and a command that is no frame carries none. -/

namespace Sys2Proof.Laws.Framing

/-- Every command but FRAME_DISCARD that has a frame has one of exactly 16 bytes (R199, R200). -/
def Statement (i : Instr) : Prop :=
  ∀ bytes : List Byte, encodeFrame i = some bytes → i ≠ .frameDiscard → bytes.length = 16

/-- A frame with at most twelve operand bytes is a whole frame. -/
theorem frame_length (code kind : Byte) (index : Half) (operands : List Byte)
    (h : operands.length ≤ 12) : (frame code kind index operands).length = 16 := by
  simp [frame, twoBytes]
  omega

theorem nop : Statement (.nop) := by
  intro bytes h _
  obtain rfl := Option.some.inj h
  exact frame_length _ _ _ _ (Nat.le_of_ble_eq_true rfl)

theorem lookup : ∀ kind index part, Statement (.lookup kind index part) := by
  intro kind index part bytes h _
  obtain rfl := Option.some.inj h
  exact frame_length _ _ _ _ (Nat.le_of_ble_eq_true rfl)

theorem admitSlot : ∀ kind sequence station x y span trip code, Statement (.admitSlot kind sequence station x y span trip code) := by
  intro kind sequence station x y span trip code bytes h _
  obtain rfl := Option.some.inj h
  exact frame_length _ _ _ _ (Nat.le_of_ble_eq_true rfl)

theorem amend : ∀ kind index field value, Statement (.amend kind index field value) := by
  intro kind index field value bytes h _
  obtain rfl := Option.some.inj h
  exact frame_length _ _ _ _ (Nat.le_of_ble_eq_true rfl)

theorem retire : ∀ kind index, Statement (.retire kind index) := by
  intro kind index bytes h _
  obtain rfl := Option.some.inj h
  exact frame_length _ _ _ _ (Nat.le_of_ble_eq_true rfl)

theorem hold : ∀ kind index, Statement (.hold kind index) := by
  intro kind index bytes h _
  obtain rfl := Option.some.inj h
  exact frame_length _ _ _ _ (Nat.le_of_ble_eq_true rfl)

theorem release : ∀ kind index, Statement (.release kind index) := by
  intro kind index bytes h _
  obtain rfl := Option.some.inj h
  exact frame_length _ _ _ _ (Nat.le_of_ble_eq_true rfl)

theorem skip : ∀ kind index parity, Statement (.skip kind index parity) := by
  intro kind index parity bytes h _
  obtain rfl := Option.some.inj h
  exact frame_length _ _ _ _ (Nat.le_of_ble_eq_true rfl)

theorem recallSlot : ∀ kind index parity, Statement (.recallSlot kind index parity) := by
  intro kind index parity bytes h _
  obtain rfl := Option.some.inj h
  exact frame_length _ _ _ _ (Nat.le_of_ble_eq_true rfl)

theorem align : ∀ kind index dx dy scale, Statement (.align kind index dx dy scale) := by
  intro kind index dx dy scale bytes h _
  obtain rfl := Option.some.inj h
  exact frame_length _ _ _ _ (Nat.le_of_ble_eq_true rfl)

theorem load : ∀ kind index remaining, Statement (.load kind index remaining) := by
  intro kind index remaining bytes h _
  obtain rfl := Option.some.inj h
  exact frame_length _ _ _ _ (Nat.le_of_ble_eq_true rfl)

theorem stationSetting : ∀ kind index item value, Statement (.stationSetting kind index item value) := by
  intro kind index item value bytes h _
  obtain rfl := Option.some.inj h
  exact frame_length _ _ _ _ (Nat.le_of_ble_eq_true rfl)

theorem stationState : ∀ kind index value, Statement (.stationState kind index value) := by
  intro kind index value bytes h _
  obtain rfl := Option.some.inj h
  exact frame_length _ _ _ _ (Nat.le_of_ble_eq_true rfl)

theorem clearStation : ∀ kind index, Statement (.clearStation kind index) := by
  intro kind index bytes h _
  obtain rfl := Option.some.inj h
  exact frame_length _ _ _ _ (Nat.le_of_ble_eq_true rfl)

theorem clearClipCondition : ∀ index, Statement (.clearClipCondition index) := by
  intro index bytes h _
  obtain rfl := Option.some.inj h
  exact frame_length _ _ _ _ (Nat.le_of_ble_eq_true rfl)

theorem clearAlarm : ∀ index, Statement (.clearAlarm index) := by
  intro index bytes h _
  obtain rfl := Option.some.inj h
  exact frame_length _ _ _ _ (Nat.le_of_ble_eq_true rfl)

theorem set : ∀ kind index value, Statement (.set kind index value) := by
  intro kind index value bytes h _
  obtain rfl := Option.some.inj h
  exact frame_length _ _ _ _ (Nat.le_of_ble_eq_true rfl)

theorem ack : Statement (.ack) := by
  intro bytes h _
  obtain rfl := Option.some.inj h
  exact frame_length _ _ _ _ (Nat.le_of_ble_eq_true rfl)

theorem run : ∀ verifyPresent, Statement (.run verifyPresent) := by
  intro verifyPresent bytes h _
  obtain rfl := Option.some.inj h
  exact frame_length _ _ _ _ (Nat.le_of_ble_eq_true rfl)

theorem pause : Statement (.pause) := by
  intro bytes h _
  obtain rfl := Option.some.inj h
  exact frame_length _ _ _ _ (Nat.le_of_ble_eq_true rfl)

theorem resume : ∀ boardPresent, Statement (.resume boardPresent) := by
  intro boardPresent bytes h _
  obtain rfl := Option.some.inj h
  exact frame_length _ _ _ _ (Nat.le_of_ble_eq_true rfl)

theorem drain : Statement (.drain) := by
  intro bytes h _
  obtain rfl := Option.some.inj h
  exact frame_length _ _ _ _ (Nat.le_of_ble_eq_true rfl)

theorem halt : Statement (.halt) := by
  intro bytes h _
  obtain rfl := Option.some.inj h
  exact frame_length _ _ _ _ (Nat.le_of_ble_eq_true rfl)

theorem recover : Statement (.recover) := by
  intro bytes h _
  obtain rfl := Option.some.inj h
  exact frame_length _ _ _ _ (Nat.le_of_ble_eq_true rfl)

theorem reset : ∀ late, Statement (.reset late) := by
  intro late bytes h _
  obtain rfl := Option.some.inj h
  exact frame_length _ _ _ _ (Nat.le_of_ble_eq_true rfl)

theorem unknownCommand : ∀ code, Statement (.unknownCommand code) := by
  intro code bytes h _
  obtain rfl := Option.some.inj h
  exact frame_length _ _ _ _ (Nat.le_of_ble_eq_true rfl)

theorem frameDiscard : Statement (.frameDiscard) := by
  intro bytes h hne
  exact absurd rfl hne

theorem powerOn : ∀ levels csLow, Statement (.powerOn levels csLow) := by
  intro levels csLow bytes h _
  exact nomatch h

theorem sprocketEdge : ∀ k pocket, Statement (.sprocketEdge k pocket) := by
  intro k pocket bytes h _
  exact nomatch h

theorem advanceTimeout : ∀ k, Statement (.advanceTimeout k) := by
  intro k bytes h _
  exact nomatch h

theorem indexBegin : Statement (.indexBegin) := by
  intro bytes h _
  exact nomatch h

theorem indexCompletion : ∀ present leads order, Statement (.indexCompletion present leads order) := by
  intro present leads order bytes h _
  exact nomatch h

theorem indexTimeout : Statement (.indexTimeout) := by
  intro bytes h _
  exact nomatch h

theorem homeMarkEdge : Statement (.homeMarkEdge) := by
  intro bytes h _
  exact nomatch h

theorem boardOpen : Statement (.boardOpen) := by
  intro bytes h _
  exact nomatch h

theorem exchangeBegin : Statement (.exchangeBegin) := by
  intro bytes h _
  exact nomatch h

theorem transferDone : ∀ boardPresent openFirst, Statement (.transferDone boardPresent openFirst) := by
  intro boardPresent openFirst bytes h _
  exact nomatch h

theorem boardPresentRise : Statement (.boardPresentRise) := by
  intro bytes h _
  exact nomatch h

theorem clampedRise : Statement (.clampedRise) := by
  intro bytes h _
  exact nomatch h

theorem clampedFall : Statement (.clampedFall) := by
  intro bytes h _
  exact nomatch h

theorem transferTimeout : Statement (.transferTimeout) := by
  intro bytes h _
  exact nomatch h

theorem clampTimeout : Statement (.clampTimeout) := by
  intro bytes h _
  exact nomatch h

theorem slotActivation : Statement (.slotActivation) := by
  intro bytes h _
  exact nomatch h

theorem positionSample : ∀ axis count boardPresent, Statement (.positionSample axis count boardPresent) := by
  intro axis count boardPresent bytes h _
  exact nomatch h

theorem lockTimeout : ∀ axis, Statement (.lockTimeout axis) := by
  intro axis bytes h _
  exact nomatch h

theorem cycleStart : ∀ home, Statement (.cycleStart home) := by
  intro home bytes h _
  exact nomatch h

theorem homingStart : ∀ home, Statement (.homingStart home) := by
  intro home bytes h _
  exact nomatch h

theorem formed : Statement (.formed) := by
  intro bytes h _
  exact nomatch h

theorem down : Statement (.down) := by
  intro bytes h _
  exact nomatch h

theorem clinchEnd : Statement (.clinchEnd) := by
  intro bytes h _
  exact nomatch h

theorem headClear : ∀ exchangeFirst, Statement (.headClear exchangeFirst) := by
  intro exchangeFirst bytes h _
  exact nomatch h

theorem homeRise : ∀ exchangeFirst, Statement (.homeRise exchangeFirst) := by
  intro exchangeFirst bytes h _
  exact nomatch h

theorem phaseTimeout : ∀ edge exchangeFirst, Statement (.phaseTimeout edge exchangeFirst) := by
  intro edge exchangeFirst bytes h _
  exact nomatch h

theorem tripReached : ∀ current, Statement (.tripReached current) := by
  intro current bytes h _
  exact nomatch h

theorem offTimeExpiry : Statement (.offTimeExpiry) := by
  intro bytes h _
  exact nomatch h

theorem clinchSample : ∀ current, Statement (.clinchSample current) := by
  intro current bytes h _
  exact nomatch h

theorem overcurrentRise : ∀ current, Statement (.overcurrentRise current) := by
  intro current bytes h _
  exact nomatch h

theorem overcurrentFall : ∀ current, Statement (.overcurrentFall current) := by
  intro current bytes h _
  exact nomatch h

theorem overcurrentFilterExpiry : Statement (.overcurrentFilterExpiry) := by
  intro bytes h _
  exact nomatch h

theorem restroke : Statement (.restroke) := by
  intro bytes h _
  exact nomatch h

theorem overtempRise : Statement (.overtempRise) := by
  intro bytes h _
  exact nomatch h

theorem overtempFall : Statement (.overtempFall) := by
  intro bytes h _
  exact nomatch h

theorem supplyOkFall : Statement (.supplyOkFall) := by
  intro bytes h _
  exact nomatch h

theorem supplyOkRise : Statement (.supplyOkRise) := by
  intro bytes h _
  exact nomatch h

theorem stopNFall : Statement (.stopNFall) := by
  intro bytes h _
  exact nomatch h

theorem stopNRise : Statement (.stopNRise) := by
  intro bytes h _
  exact nomatch h

theorem pausingQuiet : Statement (.pausingQuiet) := by
  intro bytes h _
  exact nomatch h

theorem drainEnd : Statement (.drainEnd) := by
  intro bytes h _
  exact nomatch h

theorem retryTimeout : ∀ kind, Statement (.retryTimeout kind) := by
  intro kind bytes h _
  exact nomatch h

theorem porNFall : Statement (.porNFall) := by
  intro bytes h _
  exact nomatch h

end Sys2Proof.Laws.Framing
end

