-- ==== Sys2Proof/Tests/Slice0.lean ====
section
/-! SUPPORT. Tests: the checks of WellFormed, the frames of the control port, worked examples of the
spec, and for each statement of Certificates a state that meets its hypotheses. Every expected value
comes from the spec's text or from a hand calculation by its rules. -/

set_option Elab.async false

namespace Sys2Proof.Tests

open Sys2Proof Sys2Proof.Machine

/-! ## WellFormed: every check refuses an ill-formed command -/

theorem test_wf_unknown_command :
    (Instr.unknownCommand 21).wf = false ∧ (Instr.unknownCommand 22).wf = true := by decide

theorem test_wf_station_setting :
    (Instr.stationSetting 3 7 5 0).wf = false ∧ (Instr.stationSetting 3 7 4 0).wf = true := by decide

theorem test_wf_clear_station :
    (Instr.clearStation 5 0).wf = false ∧ (Instr.clearStation 11 0).wf = false ∧
      (Instr.clearStation 3 0).wf = true := by decide

theorem test_wf_sprocket_edge :
    (Instr.sprocketEdge 0 true).wf = false ∧ (Instr.sprocketEdge 73 true).wf = false ∧
      (Instr.sprocketEdge 1 true).wf = true ∧ (Instr.sprocketEdge 72 true).wf = true := by decide

theorem test_wf_advance_timeout :
    (Instr.advanceTimeout 0).wf = false ∧ (Instr.advanceTimeout 73).wf = false ∧
      (Instr.advanceTimeout 72).wf = true := by decide

theorem test_wf_index_completion :
    (Instr.indexCompletion true true [.station 0]).wf = false ∧
      (Instr.indexCompletion true true [.verify, .station 72]).wf = true := by decide

/-! ## Frames, written out from R199 and R206 -/

/-- Levels that no frame samples. -/
def quietLines : Sampled := { verifyPresent := false, boardPresent := false, late := false }

/-- NOP is code 0, and every other byte is ignored. -/
theorem test_frame_nop :
    decodeFrame quietLines [0, 9, 9, 9, 9, 9, 9, 9, 9, 9, 9, 9, 9, 9, 9, 9] = .nop := by decide

/-- ADMIT, code 2: sequence 300, station 7, x 60000 = 0xEA60, y 258, span 100, trip 3, code 0xB1. -/
theorem test_frame_admit :
    decodeFrame quietLines
      [2, 0, 0, 0, 0x01, 0x2C, 7, 0xEA, 0x60, 0x01, 0x02, 100, 3, 0xB1, 0, 0] =
      .admitSlot 0 300 7 60000 258 100 3 0xB1 := by decide

/-- ALIGN, code 9: record kind 1, ODD, dx -1, dy 2, scale -2000 = 0xF830. -/
theorem test_frame_align :
    decodeFrame quietLines
      [9, 1, 0, 1, 0xFF, 0xFF, 0x00, 0x02, 0xF8, 0x30, 0, 0, 0, 0, 0, 0] =
      .align 1 1 0xFFFF 2 0xF830 := by decide

/-- STATION, code 11: station 72, item 5 is the state, value 1 is ONLINE. -/
theorem test_frame_station_online :
    decodeFrame quietLines [11, 3, 0, 72, 5, 0, 1, 0, 0, 0, 0, 0, 0, 0, 0, 0] =
      .stationState 3 72 1 := by decide

/-- CLEAR, code 12: record kind 11 is an alarm record, 5 a clip-condition entry. -/
theorem test_frame_clear :
    decodeFrame quietLines [12, 11, 0, 9, 0, 0, 0, 0, 0, 0, 0, 0, 0, 0, 0, 0] = .clearAlarm 9 ∧
      decodeFrame quietLines [12, 5, 0, 199, 0, 0, 0, 0, 0, 0, 0, 0, 0, 0, 0, 0] =
        .clearClipCondition 199 := by decide

/-- SET, code 13: item 94, value 0x0001F4 = 500. -/
theorem test_frame_set :
    decodeFrame quietLines [13, 12, 0, 94, 0x00, 0x01, 0xF4, 0, 0, 0, 0, 0, 0, 0, 0, 0] =
      .set 12 94 500 := by decide

/-- Code 22 names no command, and 15 or 17 bytes, and 16 bytes with 4 bits more, are no frame (R200). -/
theorem test_frame_refused :
    decodeFrame quietLines [22, 0, 0, 0, 0, 0, 0, 0, 0, 0, 0, 0, 0, 0, 0, 0] = .unknownCommand 22 ∧
      decodeFrame quietLines [0, 0, 0, 0, 0, 0, 0, 0, 0, 0, 0, 0, 0, 0, 0] = .frameDiscard ∧
      decodeFrame quietLines [0, 0, 0, 0, 0, 0, 0, 0, 0, 0, 0, 0, 0, 0, 0, 0, 0] =
        .frameDiscard ∧
      decodeFrame quietLines [18, 0, 0, 0, 0, 0, 0, 0, 0, 0, 0, 0, 0, 0, 0, 0] 4 = .frameDiscard := by decide

/-- A frame as one word, byte 0 in its low bits: DRAIN is code 18 (R206), in 128 bits alone (R200). -/
theorem test_frame_word :
    decodeTableWord 128 18 = some .drain ∧
      decodeTableWord 128 0x01000C0D = some (.set 12 1 0) ∧ decodeTableWord 120 18 = some .frameDiscard ∧
      decodeTableWord 132 18 = some .frameDiscard := by decide

/-! ## States used below -/

/-- The machine in a state with no return state. -/
def inState (m : MachineState) (s : State) : State :=
  { s with machine := { state := m, returnState := none } }

def running : State := inState .running State.reset
def stopped : State := inState .stopped State.reset

/-- A pause that returns to RUNNING. -/
def pausedIn (m : MachineState) (s : State) : State :=
  { s with machine := { state := m, returnState := some .running } }

/-- A status slot in a state, with everything else as ADMIT sets it. -/
def slotIn (st : PlacementState) : StatusSlot := { StatusSlot.fresh with state := st }

/-- Slot 63 of the worked case of spec 07, with its ODD status slot in a state. -/
def part63 (st : PlacementState) : Placement :=
  { sequence := 10, station := 12, substitute := false, x := 12345, y := 6789, orientation := .q90
    span := 100, tier := 0, clinch := .inward, trip := 5, hold := .free
    status := { even := StatusSlot.fresh, odd := slotIn st } }

/-- Board 41 (ODD) in a phase and a table state, with the correction of the worked case. -/
def board41 (phase : BoardPhase) (t : TableState) : BoardRecord :=
  { BoardRecord.powerOn with
    number := 41, phase := phase, tableState := t
    correction := some { dx := 37, dy := -12, scale := 150 }, inBoard := 1 }

/-- The geometry settings of the worked case of spec 07. -/
def caseSettings : Settings :=
  { Settings.default with
    centreX := 20000, centreY := 15000, homeX := 1000, homeY := 500, homeS := 200, homeR := 3000 }

/-- Board 41 is open with slot 63 in a state of progress. -/
def withBoard (st : PlacementState) (phase : BoardPhase) (t : TableState) (s : State) : State :=
  { s with
    boards := { s.boards with odd := board41 phase t }
    nextNumber := 42
    settings := caseSettings
    table := s.table.set 63 (some (part63 st)) }

/-- The call of slot 63 for board 41 through station 12. -/
def call63 : Call := { board := 41, placement := 63, station := 12 }

/-- A clip that names slot 63, in a state. -/
def clip63 (st : ClipState) : Clip :=
  { state := st, call := some call63, verify := none, dump := false, clipId := none }

def targets63 : Quad Nat := { x := 57494, y := 15170, r := 7096, s := 600 }

/-- Every axis LOCKED at the targets of slot 63. -/
def lockedAxes : Quad AxisRecord :=
  targets63.map fun v =>
    { AxisRecord.powerOn with state := .locked, target := v, lastPosition := some v }

def job63 : Job := { board := 41, placement := 63 }

def planned63 (st : SlotState) (pos : SlotPosition) : MoveSlot :=
  { state := st, position := some pos, kind := some .insert, job := some job63
    targets := some targets63 }

/-- The machine RUNNING with slot 63 of board 41 at the head: the worked sequence of spec 08, 09. -/
def atHead : State :=
  let s := withBoard .called .calledOut .aligned running
  { s with
    stretch := s.stretch.set 80 (clip63 .verified)
    slots := { even := planned63 .active .p80, odd := MoveSlot.powerOn }
    axes := lockedAxes }

/-- The INSERT cycle of slot 63 in a phase. -/
def cycle63 (st : HeadState) : Head :=
  { state := st, kind := some .insert, slot := some .even, job := some job63
    plan := some { profile := .inward, trip := 5 }, formed := st != .form, cleared := false
    held := .none, peak := 0, phaseTimer := some 80 }

def inPhase (st : HeadState) : State := { atHead with head := cycle63 st }

/-- The clinch stroke of slot 63. -/
def inStroke : State :=
  { inPhase .clinch with drive := { Drive.powerOn with stroke := .commanded } }

/-- Station 12 with a feed of slot 63 in flight (spec 03, A retry cut short by the head). -/
def station12 : Station :=
  { Station.powerOn with
    state := .ready, remaining := 41, committed := 3, retryLimit := 2, feed := .advancing
    work := some { retryLimit := 2, advanceTimeout := 60 }, advanceTimer := some 60 }

def feeding : State :=
  let s := withBoard .called .calling .aligned running
  { s with
    stations := s.stations.set 11 station12
    stretch := s.stretch.set 12 (clip63 .assigned) }

/-- An index in flight. -/
def indexing (s : State) : State :=
  { s with chain := { s.chain with indexState := .indexing, indexTimer := some 250 } }

/-- An exchange in a leg. -/
def inLeg (leg : Leg) (s : State) : State := { s with exchange := { s.exchange with leg := leg } }

theorem forParity {P : Parity → Prop} (e : P .even) (o : P .odd) : ∀ p, P p
  | .even => e
  | .odd => o

theorem forAxis {P : Axis → Prop} (x : P .x) (y : P .y) (r : P .r) (s : P .s) : ∀ a, P a
  | .x => x
  | .y => y
  | .r => r
  | .s => s

/-- What a command leaves, read by a test. -/
def after (c : Instr) (s : State) (test : State → Bool) : Bool :=
  match exec c s with
  | .next t => test t
  | _ => false

/-! ## Worked cases of the spec -/

/-- Spec 07: slot 63 in Q90 gives X 57494, Y 15170, S 600, R 7096. -/
theorem test_geometry_slot63 :
    axisTargets caseSettings (part63 .called) { dx := 37, dy := -12, scale := 150 } =
      some targets63 := by decide +kernel

/-- Spec 07: slot 64 in Q180 falls outside the plane. -/
theorem test_geometry_slot64 :
    axisTargets caseSettings { part63 .called with x := 45000, orientation := .q180, span := 120 }
      { dx := 37, dy := -12, scale := 150 } = none := by decide +kernel

/-- Spec 07: the six rows of rounding at the halfway point. -/
theorem test_rounding :
    scaled 10000 50 = 10001 ∧ scaled 30000 (-50) = 29998 ∧ scaled 30000 50 = 30002 ∧
      scaled 9999 50 = 9999 ∧ scaled 10001 (-50) = 10000 ∧ scaled 0 (-2000) = 0 := by decide +kernel

/-- Spec 08: from 57400 in SLEW the sample 57440 brings axis X into SETTLE without being counted. -/
theorem test_axis_settles :
    ({ AxisRecord.powerOn with
        state := .slew, target := 57494, lastPosition := some 57400
        lockTimer := some 400 }.sampled (.default 0) 57440) =
      { AxisRecord.powerOn with
        state := .settle, target := 57494, lastPosition := some 57440, lockTimer := some 400 } := by
  decide +kernel

/-- Spec 08: with 3 samples counted, 57494 makes it 4 and locks. -/
theorem test_axis_locks :
    ({ AxisRecord.powerOn with
        state := .settle, target := 57494, lastPosition := some 57493, inRun := 3
        lockTimer := some 400 }.sampled (.default 0) 57494) =
      { AxisRecord.powerOn with
        state := .locked, target := 57494, lastPosition := some 57494, inRun := 4 } := by
  decide +kernel

/-- Spec 08: in DRIVE, the second sample outside the window loses lock: HALTED, the placement
INTERRUPTED and the slot released. -/
theorem test_lost_lock_halts :
    after (.positionSample .x 57500 false)
      { inPhase .drive with
        axes := lockedAxes.put .x { lockedAxes.x with outRun := 1, lastPosition := some 57499 } }
      (fun t => decide (t.machine.state = .halted ∧ (t.alarm .axisFollow).lastSource = some (.axis .x) ∧
        (t.moveSlot .even).state = .free ∧ t.axes.x.target = 57494 ∧
        (t.statusOf 63 .odd).map StatusSlot.state = some .interrupted)) = true := by decide +kernel

/-- Spec 05: an inserted mark at C 0 widens the window by one. -/
theorem test_inserted_mark :
    ({ Chain.powerOn with syncState := .locked, counter := 199 }.completed 2 2).chain =
      { Chain.powerOn with syncState := .locked, counter := 0, missRun := 1, tolerance := 1 } := by
  decide +kernel

/-- Spec 05: the late mark at a + 1 sets the counter to 0, and the record at 80 holds id 120. -/
theorem test_late_mark :
    after (.indexCompletion false false [])
      { indexing running with
        chain := { Chain.powerOn with
          indexState := .indexing, indexTimer := some 250, markSeen := true, syncState := .locked
          missRun := 1, tolerance := 1 } }
      (fun t => decide (t.chain.counter = 0 ∧ t.chain.missRun = 0 ∧ t.chain.tolerance = 0 ∧
        (t.clip 0).clipId = some 0 ∧ (t.clip 80).clipId = some 120)) = true := by decide +kernel

/-- Spec 05: the second inserted mark in a row is Nf 2: lock is lost and CHAIN_SYNC raised. -/
theorem test_lock_lost :
    after (.indexCompletion false false [])
      { running with
        chain := { Chain.powerOn with
          indexState := .indexing, indexTimer := some 250, syncState := .locked, counter := 199
          missRun := 1, tolerance := 1 } }
      (fun t => decide (t.chain.syncState = .unlocked ∧ (t.alarm .chainSync).state = .active ∧
        (t.clip 80).clipId = none)) = true := by decide +kernel

/-- Spec 03: the first empty pocket gives a retry. -/
theorem test_empty_pocket_retries :
    after (.sprocketEdge 12 false) feeding
      (fun t => decide (t.station? 12 =
        some { station12 with retriesUsed := 1, advanceTimer := some 60 })) = true := by decide +kernel

/-- Spec 03: with a request outstanding it is a MISS: committed 2, DROP_MISSED, slot 63 CALLABLE. -/
theorem test_empty_pocket_misses :
    after (.sprocketEdge 12 false)
      { feeding with chain := { Chain.powerOn with indexState := .requested } }
      (fun t => decide ((t.clip 12).state = .dropMissed ∧
        (t.station? 12).map Station.committed = some 2 ∧
        (t.station? 12).map Station.consecutiveMisses = some 1 ∧
        (t.statusOf 63 .odd).map StatusSlot.state = some .callable)) = true := by decide +kernel

/-- Spec 03: the advance timeout makes the station JAMMED and the machine PAUSING while the head works,
and PAUSED where no other work is in flight (R185). -/
theorem test_jam :
    after (.advanceTimeout 12) { feeding with head := cycle63 .drive }
        (fun t => decide ((t.station? 12).map Station.state = some .jammed ∧
          (t.alarm .stationJam).state = .latched ∧ t.machine =
            { state := .pausing, returnState := some .running })) = true ∧
      after (.advanceTimeout 12) feeding (fun t => decide (t.machine =
        { state := .paused, returnState := some .running })) = true := by decide +kernel

/-- Spec 01: the third failing judgment makes the placement MISSED with attempts 3 (limit 2). -/
theorem test_third_failure_misses :
    after (.indexCompletion true false [])
      (let s := indexing (withBoard .called .calledOut .aligned running)
       { s with
         stretch := s.stretch.set 75 (clip63 .loaded)
         table := s.table.set 63 (some { part63 .called with
           status := { even := StatusSlot.fresh
                       odd := { slotIn .called with attempts := 2 } } }) })
      (fun t => decide (t.statusOf 63 .odd = some { slotIn .missed with attempts := 3 } ∧
        (t.clip 76).verify = some .leadFault ∧
        (t.alarm .placementMissed).lastSource = some (.slot 63))) = true := by decide +kernel

/-- Spec 09, One insertion: the last start condition begins FORM with profile IN, trip 5, peak 0. -/
theorem test_cycle_starts :
    after (.cycleStart true) atHead
      (fun t => decide (t.head = { cycle63 .form with peak := 0 } ∧ t.outputs.former = true)) = true := by
  decide +kernel

/-- A head in HOMING with a DUMP cycle to start: the UNKNOWN clip at 80, the ACTIVE dump slot, and the
axes LOCKED. -/
def homingToDump (m : MachineState) : State :=
  let s := inState m State.reset
  { s with
    slots := ⟨{ planned63 .active .p80 with kind := some .dump, job := none }, MoveSlot.powerOn⟩
    axes := lockedAxes
    head := { Head.powerOn with state := .homing, phaseTimer := some 200 } }

/-- A head in HOMING with the INSERT cycle of slot 63 to start. -/
def homingToInsert : State := { atHead with head := { Head.powerOn with state := .homing } }

/-- R161: HOME rising in HOMING starts the cycle at once, where DRAINING would end without it too. -/
theorem test_home_starts_the_cycle :
    after (.homeRise false) homingToInsert
        (fun t => decide (t.head = { cycle63 .form with peak := 0 } ∧ t.outputs.former = true)) = true ∧
      after (.homeRise false) (homingToDump .draining)
        (fun t => decide (t.head.state = .form ∧ t.head.kind = some .dump ∧
          t.machine.state = .draining)) = true ∧
      after (.homeRise false) { homingToDump .draining with axes := State.reset.axes }
        (fun t => decide (t.head.state = .idle ∧ t.machine.state = .stopped)) = true := by
  decide +kernel

/-- Spec 09, One insertion: CLINCH_END makes slot 63 INSERTED with peak 83 and empties the clip. -/
theorem test_clinch_end :
    after .clinchEnd { inStroke with head := { cycle63 .clinch with peak := 83 } }
      (fun t => decide (t.statusOf 63 .odd = some { slotIn .inserted with clinchPeak := some 83 } ∧
        (t.clip 80).state = .empty ∧ t.head.state = .retract ∧ t.bridgeOn = false ∧
        (t.board .odd).phase = .complete)) = true := by decide +kernel

/-- Spec 09: the trip of slot 63, trip 5, is at 4.0 A, 80 units of 0.05 A (R169): there BRIDGE_ON goes
low and one chop is counted, and below it nothing happens. -/
theorem test_trip :
    inStroke.bridgeOn = true ∧
      after (.tripReached 80) inStroke
        (fun t => decide (t.bridgeOn = false ∧ t.drive.chopCount = 1)) = true ∧
      after (.tripReached 79) inStroke (fun t => decide (t = inStroke)) = true := by decide +kernel

/-- R175: a stroke that has tripped is not open, though every later sample lies below the threshold. -/
theorem test_tripped_stroke_is_not_open :
    after (.tripReached 80) { inStroke with drive := { inStroke.drive with samples := 15 } }
      (fun t => after (.clinchSample 0) t
        (fun u => decide (u.head.held = .none ∧ (u.alarm .clinchOpen).state = .clear))) = true ∧
    after (.clinchSample 0) { inStroke with drive := { inStroke.drive with samples := 15 } }
      (fun u => decide (u.head.held = .open)) = true := by decide +kernel

/-- R185 and R187: PAUSE of a quiet machine is PAUSED at once, and DRAIN with nothing left STOPPED. -/
theorem test_ends_at_once :
    after .pause running (fun t => decide (t.machine =
        { state := .paused, returnState := some .running })) = true ∧
      after .drain running (fun t => decide (t.machine =
        { state := .stopped, returnState := none })) = true ∧
      after .drain atHead (fun t => decide (t.machine.state = .draining)) = true := by decide +kernel

/-- R208: CS_N low as POR_N rises swallows the frame under way, and the next one is taken. -/
theorem test_frame_at_power_on :
    after (.powerOn LineLevels.quiet true) State.reset
      (fun t => after .ack t (fun u => decide (u.machine.state = .start ∧ u.port.reply.command = 0) &&
        after .ack u (fun v => decide (v.machine.state = .stopped)))) = true := by decide +kernel

/-- R37, spec 02: board 40 left, its record has opened again as board 42, and the clamp timeout of
board 41 names board 40. -/
theorem test_clamp_timeout_names_the_leaving_board :
    after .clampTimeout
      { running with
        boards := { even := { board41 .calling .notLoaded with number := 42 }
                    odd := board41 .calledOut .notLoaded }
        nextNumber := 43
        exchange := { Exchange.powerOn with
          leg := .clamping, leaving := some { parity := .even, number := 40 }, incoming := some .odd
          clampTimer := some 30 } }
      (fun t => decide ((t.alarm .boardTransfer).lastSource = some (.board 40))) = true := by
  decide +kernel

/-- Spec 02: after RESET and ACK, RUN with the clamp closed plans two dumps (R149), and the first
exchange is an UNLOAD with no leaving board. -/
theorem test_first_run :
    after (.run false) stopped
        (fun t => decide ((t.moveSlot .even).position = some .p80 ∧
          (t.moveSlot .odd).position = some .p79 ∧ t.alternation = .even)) = true ∧
      after .exchangeBegin { running with inputs := { State.reset.inputs with
          levels := { LineLevels.quiet with clamped := true } } }
        (fun t => decide (t.exchange.leg = .move ∧ t.exchange.kind = .unload ∧
          t.exchange.leaving = none)) = true := by decide +kernel

/-- Spec 11: the status byte shows START and no alarm after power-on, and the first slot ADMIT fills
is slot 0. -/
theorem test_port :
    State.reset.statusByte = 0 ∧
      after (.admitSlot 0 300 7 60000 258 100 3 0xB1) State.reset
        (fun t => decide (t.port.reply = { code := .ok, command := 2, payload := [0, 0] } ∧
          (t.slot? 0).map Placement.tier = some 1 ∧
          (t.slot? 0).map Placement.orientation = some .q90 ∧
          (t.slot? 0).map Placement.clinch = some .cutOnly)) = true := by decide +kernel

/-- Spec 01, Holding a placement in flight: HOLD of a carried placement is PENDING and marks it. -/
theorem test_hold_pending :
    after (.hold 0 63) atHead
      (fun t => decide (t.port.reply.code = .pending ∧
        (t.slot? 63).map Placement.hold = some .holdPending ∧
        (t.statusOf 63 .odd).map StatusSlot.unordered = some true)) = true := by decide +kernel

/-- A step on a queue takes its front. -/
theorem test_step :
    step { State.reset with pending := [.ack, .nop] } =
      exec .ack { State.reset with pending := [.nop] } := rfl


/-! ## Witnesses: for each statement of Certificates, states that meet its hypotheses -/

theorem completes {c : Instr} {s : State} (h : after c s (fun _ => true) = true) :
    ∃ t, exec c s = .next t := by
  unfold after at h
  split at h
  · exact ⟨_, ‹_›⟩
  · cases h

/-- A state whose queue holds one command. -/
def queued (c : Instr) (s : State) : State := { s with pending := [c] }

theorem queued_completes {c : Instr} {s : State}
    (h : after c { s with pending := [] } (fun _ => true) = true) : ∃ t, step (queued c s) = .next t :=
  completes h

/-- A table with one admitted record. -/
theorem join_set {k m n : Nat} {x r : Placement}
    (h : (((List.replicate k none).set m (some x))[n]?).join = some r) : n = m ∧ r = x := by
  rw [List.getElem?_set] at h
  split at h
  · split at h <;> simp at h
    exact ⟨by omega, h.symm⟩
  · rw [List.getElem?_replicate] at h
    split at h <;> simp at h

theorem slot_withBoard {st : PlacementState} {ph : BoardPhase} {ts : TableState} {n : Nat}
    {r : Placement} (h : (withBoard st ph ts running).slot? n = some r) : n = 63 ∧ r = part63 st :=
  join_set h

theorem witness_StepRunsFrontCommand :
    (queued .ack State.reset).pending = .ack :: [] ∧ State.reset.pending = [] := ⟨rfl, rfl⟩

theorem witness_PowerOnLeavesTheStartValues :
    (State.reset.station? 1).isSome = true ∧ (State.reset.station? 72).isSome = true ∧
      State.reset.station? 0 = none ∧ State.reset.station? 73 = none ∧
      State.reset.stretch[80]?.isSome = true ∧ State.reset.stretch[81]? = none := by decide +kernel

theorem witness_StepKeepsShape :
    (∃ t, exec (.tripReached 80) inStroke = .next t) ∧ ShapeHolds (queued (.tripReached 80) inStroke) ∧
      ∃ t, step (queued (.tripReached 80) inStroke) = .next t :=
  ⟨completes (by decide +kernel), by unfold ShapeHolds; decide +kernel,
    queued_completes (by decide +kernel)⟩

theorem witness_StepKeepsDriveLaw :
    DriveHolds (queued (.tripReached 80) inStroke) ∧
      (∃ t, step (queued (.tripReached 80) inStroke) = .next t) ∧ inStroke.bridgeOn = true :=
  ⟨by unfold DriveHolds; decide +kernel, queued_completes (by decide +kernel), by decide +kernel⟩

theorem witness_StepKeepsTargetsWithinLimits :
    TargetsHold (queued .slotActivation { atHead with slots := ⟨planned63 .planned .p80, .powerOn⟩ }) ∧
      ∃ t, step (queued .slotActivation { atHead with slots := ⟨planned63 .planned .p80, .powerOn⟩ }) =
        .next t := by
  refine ⟨⟨?_, ?_⟩, queued_completes (by decide +kernel)⟩
  · exact forAxis ⟨by unfold AxisSettings.Inside; decide +kernel, by unfold AxisSettings.Inside; decide +kernel⟩
      ⟨by unfold AxisSettings.Inside; decide +kernel, by unfold AxisSettings.Inside; decide +kernel⟩
      ⟨by unfold AxisSettings.Inside; decide +kernel, by unfold AxisSettings.Inside; decide +kernel⟩
      ⟨by unfold AxisSettings.Inside; decide +kernel, by unfold AxisSettings.Inside; decide +kernel⟩
  · refine forParity ?_ ?_
    · exact fun _ => ⟨targets63, rfl, forAxis (by unfold AxisSettings.Inside; decide +kernel)
        (by unfold AxisSettings.Inside; decide +kernel) (by unfold AxisSettings.Inside; decide +kernel)
        (by unfold AxisSettings.Inside; decide +kernel)⟩
    · intro h
      exact absurd h (by decide +kernel)

theorem witness_StepKeepsAttempts :
    AttemptsHold (queued .clinchEnd inStroke) ∧ ∃ t, step (queued .clinchEnd inStroke) = .next t := by
  refine ⟨?_, queued_completes (by decide +kernel)⟩
  intro n p r h _
  obtain ⟨rfl, rfl⟩ := slot_withBoard (ph := .calledOut) (ts := .aligned) h
  unfold StatusSlot.AttemptsHold
  cases p <;> decide +kernel

/-- Boards 40 and 41 are open, and 42 is next. -/
def twoBoards : State :=
  { withBoard .callable .calledOut .notLoaded running with
    boards :=
      { even := { board41 .calledOut .aligned with number := 40 }, odd := board41 .calledOut .notLoaded } }

theorem witness_StepKeepsBoardNumbers :
    NumbersHold (queued .boardOpen twoBoards) ∧ (∃ t, step (queued .boardOpen twoBoards) = .next t) ∧
      twoBoards.isOpen .even = true ∧ twoBoards.isOpen .odd = true ∧
      after .exchangeBegin (withBoard .inserted .complete .aligned running)
        (fun t => decide (t.exchange.leaving = some { parity := .odd, number := 41 })) = true :=
  ⟨by unfold NumbersHold NumberHolds; decide +kernel, queued_completes (by decide +kernel),
    by decide +kernel, by decide +kernel, by decide +kernel⟩

theorem witness_StepKeepsAlarmRecords :
    AlarmsHold (queued .pause running) ∧ ReturnHolds (queued .pause running) ∧
      SettledHolds (queued .pause running) ∧ ∃ t, step (queued .pause running) = .next t := by
  refine ⟨?_, by unfold ReturnHolds; decide +kernel, by unfold SettledHolds; decide +kernel,
    queued_completes (by decide +kernel)⟩
  intro k
  unfold AlarmRecord.Holds
  cases k <;> decide +kernel

/-- The chain LOCKED at counter 37, with the ids that R103 gives. -/
def lockedChain : State :=
  { running with
    chain := { Chain.powerOn with syncState := .locked, counter := 37, indexState := .indexing,
                                  indexTimer := some 250 }
    stretch := (List.range 81).map fun p => { Clip.unknown with clipId := some ((237 - p) % 200) } }

theorem witness_StepKeepsClipIds :
    ChainHolds (queued (.indexCompletion true true []) lockedChain) ∧
      ∃ t, step (queued (.indexCompletion true true []) lockedChain) = .next t := by
  refine ⟨⟨by unfold Chain.Holds; decide +kernel, by decide +kernel, ?_⟩,
    queued_completes (by decide +kernel)⟩
  intro p c h
  have e : (queued (.indexCompletion true true []) lockedChain).stretch =
    (List.range 81).map fun p => { Clip.unknown with clipId := some ((237 - p) % 200) } := rfl
  rw [e, List.getElem?_map] at h
  by_cases hp : p < 81
  · rw [List.getElem?_range hp] at h
    cases h
    rfl
  · rw [List.getElem?_eq_none (by simpa using hp)] at h
    cases h

theorem witness_HostAloneSetsRunning :
    (after (.run false) stopped (fun t => decide (t.machine.state = .running)) = true) ∧
      stopped.machine.state = .stopped ∧
      (after (.resume false) (pausedIn .paused State.reset)
        (fun t => decide (t.machine.state = .running)) = true) ∧
      (after .recover (inState .halted State.reset)
        (fun t => decide (t.machine.state = .stopped)) = true) ∧
      (after .ack State.reset (fun t => decide (t.machine.state = .stopped)) = true) := by
  decide +kernel

/-- The part while POR_N is low. -/
def poweredDown : State := { atHead with inputs := { atHead.inputs with porN := false } }

theorem witness_AlarmLineLaw : Live atHead ∧ ¬ Live poweredDown := by
  unfold Live
  decide +kernel

theorem witness_FrameRoundTrip :
    (Instr.admitSlot 0 300 7 60000 258 100 3 0xB1).wf = true ∧
      encodeFrame (.admitSlot 0 300 7 60000 258 100 3 0xB1) =
        some [2, 0, 0, 0, 0x01, 0x2C, 7, 0xEA, 0x60, 0x01, 0x02, 100, 3, 0xB1, 0, 0] ∧
      (Instr.admitSlot 0 300 7 60000 258 100 3 0xB1).agrees quietLines = true := by decide

theorem witness_PorNLowHoldsThePart :
    Instr.ack.wf = true ∧ ¬ Live poweredDown ∧ (∀ l b, Instr.ack ≠ .powerOn l b) ∧
      Instr.ack ≠ .porNFall :=
  ⟨rfl, by unfold Live; decide +kernel, nofun, nofun⟩

/-- The part just after POR_N has risen with CS_N low: it waits for CS_N to rise. -/
def awaitingRise : State := { State.reset with port := { Port.powerOn with awaitsRise := true } }

theorem witness_PowerOnStartsThePart :
    (encodeFrame .ack).isSome = true ∧ Live awaitingRise ∧ awaitingRise.port.awaitsRise = true ∧
      LineLevels.quiet.overtemp = false ∧ LineLevels.quiet.supplyOk = true := by
  unfold Live
  decide +kernel

theorem witness_ResetCommandReturnsToStart :
    Taking feeding ∧ (feeding.station? 12).isSome = true ∧
      feeding.inputs.levels.overtemp = false ∧ feeding.inputs.levels.supplyOk = true :=
  ⟨⟨rfl, rfl⟩, by decide +kernel⟩

theorem witness_PortFramesCompleteAlone : Taking feeding ∧ 22 ≤ (22 : Byte).toNat :=
  ⟨⟨rfl, rfl⟩, by decide⟩

/-- A table whose last slot is admitted. -/
def lastAdmitted : State := { State.reset with table := State.reset.table.set 383 (some (part63 .callable)) }

theorem witness_LookupReadsARecord :
    Taking lastAdmitted ∧ 13 ≤ (13 : Byte).toNat ∧ 2 ≤ (2 : Byte).toNat ∧
      (383 : Half).toNat < 384 ∧ (lastAdmitted.slot? (383 : Half).toNat).isSome = true ∧
      lastAdmitted.slot? (0 : Half).toNat = none ∧
      (lastAdmitted.station? (72 : Half).toNat).isSome = true ∧
      (lastAdmitted.station? (1 : Half).toNat).isSome = true :=
  ⟨⟨rfl, rfl⟩, by decide +kernel⟩

/-- The last index of every kind, the first outside it, and a part that a kind does not have; the station
has a whole miss window. -/
theorem witness_LookupReadsARecord_bounds :
    (Taking lastAdmitted ∧ ShapeHolds lastAdmitted) ∧
    (384 ≤ (384 : Half).toNat ∧ 2 ≤ (2 : Half).toNat ∧ (1 : Half).toNat ≠ 0 ∧ (0 : Half).toNat = 0 ∧
      72 < (73 : Half).toNat ∧ 80 < (81 : Half).toNat ∧ 199 < (200 : Half).toNat ∧
      3 < (4 : Half).toNat ∧ 15 < (16 : Half).toNat ∧ 94 < (95 : Half).toNat ∧ (1 : Byte) ≠ 0 ∧
      2 ≤ (2 : Byte).toNat) ∧
    ((1 : Half).toNat = parityCode .odd ∧ (80 : Half).toNat ≤ 80 ∧ (199 : Half).toNat ≤ 199 ∧
      (3 : Half).toNat = axisCode .s ∧ kindOfCode (15 : Half).toNat = some .overTemp ∧
      (94 : Half).toNat ≤ 94) ∧
    (let st := { Station.powerOn with missWindow := List.replicate 16 .miss }
     (running.putStation 72 st).station? (72 : Half).toNat = some st) :=
  ⟨⟨⟨rfl, rfl⟩, by unfold ShapeHolds; decide +kernel⟩, by decide +kernel⟩

theorem witness_ResponseFrameShowsStatusAndReply :
    (lastAdmitted.replied 1 .ok (List.replicate 13 0)).port.reply.payload.length ≤ 13 := by decide

theorem witness_FreeSlotsAreRefused :
    Taking lastAdmitted ∧ (0 : Half).toNat < 384 ∧ lastAdmitted.slot? (0 : Half).toNat = none ∧
      lastAdmitted.slot? (382 : Half).toNat = none ∧ ¬ (384 : Half).toNat < 384 ∧ (1 : Byte) ≠ 0 :=
  ⟨⟨rfl, rfl⟩, by decide +kernel⟩

/-- A table with no FREE slot. -/
def fullTable : State := { State.reset with table := List.replicate 384 (some (part63 .callable)) }

theorem witness_AdmitFillsLowestFreeSlot :
    (Taking State.reset ∧ ShapeHolds State.reset ∧ (0 : Nat) < 384 ∧ State.reset.slot? 0 = none ∧
      ∀ m : Nat, m < 0 → State.reset.slot? m ≠ none) ∧
    (Taking fullTable ∧ ShapeHolds fullTable ∧ ∀ n : Nat, n < 384 → fullTable.slot? n ≠ none) ∧
    1 ≤ (72 : Byte).toNat ∧ (72 : Byte).toNat ≤ 72 ∧ (60000 : Half).toNat ≤ 60000 ∧
    (45000 : Half).toNat ≤ 45000 ∧ 50 ≤ (254 : Byte).toNat ∧ (254 : Byte).toNat ≤ 254 ∧
    (7 : Byte).toNat ≤ 7 ∧ (0xF3 : Byte).toNat / 32 % 4 = Orientation.q270.quadrant ∧
    (0xF3 : Byte).toNat / 8 % 4 = Profile.cutOnly.code ∧ 72 < (73 : Byte).toNat := by
  refine ⟨⟨⟨rfl, rfl⟩, by unfold ShapeHolds; decide +kernel, by decide, by decide +kernel,
    fun m h => absurd h (Nat.not_lt_zero m)⟩, ⟨⟨rfl, rfl⟩, by unfold ShapeHolds; decide +kernel, ?_⟩,
    by decide⟩
  intro n h
  unfold State.slot? fullTable
  rw [List.getElem?_replicate, if_pos h]
  nofun

theorem witness_RetireFreesTheSlot :
    (Taking lastAdmitted ∧ (383 : Half).toNat < 384 ∧
      lastAdmitted.slot? (383 : Half).toNat = some (part63 .callable) ∧
      lastAdmitted.machine.state = .start ∧ lastAdmitted.carried (383 : Half).toNat = false) ∧
    (let held := feeding.putSlot 63 (some { part63 .called with hold := .held })
     Taking held ∧ held.slot? (63 : Half).toNat = some { part63 .called with hold := .held } ∧
       held.machine.state = .running ∧ held.isOpen .odd = true ∧
       ((part63 .called).status.get .odd).state ≠ .notInBoard) ∧
    (Taking feeding ∧ feeding.slot? (63 : Half).toNat = some (part63 .called) ∧
      feeding.machine.state = .running ∧ (part63 .called).hold ≠ .held ∧
      (inState .stopped feeding).machine.state = .stopped ∧
      (inState .stopped feeding).carried (63 : Half).toNat = true) :=
  ⟨⟨⟨rfl, rfl⟩, by decide +kernel⟩, ⟨⟨rfl, rfl⟩, by decide +kernel⟩, ⟨rfl, rfl⟩, by decide +kernel⟩

theorem witness_HoldAndReleaseClaimTheRecord :
    Taking feeding ∧ (63 : Half).toNat < 384 ∧
      feeding.slot? (63 : Half).toNat = some (part63 .called) ∧ (part63 .called).hold = .free ∧
      (feeding.putSlot 63 (some { part63 .called with hold := .held })).slot? (63 : Half).toNat =
        some { part63 .called with hold := .held } ∧
      (feeding.putSlot 63 (some { part63 .called with hold := .holdPending })).slot?
          (63 : Half).toNat =
        some { part63 .called with hold := .holdPending } :=
  ⟨⟨rfl, rfl⟩, by decide +kernel⟩

/-- Slot 63 is MISSED in board 41, and slot 64 of a later tier is carried at 80. -/
def missedBefore : State :=
  { atHead with
    table := (atHead.table.set 63 (some (part63 .missed))).set 64 (some { part63 .called with tier := 1 })
    stretch := atHead.stretch.set 80
      { clip63 .verified with call := some { board := 41, placement := 64, station := 12 } } }

theorem witness_SkipAndRecallMoveThePlacement :
    (let s := withBoard .callable .calling .aligned running
     Taking s ∧ s.slot? (63 : Half).toNat = some (part63 .callable) ∧
       (1 : Byte).toNat = parityCode .odd ∧ s.isOpen .odd = true ∧
       s.carriedIn (63 : Half).toNat .odd = false ∧
       ((part63 .callable).status.get .odd).state = .callable ∧
       (0 : Byte).toNat = parityCode .even ∧ s.isOpen .even = false) ∧
    ((withBoard .callable .calling .aligned running).slot? (63 : Half).toNat ≠ none ∧
      1 < (2 : Byte).toNat) ∧
    (∀ s : State, s = withBoard .missed .calledOut .aligned running ∨ s = missedBefore →
     Taking s ∧ s.slot? (63 : Half).toNat = some (part63 .missed) ∧ (s.board .odd).phase = .calledOut ∧
       (s.putSlot (63 : Half).toNat (some { part63 .missed with
          status := (part63 .missed).status.put .odd
            { (part63 .missed).status.get .odd with
              state := .callable, attempts := 0
              unordered := ((part63 .missed).status.get .odd).unordered ||
                decide ((part63 .missed).hold ≠ .free) } })).precedesAtHead (63 : Half).toNat .odd =
         decide (s = missedBefore)) := by
  refine ⟨⟨⟨rfl, rfl⟩, by decide +kernel⟩, by decide +kernel, ?_⟩
  rintro s (rfl | rfl) <;> exact ⟨⟨rfl, rfl⟩, by decide +kernel⟩

/-- A placement whose tier AMEND can lower below that of slot 64, which is carried at 80: slot 63 would
then have to precede it. -/
def laterTier : State :=
  missedBefore.putSlot 63 (some { part63 .callable with tier := 2, hold := .held })

theorem witness_AmendWritesOneField :
    (let held := feeding.putSlot 63 (some { part63 .called with hold := .held })
     Taking held ∧ (63 : Half).toNat < 384 ∧
       held.slot? (63 : Half).toNat = some { part63 .called with hold := .held } ∧
       (held.putSlot 63 (some { part63 .called with hold := .held, tier := 3 })).gateLaw = true) ∧
    (Taking laterTier ∧
      laterTier.slot? (63 : Half).toNat = some { part63 .callable with tier := 2, hold := .held } ∧
      State.gateLaw { laterTier with
        table := laterTier.table.set (63 : Half).toNat
          (some { part63 .callable with tier := 0, hold := .held }) } = false) ∧
    (Taking feeding ∧ feeding.slot? (63 : Half).toNat = some (part63 .called) ∧
      feeding.machine.state = .running ∧ (part63 .called).hold = .free) ∧
    (stopped.machine.state = .stopped ∧ State.reset.machine.state = .start) ∧
    (1 ≤ (72 : Half).toNat ∧ (72 : Half).toNat ≤ 72 ∧ (60000 : Half).toNat ≤ 60000 ∧
      (45000 : Half).toNat ≤ 45000 ∧ Orientation.q270.quadrant = (3 : Half).toNat ∧
      50 ≤ (254 : Half).toNat ∧ (254 : Half).toNat ≤ 254 ∧
      Profile.cutOnly.code = (2 : Half).toNat ∧ (7 : Half).toNat ≤ 7) ∧
    10 ≤ (10 : Byte).toNat := by
  unfold Taking
  decide +kernel

theorem witness_BoardOpenStartsTheNextBoard :
    (let s := withBoard .called .calledOut .aligned running
     Live s ∧ Parity.even = parityOf s.nextNumber ∧ s.machine.state = .running ∧
       s.isOpen .even = false ∧ (s.board (otherParity .even)).phase = .calledOut ∧
       s.settings.runLength = 0) ∧
    (Live stopped ∧ Parity.even = parityOf stopped.nextNumber ∧ stopped.machine.state ≠ .running) ∧
    (let s := withBoard .callable .calling .aligned running
     Live s ∧ Parity.even = parityOf s.nextNumber ∧
       (s.board (otherParity .even)).phase = .calling) ∧
    (let s := { running with settings := { caseSettings with runLength := 1 }, runCounter := 1 }
     s.settings.runLength ≠ 0 ∧ s.settings.runLength ≤ s.runCounter ∧
       Parity.even = parityOf s.nextNumber) :=
  ⟨⟨rfl, by decide +kernel⟩, ⟨rfl, by decide +kernel⟩, ⟨rfl, by decide +kernel⟩, by decide +kernel⟩

theorem witness_ExchangeBeginStartsTheMove :
    (let s := withBoard .inserted .complete .aligned running
     Live s ∧ s.machine.state = .running ∧ s.exchange.leg = .idle ∧
       (∀ p : Parity, (s.moveSlot p).state ≠ .active) ∧ s.onTable .odd = true ∧
       (s.board .odd).phase = .complete ∧ ∀ q : Parity, q ≠ .odd → s.onTable q = false) ∧
    (let s := withBoard .callable .calling .notLoaded running
     Live s ∧ s.machine.state = .running ∧ s.exchange.leg = .idle ∧
       (∀ p : Parity, (s.moveSlot p).state ≠ .active) ∧ (∀ p : Parity, s.onTable p = false) ∧
       s.isOpen .odd = true) ∧
    (Live stopped ∧ stopped.machine.state ≠ .running ∧ stopped.machine.state ≠ .draining) ∧
    (inLeg .clamping running).exchange.leg ≠ .idle ∧ (atHead.moveSlot .even).state = .active ∧
    ¬ ExchangeCalled running ∧ ¬ ExchangeCalled (withBoard .callable .calling .aligned running) := by
  refine ⟨⟨rfl, rfl, rfl, forParity (by decide +kernel) (by decide +kernel), by decide +kernel,
      by decide +kernel, forParity (by decide +kernel) (by decide +kernel)⟩,
    ⟨rfl, rfl, rfl, forParity (by decide +kernel) (by decide +kernel),
      forParity (by decide +kernel) (by decide +kernel), by decide +kernel⟩,
    ⟨rfl, by decide +kernel⟩, by decide +kernel, by decide +kernel, ?_, ?_⟩
  · rintro (⟨p, h, -⟩ | ⟨-, h | ⟨p, h, -⟩⟩)
    · cases p <;> exact absurd h (by decide +kernel)
    · exact absurd h (by decide +kernel)
    · cases p <;> exact absurd h (by decide +kernel)
  · rintro (⟨p, -, h⟩ | ⟨h, -⟩)
    · cases p <;> exact absurd h (by decide +kernel)
    · exact absurd (h .odd) (by decide +kernel)

/-- TRANSFER with TRANSFER_REQ high: board 40 leaves, board 41 is open and NOT_LOADED. -/
def transferring : State :=
  { twoBoards with
    exchange :=
      { Exchange.powerOn with
        leg := .transfer, leaving := some { parity := .even, number := 40 }, transferTimer := some 60 }
    outputs := { State.reset.outputs with transferReq := true } }

/-- TRANSFER with TRANSFER_REQ high: board 40 leaves, and no other board is open. -/
def lastTransfer : State :=
  { transferring with
    boards := { even := { board41 .complete .unloading with number := 40 }, odd := BoardRecord.powerOn } }

/-- TRANSFER with TRANSFER_REQ high: board 40 leaves, and board 42 may open in its record. -/
def reopening : State := { lastTransfer with nextNumber := 42 }

theorem witness_TransferDoneEndsTheTransfer :
    (∀ s ∈ [transferring, pausedIn .paused transferring, lastTransfer, reopening],
      s.inputs.porN = true ∧ s.exchange.leg = .transfer ∧ s.outputs.transferReq = true ∧
        s.exchange.leaving = some { parity := .even, number := 40 } ∧
        s.inputs.levels.clamped = false) ∧
    (transferring.isOpen .odd = true ∧ (transferring.board .odd).tableState = .notLoaded ∧
      transferring.pausing = false ∧ (pausedIn .paused transferring).pausing = true ∧
      (∀ l : Leaving, transferring.exchange.leaving = some l → l.parity ≠ .odd)) ∧
    (lastTransfer.isOpen .odd = false ∧ reopening.machine.state = .running ∧
      parityOf reopening.nextNumber = .even ∧ reopening.isOpen (otherParity .even) = false ∧
      reopening.settings.runLength = 0 ∧ reopening.slot? 63 = some (part63 .callable)) ∧
    Live stopped ∧ stopped.machine.state ≠ .running ∧ stopped.outputs.transferReq = false := by
  refine ⟨by decide +kernel, ⟨by decide +kernel, by decide +kernel, by decide +kernel,
    by decide +kernel, ?_⟩, by decide +kernel, rfl, by decide +kernel, rfl⟩
  intro l h
  cases h
  decide

/-- CLAMPING with board 41 incoming. -/
def clamping : State :=
  { twoBoards with
    exchange := { Exchange.powerOn with
      leg := .clamping, kind := .load, incoming := some .odd, clampTimer := some 30 } }

/-- PRESENT_WAIT with CLAMPED true already. -/
def clampedAlready : State :=
  let s := inLeg .presentWait twoBoards
  { s with inputs := { s.inputs with levels := { s.inputs.levels with clamped := true } } }

theorem witness_ClampedLineLoadsAndWatchesTheBoard :
    (Live clamping ∧ clamping.exchange.leg = .clamping ∧ clamping.exchange.waiting = false ∧
      clamping.exchange.incoming = some .odd) ∧
    (Live (inLeg .presentWait twoBoards) ∧
      (inLeg .presentWait twoBoards).exchange.leg = .presentWait ∧
      (inLeg .presentWait twoBoards).exchange.waiting = false ∧
      (inLeg .presentWait twoBoards).pausing = false ∧
      (inLeg .presentWait twoBoards).inputs.levels.clamped = false) ∧
    (Live clampedAlready ∧ clampedAlready.exchange.leg = .presentWait ∧
      clampedAlready.exchange.waiting = false ∧ clampedAlready.pausing = false ∧
      clampedAlready.inputs.levels.clamped = true ∧ clampedAlready.nextToLoad = some .odd ∧
      (pausedIn .pausing clampedAlready).pausing = true) ∧
    (clamping.isOpen .even = true ∧ (clamping.board .even).tableState = .aligned ∧
      (∀ q : Parity, q ≠ .even → clamping.onTable q = false) ∧
      ∀ p : Parity, running.isOpen p = false) ∧
    (Live atHead ∧ atHead.exchange.leg ≠ .presentWait ∧ atHead.exchange.leg ≠ .clamping ∧
      atHead.exchange.leg = .idle ∧ atHead.isOpen .odd = true ∧
      (atHead.board .odd).tableState = .aligned ∧
      ∀ q : Parity, q ≠ .odd → atHead.onTable q = false) ∧
    (Live transferring ∧ transferring.exchange.leg ≠ .idle ∧
      transferring.exchange.leg ≠ .clamping) :=
  ⟨⟨rfl, rfl, rfl, rfl⟩, ⟨rfl, rfl, rfl, by decide +kernel, rfl⟩, ⟨rfl, by decide +kernel⟩,
    ⟨by decide +kernel, by decide +kernel, forParity (by decide +kernel) (by decide +kernel),
      forParity (by decide +kernel) (by decide +kernel)⟩,
    ⟨rfl, by decide +kernel, by decide +kernel, rfl, by decide +kernel, rfl,
      forParity (by decide +kernel) (by decide +kernel)⟩,
    rfl, by decide +kernel, by decide +kernel⟩

/-- PRESENT_WAIT with CLAMPED true already, the table empty and board 41 NOT_LOADED. -/
def emptyTable : State :=
  let s := inLeg .presentWait (withBoard .called .calling .notLoaded running)
  { s with inputs := { s.inputs with levels := { s.inputs.levels with clamped := true } } }

/-- Where CLAMPED is true already and the table is empty, the other record stays. -/
theorem witness_ClampedLineLoadsAndWatchesTheBoard_emptyTable :
    Live emptyTable ∧ emptyTable.exchange.leg = .presentWait ∧ emptyTable.exchange.waiting = false ∧
      emptyTable.pausing = false ∧ emptyTable.inputs.levels.clamped = true ∧
      emptyTable.nextToLoad = some .odd ∧ ∀ q : Parity, emptyTable.onTable q = false :=
  ⟨rfl, rfl, rfl, by decide +kernel, rfl, by decide +kernel,
    forParity (by decide +kernel) (by decide +kernel)⟩

theorem witness_TimersAbandonTheExchange :
    (Live transferring ∧ transferring.exchange.transferTimer.isSome = true ∧
      transferring.exchange.leaving = some { parity := .even, number := 40 } ∧
      transferring.exchange.clampTimer = none) ∧
    (Live clamping ∧ clamping.exchange.clampTimer.isSome = true ∧
      clamping.exchange.transferTimer = none ∧ clamping.exchange.leaving = none ∧
      clamping.isOpen .odd = true ∧ (clamping.board .odd).tableState = .notLoaded ∧
      (clamping.board (otherParity .odd)).tableState ≠ .notLoaded) ∧
    (let s := { clamping with boards := { clamping.boards with odd := board41 .calledOut .aligned } }
     s.exchange.clampTimer.isSome = true ∧ s.exchange.leaving = none ∧
       ∀ p : Parity, s.isOpen p = true → (s.board p).tableState ≠ .notLoaded) :=
  ⟨⟨rfl, rfl, rfl, rfl⟩, ⟨rfl, rfl, rfl, rfl, by decide +kernel, by decide +kernel, by decide +kernel⟩,
    rfl, rfl, forParity (by decide +kernel) (by decide +kernel)⟩

/-- Board 41 AWAITING_ALIGN, with the clip of slot 63 at 79 and EVEN waiting for the board. -/
def awaiting : State :=
  let s := withBoard .called .calledOut .awaitingAlign running
  { s with
    stretch := s.stretch.set 79 (clip63 .verified)
    slots :=
      { even := { MoveSlot.powerOn with
          state := .awaitingBoard, position := some .p79, kind := some .insert, job := some job63 }
        odd := MoveSlot.powerOn } }

theorem witness_AlignGivesTheCorrection :
    Taking awaiting ∧ (1 : Half).toNat = parityCode .odd ∧ -5000 ≤ (37 : Half).toInt ∧
      (37 : Half).toInt ≤ 5000 ∧ -5000 ≤ (-12 : Half).toInt ∧ (-12 : Half).toInt ≤ 5000 ∧
      -2000 ≤ (150 : Half).toInt ∧ (150 : Half).toInt ≤ 2000 ∧ awaiting.isOpen .odd = true ∧
      (awaiting.board .odd).tableState = .awaitingAlign ∧
      (awaiting.moveSlot .even).state = .awaitingBoard ∧
      (awaiting.moveSlot .even).position = some .p79 ∧
      (awaiting.moveSlot .even).job = some job63 ∧ parityOf job63.board = .odd ∧
      job63.board = (awaiting.board .odd).number ∧
      awaiting.slot? job63.placement = some (part63 .called) ∧
      axisTargets awaiting.settings (part63 .called)
          { dx := (37 : Half).toInt, dy := (-12 : Half).toInt, scale := (150 : Half).toInt } =
        some targets63 ∧
      axisTargets { awaiting.settings with axis := awaiting.settings.axis.map fun g => { g with softMax := 0 } }
          (part63 .called)
          { dx := (37 : Half).toInt, dy := (-12 : Half).toInt, scale := (150 : Half).toInt } = none ∧
      (2 : Byte) ≠ 1 ∧ 1 < (2 : Half).toNat ∧ (2001 : Half).toInt = 2001 ∧ (-5001 : Half).toInt = -5001 ∧
      (atHead.board .odd).tableState ≠ .awaitingAlign :=
  ⟨⟨rfl, rfl⟩, by decide +kernel⟩

/-- A state whose station `k` is feeding with the values of `station12`. -/
def feedingAt (k : Nat) : State := running.putStation k station12

theorem witness_SprocketEdgeEndsTheAdvance :
    (∀ k ∈ [1, 72], (feedingAt k).inputs.porN = true ∧ (feedingAt k).station? k = some station12) ∧
    ShapeHolds (feedingAt 1) ∧ ShapeHolds (feedingAt 72) ∧ ShapeHolds feeding ∧
    station12.feed = .advancing ∧ station12.work = some { retryLimit := 2, advanceTimeout := 60 } ∧
    station12.retriesUsed < 2 ∧ (feedingAt 1).chain.indexState ≠ .requested ∧
    (feedingAt 1).machine.state = .running ∧
    (feedingAt 1).station? 2 = some Station.powerOn ∧ Station.powerOn.feed ≠ .advancing ∧
    (let s := { feeding with chain := { Chain.powerOn with indexState := .requested } }
     Live s ∧ ShapeHolds s ∧ s.station? 12 = some station12 ∧ s.chain.indexState = .requested ∧
       (s.clip 12).call = some call63 ∧ CalledFor s call63 (slotIn .called) ∧
       (s.alarm .stationEmpty).reaction ≠ .halt ∧ (s.alarm .stationSuspect).reaction ≠ .halt) ∧
    ((feedingAt 1).alarm .stationLow).reaction ≠ .halt ∧
    ((feedingAt 1).alarm .stationEmpty).reaction ≠ .halt := by
  unfold Live ShapeHolds CalledFor
  decide +kernel

theorem witness_AdvanceTimeoutIsAJam :
    (Live (feedingAt 72) ∧ ShapeHolds (feedingAt 72) ∧ (feedingAt 72).station? 72 = some station12 ∧
      station12.advanceTimer.isSome = true ∧ Station.powerOn.advanceTimer = none) ∧
    (Live feeding ∧ ShapeHolds feeding ∧ feeding.station? 12 = some station12 ∧
      (feeding.clip 12).call = some call63 ∧ CalledFor feeding call63 (slotIn .called) ∧
      (feeding.alarm .stationJam).reaction ≠ .halt) := by
  unfold Live ShapeHolds CalledFor
  decide +kernel

theorem witness_LoadSetsRemaining :
    Taking (feedingAt 72) ∧ ShapeHolds (feedingAt 72) ∧
      (feedingAt 72).station? (72 : Half).toNat = some station12 ∧
      (2 : Byte) ≠ 3 ∧ (0 : Half).toNat = 0 ∧ 72 < (73 : Half).toNat ∧
      station12.committed ≤ (3 : Half).toNat ∧ (2 : Half).toNat < station12.committed ∧
      ((feedingAt 72).alarm .stationLow).reaction ≠ .halt ∧
      ((feedingAt 72).alarm .stationEmpty).reaction ≠ .halt := by
  unfold Taking ShapeHolds
  decide +kernel

/-- A state with a station in a state. -/
def stationIn (k : Nat) (st : StationState) : State :=
  running.putStation k { Station.powerOn with state := st, remaining := 5 }

theorem witness_StationCommandsSetTheStation :
    (∀ st : StationState,
      Taking (stationIn 72 st) ∧ ShapeHolds (stationIn 72 st) ∧
        (stationIn 72 st).station? (72 : Half).toNat =
          some { Station.powerOn with state := st, remaining := 5 } ∧
        ((stationIn 72 st).alarm .stationEmpty).reaction ≠ .halt ∧
        ((stationIn 72 st).alarm .stationLow).reaction ≠ .halt) ∧
    ((2 : Byte) ≠ 3 ∧ 72 < (73 : Half).toNat ∧ (255 : Half).toNat ≤ 255 ∧
      255 < (256 : Half).toNat ∧ (3 : Half).toNat ≤ 3 ∧
      3 < (4 : Half).toNat ∧ 10 ≤ (250 : Half).toNat ∧ (250 : Half).toNat ≤ 250 ∧
      (9 : Half).toNat < 10 ∧ 250 < (251 : Half).toNat ∧ 1 ≤ (16 : Half).toNat ∧
      (16 : Half).toNat ≤ 16 ∧ (0 : Half).toNat = 0 ∧ 16 < (17 : Half).toNat ∧ 5 ≤ (5 : Byte).toNat) := by
  refine ⟨fun st => ?_, by decide⟩
  unfold Taking ShapeHolds
  cases st <;> decide +kernel

theorem witness_ClearRestoresStationsAndClips :
    (∀ st : StationState,
      Taking (stationIn 1 st) ∧ ShapeHolds (stationIn 1 st) ∧
        (stationIn 1 st).station? (1 : Half).toNat =
          some { Station.powerOn with state := st, remaining := 5 } ∧
        ((stationIn 1 st).alarm .stationEmpty).reaction ≠ .halt) ∧
    (199 : Half).toNat < 200 ∧ 200 ≤ (200 : Half).toNat ∧ (2 : Byte) ≠ 3 ∧ (0 : Half).toNat = 0 ∧
    72 < (73 : Half).toNat := by
  refine ⟨fun st => ?_, by decide +kernel⟩
  unfold Taking ShapeHolds
  cases st <;> decide +kernel

/-- A request outstanding and a clip of slot 63 waiting beneath its serving station 12. -/
def waitingClip : State :=
  { feeding with chain := { Chain.powerOn with indexState := .requested } }

theorem witness_IndexBeginsAndTimesOut :
    (Live waitingClip ∧ waitingClip.chain.indexState = .requested ∧
      waitingClip.machine.state = .running ∧ (1 : Nat) ≤ 12 ∧ (12 : Nat) ≤ 72 ∧
      (waitingClip.clip 12).state = .assigned ∧ (waitingClip.clip 12).call = some call63 ∧
      call63.station = 12) ∧
    (let s := { running with chain := { Chain.powerOn with indexState := .requested } }
     Live s ∧ s.chain.indexState = .requested ∧ s.machine.state = .running ∧
       ∀ (k : Nat) (c : Call), 1 ≤ k → k ≤ 72 → (s.clip k).state = .assigned →
         (s.clip k).call = some c → c.station ≠ k) ∧
    ((indexing feeding).station? 12 = some station12 ∧
      (indexing feeding).station? 1 = some Station.powerOn ∧ Station.powerOn.feed = .idle ∧
      (indexing feeding).head.state = .idle) ∧
    Live (indexing running) ∧ (indexing running).chain.indexState = .indexing ∧
    (indexing running).chain.indexTimer.isSome = true ∧
    ((indexing running).alarm .chainJam).reaction = .halt ∧ running.chain.indexState ≠ .indexing := by
  refine ⟨⟨rfl, by decide +kernel⟩, ⟨rfl, rfl, rfl, ?_⟩, by decide +kernel, rfl, by decide +kernel⟩
  intro k c _ hk h
  have all : ∀ j < 73, (running.clip j).state ≠ .assigned := by decide +kernel
  exact absurd h (all k (by omega))

/-- An index in flight: the clip of slot 63 comes beneath station 12, which is in a state. -/
def arriving (st : StationState) : State :=
  let s := indexing (withBoard .called .calling .aligned running)
  { s.putStation 12 { Station.powerOn with state := st, remaining := 5, committed := 1 } with
    stretch := s.stretch.set 11 (clip63 .assigned) }

theorem witness_IndexCompletionShiftsTheStretch :
    (∀ s ∈ [indexing feeding, arriving .ready, arriving .jammed, pausedIn .pausing (arriving .ready),
        pausedIn .pausing (arriving .jammed)],
      s.inputs.porN = true ∧ s.chain.indexState = .indexing ∧
        s.table.length = 384 ∧ s.stations.length = 72 ∧ s.stretch.length = 81 ∧
        s.conditions.length = 200 ∧ (s.alarm .starve).reaction ≠ .halt ∧
        (s.alarm .chainSync).reaction ≠ .halt ∧ (s.alarm .placementMissed).reaction ≠ .halt) ∧
    (((indexing feeding).clip 0).state ≠ .assigned ∧ ((indexing feeding).clip 79).state ≠ .assigned ∧
      running.chain.indexState ≠ .indexing) ∧
    (∀ st : StationState, ((arriving st).clip 11).state = .assigned ∧
      ((arriving st).clip 11).call = some call63 ∧ call63.station = 11 + 1 ∧
      (arriving st).station? 12 =
        some { Station.powerOn with state := st, remaining := 5, committed := 1 } ∧
      CalledFor (arriving st) call63 (slotIn .called)) := by
  refine ⟨by decide +kernel, by decide +kernel, fun st => ?_⟩
  unfold CalledFor
  cases st <;> decide +kernel

/-- An index in flight with a sync state, a counter, w and mark seen. -/
def marking (sync : SyncState) (counter w : Nat) (mark : Bool) : State :=
  { indexing running with
    chain := { Chain.powerOn with
      indexState := .indexing, indexTimer := some 250, syncState := sync, counter := counter
      tolerance := w, markSeen := mark } }

/-- The clauses of the judgment at their boundaries: c 0, c = w and c = 200 - w, and one beyond. -/
theorem witness_HomeMarkIsJudged :
    (∀ s ∈ [marking .unlocked 0 0 false, marking .unlocked 0 0 true, marking .locking 199 0 true,
        marking .locking 0 0 true, marking .locking 199 0 false, marking .locked 199 0 false,
        marking .locked 0 0 false, marking .locked 0 1 true, marking .locked 1 1 true,
        marking .locked 198 1 true, marking .locked 197 1 true],
      s.inputs.porN = true ∧ s.chain.indexState = .indexing) ∧
    ((marking .locking 199 0 true).chain.counter + 1) % 200 = 0 ∧
    ((marking .locking 0 0 true).chain.counter + 1) % 200 ≠ 0 := by decide +kernel

/-- An index in flight; slot 63 is CALLABLE in board 41, whose station 12 is READY with `n` parts. -/
def callSite (n : Nat) : State :=
  indexing ((withBoard .callable .calling .aligned running).putStation 12
    { Station.powerOn with state := .ready, remaining := n })

theorem callSite_slot {n m : Nat} {r : Placement} (h : (callSite n).slot? m = some r) :
    m = 63 ∧ r = part63 .callable := join_set h

theorem callSite_pair {n m : Nat} {q : Parity} (hn : n = 0 ∨ n = 5)
    (h : (callSite n).shift.mayBeCalled m q = true) : m = 63 ∧ q = .odd := by
  have tab : (callSite n).shift.table = (callSite n).table := by
    rcases hn with rfl | rfl <;> decide +kernel
  unfold State.mayBeCalled at h
  rw [Bool.and_eq_true] at h
  have open_odd : q = .odd := by
    cases q
    · have : (callSite n).shift.isOpen .even = false := by
        rcases hn with rfl | rfl <;> decide +kernel
      rw [this] at h
      exact absurd h.1 (by decide)
    · rfl
  refine ⟨?_, open_odd⟩
  have h2 := h.2
  split at h2
  · cases h2
  · rename_i r hr
    unfold State.slot? at hr
    rw [tab] at hr
    exact (callSite_slot hr).1

/-- `callSite`, with the chain LOCKED and the entry of the entering clip, id 1, BAD. -/
def badEntry : State :=
  let s := callSite 5
  { s with
    chain := { s.chain with syncState := .locked, counter := 0 }
    stretch := giveIds 0 s.stretch
    conditions := s.conditions.set 1 { state := .bad, failCount := 3 } }

theorem witness_CallScanAssignsOrStarves :
    (let s := callSite 5
     s.station? 12 = some { Station.powerOn with state := .ready, remaining := 5 } ∧
       (s.alarm .starve).reaction ≠ .halt ∧ (s.alarm .chainSync).reaction ≠ .halt ∧
       (s.alarm .placementMissed).reaction ≠ .halt ∧ ∀ q < 80, (s.clip q).call = none) ∧
    (Live badEntry ∧ ShapeHolds badEntry ∧ badEntry.chain.indexState = .indexing ∧
      badEntry.machine.state = .running ∧ badEntry.shift.chain.syncState = .locked ∧
      (badEntry.shift.clip 0).clipId = some 1 ∧ (badEntry.condition 1).state = .bad) ∧
    (let s := callSite 5
     Live s ∧ ShapeHolds s ∧ s.chain.indexState = .indexing ∧ s.machine.state = .running ∧
       s.shift.chain.syncState ≠ .locked ∧ s.shift.mayBeCalled 63 .odd = true ∧
       s.slot? 63 = some (part63 .callable) ∧
       s.shift.servingStation [] (part63 .callable) = some 12 ∧
       ∀ (m : Nat) (q : Parity) (u : Placement), s.shift.mayBeCalled m q = true →
         s.slot? m = some u → (s.shift.servingStation [] u).isSome = true →
         (m = 63 ∧ q = .odd) ∨ CalledBefore s 63 .odd (part63 .callable) m q u) ∧
    (let s := callSite 0
     Live s ∧ ShapeHolds s ∧ s.chain.indexState = .indexing ∧ s.shift.chain.syncState ≠ .locked ∧
       s.machine.state = .running ∧
       (∀ (m : Nat) (q : Parity) (u : Placement), s.shift.mayBeCalled m q = true →
         s.slot? m = some u → s.shift.servingStation [] u = none) ∧
       s.shift.mayBeCalled 63 .odd = true ∧ s.slot? 63 = some (part63 .callable) ∧
       ∀ (m : Nat) (q : Parity) (u : Placement), s.shift.mayBeCalled m q = true →
         s.slot? m = some u → (m = 63 ∧ q = .odd) ∨ CalledBefore s 63 .odd (part63 .callable) m q u) ∧
    (let s := pausedIn .pausing (callSite 5)
     Live s ∧ ShapeHolds s ∧ s.chain.indexState = .indexing ∧ s.shift.chain.syncState ≠ .locked ∧
       s.machine.state = .pausing) := by
  refine ⟨by decide +kernel, ⟨rfl, by unfold ShapeHolds; decide +kernel, rfl, by decide +kernel⟩,
    ⟨rfl, by unfold ShapeHolds; decide +kernel, rfl, rfl, by decide +kernel,
      by decide +kernel, by decide +kernel, by decide +kernel,
      fun m q u h _ _ => .inl (callSite_pair (.inr rfl) h)⟩,
    ⟨rfl, by unfold ShapeHolds; decide +kernel, rfl, by decide +kernel, rfl, ?_, by decide +kernel,
      by decide +kernel, fun m q u h _ => .inl (callSite_pair (.inl rfl) h)⟩,
    rfl, by unfold ShapeHolds; decide +kernel, rfl, by decide +kernel, rfl⟩
  intro m q u _ hu
  obtain ⟨-, rfl⟩ := callSite_slot hu
  decide +kernel

/-- An index in flight, with a clip of slot 63 at a position and the chain LOCKED. -/
def approaching (q : Nat) (st : ClipState) : State :=
  let s := indexing (withBoard .called .calledOut .aligned running)
  { s with
    stretch := giveIds 100 (s.stretch.set q (clip63 st))
    chain := { s.chain with syncState := .locked, counter := 100 } }

theorem witness_VerifyJudgesTheRecord :
    Live (approaching 75 .loaded) ∧ ShapeHolds (approaching 75 .loaded) ∧
      (approaching 75 .loaded).chain.indexState = .indexing ∧
      ((approaching 75 .loaded).clip 75).state = .loaded ∧
      ((approaching 75 .loaded).clip 75).call = some call63 ∧
      ((approaching 75 .loaded).shift.clip 76).clipId = some 25 ∧ call63.parity = .odd ∧
      (approaching 75 .loaded).isOpen .odd = true ∧
      (approaching 75 .loaded).statusOf 63 .odd = some (slotIn .called) ∧
      ((approaching 0 .loaded).clip 75).state = .unknown := by
  unfold Live ShapeHolds
  decide +kernel

/-- `approaching 77 .verified`, with slot 64 of a tier CALLABLE in board 41. -/
def withRival (tier : Nat) : State :=
  let s := approaching 77 .verified
  s.putSlot 64 (some { part63 .callable with tier := tier })

/-- The clip of slot 63 is of tier 1, and slot 64 of tier 0 must precede it. -/
def preceded : State := (withRival 0).putSlot 63 (some { part63 .called with tier := 1 })

theorem witness_RejectGateDecides :
    (Live (approaching 77 .bad) ∧ ShapeHolds (approaching 77 .bad) ∧
      (approaching 77 .bad).chain.indexState = .indexing ∧
      ((approaching 77 .bad).clip 77).state = .bad ∧
      ((approaching 77 .passedEmpty).clip 77).state = .passedEmpty ∧
      ((approaching 77 .unknown).clip 77).state = .unknown) ∧
    (let s := approaching 77 .verified
     Live s ∧ ShapeHolds s ∧ s.chain.indexState = .indexing ∧ (s.clip 77).state = .verified ∧
       (s.clip 77).call = some call63 ∧
       ∀ (m : Nat) (b : Parity), s.shift.mustPrecede m b call63.placement call63.parity = true →
         s.shift.carriedAtHead m b = true) ∧
    (Live preceded ∧ ShapeHolds preceded ∧ preceded.chain.indexState = .indexing ∧
      (preceded.clip 77).state = .verified ∧ (preceded.clip 77).call = some call63 ∧
      preceded.shift.mustPrecede 64 .odd call63.placement call63.parity = true ∧
      preceded.shift.carriedAtHead 64 .odd = false ∧
      CalledFor preceded call63 (slotIn .called) ∧
      (pausedIn .pausing preceded).machine.state = .pausing) := by
  refine ⟨by unfold Live ShapeHolds; decide +kernel, ⟨rfl, by unfold ShapeHolds; decide +kernel, rfl,
    by decide +kernel, by decide +kernel, ?_⟩, by unfold Live ShapeHolds CalledFor; decide +kernel⟩
  intro m b h
  exfalso
  have tab : (approaching 77 .verified).shift.table = (approaching 77 .verified).table := by
    decide +kernel
  have only : ∀ r, (approaching 77 .verified).shift.slot? m = some r → m = 63 := fun r hr => by
    unfold State.slot? at hr
    rw [tab] at hr
    exact (join_set hr).1
  cases hm : (approaching 77 .verified).shift.slot? m with
  | none =>
    unfold State.mustPrecede at h
    rw [hm] at h
    simp at h
  | some r =>
    obtain rfl := only r hm
    revert h
    cases b <;> decide +kernel

theorem witness_PlannerTakesASlot :
    (∀ s ∈ [approaching 78 .verified, approaching 78 .unknown, approaching 78 .passedEmpty,
        { approaching 78 .verified with alternation := .odd },
        { approaching 78 .verified with slots := ⟨planned63 .planned .p80, MoveSlot.powerOn⟩ }],
      s.inputs.porN = true ∧ s.table.length = 384 ∧ s.stations.length = 72 ∧ s.stretch.length = 81 ∧
        s.conditions.length = 200 ∧ s.chain.indexState = .indexing ∧
        (s.alarm .starve).reaction ≠ .halt ∧ (s.alarm .chainSync).reaction ≠ .halt ∧
        (s.alarm .placementMissed).reaction ≠ .halt) ∧
    (approaching 78 .verified).alternation = .even ∧
    ((approaching 78 .verified).clip 78).call = some call63 ∧
    ((approaching 78 .verified).clip 78).dump = false ∧
    (approaching 78 .verified).isAligned call63.board = true ∧
    (approaching 78 .verified).computed call63.job = some targets63 ∧
    ((planned63 .planned .p80).state ≠ .free ∧ MoveSlot.powerOn.state = .free) ∧
    (let s := (approaching 78 .verified).putSlot 63 (some { part63 .called with y := 45000 })
     s.inputs.porN = true ∧ s.isAligned call63.board = true ∧ s.computed call63.job = none ∧
       CalledFor s call63 (slotIn .called)) := by
  refine ⟨?_, ?_, ?_, ?_, ?_, ?_, ?_, ?_⟩
  case refine_8 => unfold CalledFor; decide +kernel
  all_goals decide +kernel

/-- `atHead` with the EVEN slot at 80 in a state, not yet activated. -/
def activating (st : SlotState) : State :=
  { atHead with slots := ⟨planned63 st .p80, MoveSlot.powerOn⟩ }

theorem witness_SlotActivationGivesTargets :
    (Live (activating .planned) ∧ (activating .planned).machine.state = .running ∧
      (activating .planned).exchange.leg = .idle ∧
      ((activating .planned).moveSlot .even).position = some .p80 ∧
      ((activating .planned).moveSlot (otherParity .even)).state ≠ .active ∧
      ((activating .planned).moveSlot (otherParity .even)).position ≠ some .p80 ∧
      ((activating .planned).moveSlot .even).state = .planned ∧
      ((activating .planned).moveSlot .even).targets = some targets63 ∧
      ((activating .void).moveSlot .even).state = .void) ∧
    (Live stopped ∧ stopped.machine.state ≠ .running ∧ stopped.machine.state ≠ .draining) ∧
    (Live atHead ∧ ∀ p : Parity, (atHead.moveSlot p).position = some .p80 →
      (atHead.moveSlot p).state ≠ .planned ∧ (atHead.moveSlot p).state ≠ .void) :=
  ⟨⟨rfl, by decide +kernel⟩, ⟨rfl, by decide +kernel⟩, rfl,
    forParity (by decide +kernel) (by decide +kernel)⟩

/-- Axis X in a state, at the target of slot 63, with its runs. -/
def axisIn (st : AxisState) (inRun outRun : Nat) : State :=
  { atHead with
    axes := lockedAxes.put .x
      { lockedAxes.x with state := st, inRun := inRun, outRun := outRun, lockTimer := some 400 } }

/-- Sample 57503 is 9 counts from the target, outside the lock window of 4. -/
theorem witness_PositionSampleIsJudged :
    Live (axisIn .settle 2 0) ∧ Live (axisIn .locked 0 0) ∧
      ((axisIn .locked 0 0).axis .x).state = .locked ∧
      ((axisIn .locked 0 0).axisSettings .x).lockWindow <
        distance (57503 : Sample).toNat ((axisIn .locked 0 0).axis .x).target ∧
      min 15 (((axisIn .locked 0 0).axis .x).outRun + 1) <
        ((axisIn .locked 0 0).axisSettings .x).unlockCount ∧
      ((axisIn .idle 0 0).axis .x).state = .idle ∧ ((axisIn .slew 0 0).axis .x).state = .slew ∧
      ((axisIn .settle 2 0).axis .x).state = .settle :=
  ⟨rfl, rfl, by decide +kernel⟩

theorem witness_LostLockRaisesAxisFollow :
    Live (axisIn .locked 0 1) ∧ ((axisIn .locked 0 1).axis .x).state = .locked ∧
      ((axisIn .locked 0 1).axisSettings .x).lockWindow <
        distance (57503 : Sample).toNat ((axisIn .locked 0 1).axis .x).target ∧
      ((axisIn .locked 0 1).axisSettings .x).unlockCount ≤
        min 15 (((axisIn .locked 0 1).axis .x).outRun + 1) ∧
      (∀ st ∈ [HeadState.drive, .clinch, .retract, .homing, .idle],
        (({ axisIn .locked 0 1 with head := cycle63 st }).axis .x).state = .locked) ∧
      ((axisIn .settle 0 0).axis .x).lockTimer.isSome = true ∧
      (atHead.axis .x).lockTimer = none :=
  ⟨rfl, by decide +kernel⟩

theorem witness_LastLockEndsFormAndMove :
    (∀ s ∈ [axisIn .settle 3 0,
        { axisIn .settle 3 0 with head := { cycle63 .form with formed := true } },
        inLeg .move (axisIn .settle 3 0), inLeg .move (pausedIn .pausing (axisIn .settle 3 0)),
        { axisIn .settle 3 0 with exchange := { Exchange.powerOn with leg := .move, kind := .load } }],
      s.inputs.porN = true ∧ (s.axis .x).state = .settle ∧
        distance (57494 : Sample).toNat (s.axis .x).target ≤ (s.axisSettings .x).lockWindow ∧
        (s.axisSettings .x).lockCount ≤ min 15 ((s.axis .x).inRun + 1) ∧
        s.inputs.levels.clamped = false ∧ (s.exchange.leg = .move ∨ s.exchange.leg = .idle)) ∧
    (let s :=
        { emptyTable with
          axes := (axisIn .settle 3 0).axes
          exchange := { Exchange.powerOn with leg := .move, kind := .load } }
     s.inputs.porN = true ∧ (s.axis .x).state = .settle ∧ s.exchange.leg = .move ∧
       s.pausing = false ∧ s.exchange.kind = .load ∧ s.inputs.levels.clamped = true ∧
       s.nextToLoad = some .odd) ∧
    ∀ b : Axis, b ≠ .x → ((axisIn .settle 3 0).axis b).state = .locked :=
  ⟨by decide +kernel, by decide +kernel, forAxis (fun h => absurd rfl h) (fun _ => rfl) (fun _ => rfl) fun _ => rfl⟩

theorem witness_CycleStartTakesTheSlot :
    (Live atHead ∧ atHead.head.state = .idle ∧ atHead.machine.state = .running ∧
      (atHead.moveSlot .even).state = .active ∧ (atHead.moveSlot .even).position = some .p80 ∧
      (∀ q : Parity, q ≠ .even →
        (atHead.moveSlot q).state ≠ .active ∨ (atHead.moveSlot q).position ≠ some .p80) ∧
      (∀ a : Axis, (atHead.axis a).state = .locked) ∧ ¬ DriveForbidden atHead ∧
      (atHead.moveSlot .even).kind = some .insert ∧ (atHead.moveSlot .even).job = some job63 ∧
      (atHead.clip 80).state = .verified ∧ (atHead.clip 80).dump = false ∧
      (atHead.clip 80).call = some call63 ∧ call63.board = job63.board ∧
      call63.placement = job63.placement ∧ atHead.isAligned job63.board = true ∧
      atHead.slot? job63.placement = some (part63 .called)) ∧
    (let s := { atHead with
        stretch := State.reset.stretch
        slots := ⟨{ planned63 .active .p80 with kind := some .dump }, MoveSlot.powerOn⟩ }
     (s.moveSlot .even).kind = some .dump ∧ (s.clip 80).state = .unknown ∧
       (s.moveSlot .even).state = .active) ∧
    Live (inPhase .form) ∧ (inPhase .form).head.state ≠ .idle := by
  refine ⟨⟨rfl, rfl, rfl, rfl, rfl, forParity (fun h => absurd rfl h) (fun _ => .inl (by decide +kernel)),
    forAxis rfl rfl rfl rfl, by unfold DriveForbidden; decide +kernel, by decide +kernel⟩,
    by decide +kernel, rfl, by decide +kernel⟩

theorem witness_FormedAndDownMoveTheCycleOn :
    Live (inPhase .form) ∧ (inPhase .form).head.state = .form ∧
      (inPhase .form).head.formed = false ∧ (∀ a : Axis, ((inPhase .form).axis a).state = .locked) ∧
      ((axisIn .settle 0 0).axis .x).state ≠ .locked ∧ Live (inPhase .drive) ∧
      (inPhase .drive).head.state = .drive ∧ (inPhase .drive).head.kind = some .insert ∧
      (inPhase .drive).head.plan = some { profile := .inward, trip := 5 } ∧
      ({ cycle63 .drive with kind := some .dump }).kind = some .dump ∧
      (inPhase .drive).head.state ≠ .form :=
  ⟨rfl, rfl, rfl, forAxis rfl rfl rfl rfl, by decide +kernel, rfl, by decide +kernel⟩

theorem witness_ClinchEndInsertsThePlacement :
    Live inStroke ∧ inStroke.head.state = .clinch ∧ ShapeHolds inStroke ∧
      inStroke.head.job = some job63 ∧ Parity.odd = parityOf job63.board ∧
      inStroke.slot? job63.placement = some (part63 .called) ∧ inStroke.isOpen .odd = true ∧
      ((part63 .called).status.get .odd).state = .called ∧
      (withBoard .skipped .calledOut .aligned running).slot? 63 = some (part63 .skipped) ∧
      ((part63 .skipped).status.get .odd).state ≠ .called ∧ State.reset.head.job = none ∧
      (inPhase .drive).head.state ≠ .clinch := by
  unfold Live ShapeHolds
  decide +kernel

/-- RETRACT of slot 63, with the ODD slot planned at 79. -/
def retracting (cleared : Bool) : State :=
  { inPhase .retract with
    head := { cycle63 .retract with cleared := cleared }
    slots := ⟨planned63 .active .p80, planned63 .planned .p79⟩ }

/-- `retracting`, with the ODD slot VOID at 79. -/
def retractingVoid : State :=
  { retracting false with slots := ⟨planned63 .active .p80, MoveSlot.without .void .p79 job63⟩ }

/-- `retracting` at the head clear of the last cycle of board 41, which is COMPLETE. -/
def retractingLast : State :=
  { retracting false with boards := { State.reset.boards with odd := board41 .complete .aligned } }

theorem witness_HeadClearAndHomeEndTheCycle_exchangeFirst :
    Live retractingLast ∧ retractingLast.head.state = .retract ∧
      retractingLast.head.cleared = false ∧ retractingLast.head.slot = some .even ∧
      retractingLast.machine.state = .running ∧ retractingLast.exchange.leg = .idle ∧
      (retractingLast.moveSlot (otherParity .even)).state ≠ .active ∧ ExchangeCalled retractingLast ∧
      (inLeg .move (retracting false)).exchange.leg ≠ .idle :=
  ⟨rfl, rfl, rfl, rfl, rfl, rfl, by decide +kernel, .inl ⟨.odd, by decide +kernel, by decide +kernel⟩,
    by decide +kernel⟩

theorem witness_HeadClearAndHomeEndTheCycle_homing :
    (Live homingToInsert ∧ homingToInsert.head.state = .homing ∧
      StartConditions homingToInsert .even ∧ (homingToInsert.moveSlot .odd).state ≠ .active ∧
      (homingToInsert.moveSlot .even).kind = some .insert ∧
      (homingToInsert.moveSlot .even).job = some job63 ∧
      homingToInsert.slot? job63.placement = some (part63 .called)) ∧
    (Live (homingToDump .draining) ∧ (homingToDump .draining).head.state = .homing ∧
      StartConditions (homingToDump .draining) .even ∧
      ((homingToDump .draining).moveSlot .odd).state ≠ .active ∧
      ((homingToDump .draining).moveSlot .even).kind = some .dump) ∧
    (let s := { homingToDump .draining with axes := State.reset.axes }
     Live s ∧ s.head.state = .homing ∧ ∀ q : Parity, ¬ StartConditions s q) := by
  refine ⟨⟨rfl, rfl, ⟨.inl rfl, rfl, rfl, forAxis rfl rfl rfl rfl,
      by unfold DriveForbidden; decide +kernel, .inl ⟨rfl, by decide +kernel, by decide +kernel, call63,
        job63, by decide +kernel⟩⟩, by decide +kernel⟩,
    ⟨rfl, rfl, ⟨.inr rfl, rfl, rfl, forAxis rfl rfl rfl rfl,
      by unfold DriveForbidden; decide +kernel, .inr (by decide +kernel)⟩, by decide +kernel⟩,
    rfl, rfl, ?_⟩
  rintro q ⟨-, -, -, h, -⟩
  exact absurd (h .x) (by decide +kernel)

theorem witness_HeadClearAndHomeEndTheCycle :
    (Live (retracting false) ∧ (retracting false).head.state = .retract ∧
      (retracting false).head.cleared = false ∧ (retracting false).head.slot = some .even ∧
      (retracting false).machine.state = .running ∧ (retracting false).exchange.leg = .idle ∧
      ((retracting false).moveSlot (otherParity .even)).state = .planned ∧
      ((retracting false).moveSlot (otherParity .even)).position = some .p79 ∧
      ((retracting false).moveSlot (otherParity .even)).targets = some targets63) ∧
    ((inPhase .retract).moveSlot (otherParity .even)).position ≠ some .p79 ∧
    ((retractingVoid.moveSlot (otherParity .even)).state = .void ∧
      (retractingVoid.moveSlot (otherParity .even)).position = some .p79) ∧
    (Live (retracting true) ∧ (retracting true).head.cleared = true) ∧
    (Live (inPhase .homing) ∧ (inPhase .homing).head.state = .homing) ∧
    (Live (inPhase .drive) ∧ (inPhase .drive).head.state ≠ .retract ∧
      (inPhase .drive).head.state ≠ .homing) := by
  unfold Live
  decide +kernel

/-- A state with the reaction of one alarm kind set. -/
def reacting (k : AlarmKind) (r : Reaction) (s : State) : State :=
  { s with alarms := s.alarms.put k { s.alarm k with reaction := r } }

theorem witness_PhaseTimeoutIsJamOrStall :
    (∀ r ∈ [Reaction.note, .pause, .halt], ∀ st ∈ [HeadState.form, .drive, .retract, .homing, .clinch],
      let s := reacting .headJam r (reacting .clinchStall r (inPhase st))
      s.inputs.porN = true ∧ s.head.phaseTimer.isSome = true ∧ s.head.state = st ∧
        (s.alarm .headJam).reaction = r ∧ (s.alarm .clinchStall).reaction = r ∧
        s.machine.state = .running) ∧
    (∀ m ∈ [MachineState.draining, .pausing, .paused],
      let s := pausedIn m (reacting .headJam .halt (inPhase .retract))
      s.inputs.porN = true ∧ s.head.phaseTimer.isSome = true ∧ s.head.state = .retract ∧
        (s.alarm .headJam).reaction = .halt ∧ s.machine.state = m) ∧
    Live atHead ∧ atHead.head.phaseTimer = none := by
  unfold Live
  decide +kernel

/-- `inStroke` with a chop count, a count of samples and a phase of chop. -/
def chopping (chops samples : Nat) (chop : ChopPhase) : State :=
  { inStroke with
    drive := { inStroke.drive with
      chopCount := chops, samples := samples, openRun := true, chop := chop
      offTimer := if chop = .offTime then some 50 else none } }

theorem witness_StrokeChopsAndSamples :
    (∀ s ∈ [chopping 0 0 .on, chopping 38 14 .on, chopping 39 15 .on, chopping 1 0 .offTime],
      s.inputs.porN = true ∧ s.drive.stroke = .commanded) ∧
    min 255 ((chopping 38 14 .on).drive.chopCount + 1) ≠ (chopping 38 14 .on).drive.inForce.stallLimit ∧
    min 255 ((chopping 39 15 .on).drive.chopCount + 1) = (chopping 39 15 .on).drive.inForce.stallLimit ∧
    (chopping 38 14 .on).drive.samples + 1 ≠ (chopping 38 14 .on).drive.inForce.openSamples ∧
    (chopping 39 15 .on).drive.samples + 1 = (chopping 39 15 .on).drive.inForce.openSamples ∧
    (chopping 39 15 .on).drive.openRun = true ∧ 3 < (chopping 39 15 .on).drive.inForce.openThreshold ∧
    (chopping 1 0 .offTime).drive.chop = .offTime ∧
    (chopping 1 0 .offTime).drive.offTimer.isSome = true ∧ atHead.drive.stroke = .none ∧
    atHead.drive.offTimer = none ∧ (inStroke.alarm .clinchOpen).reaction ≠ .halt ∧
    (inStroke.alarm .clinchStall).reaction ≠ .halt ∧
    inStroke.head.plan = some { profile := .inward, trip := 5 } ∧ 30 + 10 * 5 ≤ 80 ∧
    79 < 30 + 10 * 5 := by decide +kernel

theorem witness_RestrokeBeginsTheStrokeAnew :
    (let s := { inPhase .clinch with head := { cycle63 .clinch with held := .stall } }
     Live s ∧ s.head.state = .clinch ∧ s.machine.state = .running ∧ ¬ DriveForbidden s ∧
       s.head.plan = some { profile := .inward, trip := 5 } ∧ s.head.held = .stall ∧
       (s.alarm .clinchStall).state = .clear) ∧
    Live atHead ∧ atHead.head.state ≠ .clinch ∧ inStroke.head.held = .none := by
  unfold Live DriveForbidden
  decide +kernel

/-- The records of the three conditions of the drive are ACTIVE with the condition PRESENT. -/
def hot : State :=
  (inStroke.raiseRecord .overTemp none).raiseRecord .supplyLow none |>.raiseRecord .clinchOvercurrent none

theorem witness_CurrentFaultsTurnTheBridgeOff :
    (Live inStroke ∧ inStroke.drive.stroke = .commanded ∧ inStroke.drive.filter = none ∧
      inStroke.drive.inForce.overcurrentThreshold = 140) ∧
    (Live atHead ∧ atHead.drive.stroke = .none) ∧
    ({ inStroke.drive with filter := some 2 }).filter.isSome = true ∧
    (∀ k ∈ [AlarmKind.overTemp, .supplyLow, .clinchOvercurrent],
      (inStroke.alarm k).condition = false ∧ (hot.alarm k).condition = true) := by
  unfold Live
  decide +kernel

/-- Every machine state, and the end conditions of PAUSING and DRAINING, met and not met. -/
theorem witness_MachineCommandsFollowTheTable :
    (∀ m : MachineState, Taking (inState m State.reset) ∧ (inState m State.reset).machine.state = m) ∧
    (let s := inState .halted State.reset
     s.machine.state = .halted ∧ s.inputs.levels.stopN = true ∧
       ∀ k : AlarmKind, (s.alarm k).reaction = .halt → (s.alarm k).state = .clear) ∧
    (∀ m : MachineState, let s := inState m State.reset
      s.chain.indexState ≠ .indexing ∧ (∀ st ∈ s.stations, st.feed ≠ .advancing) ∧
        s.head.state = .idle ∧ (∀ a : Axis, (s.axis a).lockTimer = none) ∧
        (∀ p : Parity, s.isOpen p = false) ∧ (∀ c ∈ s.stretch, c.carrying = false) ∧
        s.exchange.leg = .idle) ∧
    (inPhase .homing).head.state = .homing ∧ (inPhase .homing).machine.state = .running ∧
    (indexing running).chain.indexState = .indexing ∧
    (running.drainedOut = true ∧ atHead.drainedOut = false ∧ atHead.machine.state = .running ∧
      (inState .draining State.reset).drainedOut = true ∧
      (pausedIn .pausing State.reset).quiet = true ∧ (indexing running).quiet = false) := by
  refine ⟨fun m => ⟨⟨rfl, rfl⟩, rfl⟩, ⟨rfl, rfl, fun k _ => by cases k <;> decide +kernel⟩, fun m => ?_,
    by decide +kernel⟩
  refine ⟨by cases m <;> decide +kernel, by cases m <;> decide +kernel, rfl,
    forAxis rfl rfl rfl rfl,
    forParity (by cases m <;> decide +kernel) (by cases m <;> decide +kernel), ?_, rfl⟩
  cases m <;> decide +kernel

/-- PAUSED with a DUE feed at station `k` and an exchange that waits. -/
def dueAt (k : Nat) (st : StationState) : State :=
  pausedIn .paused ((inLeg .presentWait running).putStation k
    { Station.powerOn with state := st, committed := 1, feed := .due })

theorem witness_RunAndResumeStartTheMachine :
    (Taking stopped ∧ stopped.machine.state = .stopped ∧ stopped.inputs.levels.stopN = true ∧
      (∀ k : AlarmKind, (stopped.alarm k).reaction = .halt → (stopped.alarm k).state = .clear) ∧
      (∀ p : Parity, (stopped.moveSlot p).state = .free) ∧ stopped.alternation = .even ∧
      (stopped.clip 80).state = .unknown ∧ (stopped.clip 79).state = .unknown ∧
      ShapeHolds stopped ∧ (stopped.clip 76).state = .unknown) ∧
    (Taking running ∧ running.machine.state ≠ .stopped ∧ running.machine.state ≠ .paused) ∧
    (∀ st ∈ [StationState.ready, .empty], ∀ r ∈ [ReturnState.running, .draining],
      let s := { dueAt 72 st with machine := { state := .paused, returnState := some r } }
      s.inputs.porN = true ∧ s.port.awaitsRise = false ∧ s.machine.state = .paused ∧
        s.machine.returnState = some r ∧ s.stations.length = 72 ∧
        s.station? 72 = some { Station.powerOn with state := st, committed := 1, feed := .due }) ∧
    (∀ k : AlarmKind, ((dueAt 72 .ready).alarm k).reaction ≠ .note →
      ((dueAt 72 .ready).alarm k).state = .clear) := by
  refine ⟨⟨⟨rfl, rfl⟩, rfl, rfl, fun k _ => by cases k <;> decide +kernel,
    forParity (by decide +kernel) (by decide +kernel), rfl, by decide +kernel, by decide +kernel,
    by unfold ShapeHolds; decide +kernel, by decide +kernel⟩, ⟨⟨rfl, rfl⟩, by decide +kernel⟩,
    by decide +kernel, fun k _ => by cases k <;> decide +kernel⟩

/-- PAUSED with an exchange that waits in a leg, board 41 NOT_LOADED, with a level of CLAMPED. -/
def waitingIn (leg : Leg) (clamped : Bool) : State :=
  let s := pausedIn .paused emptyTable
  { s with
    exchange := { Exchange.powerOn with leg := leg, kind := .load, waiting := true }
    inputs := { s.inputs with levels := { s.inputs.levels with clamped := clamped } } }

/-- RESUME with an exchange that waits in each leg. -/
theorem witness_RunAndResumeStartTheMachine_waiting :
    (∀ leg ∈ [Leg.transfer, .clamping, .presentWait], ∀ clamped ∈ [true, false],
      let s := waitingIn leg clamped
      s.inputs.porN = true ∧ s.port.awaitsRise = false ∧ s.machine.state = .paused ∧
        s.machine.returnState = some .running ∧ s.exchange.waiting = true ∧ s.exchange.leg = leg ∧
        s.inputs.levels.clamped = clamped ∧ s.nextToLoad = some .odd) ∧
    ∀ k : AlarmKind, ((waitingIn .transfer false).alarm k).reaction ≠ .note →
      ((waitingIn .transfer false).alarm k).state = .clear :=
  ⟨by decide +kernel, fun k _ => by cases k <;> decide +kernel⟩

/-- DRIVE of slot 63 with an exchange and a feed in flight is cut; in DRIVE no other feed calls it. -/
theorem witness_HaltStopsTheMachine :
    (let s := (inLeg .clamping (inPhase .drive)).putStation 72 station12
     Taking s ∧ ShapeHolds s ∧ s.machine.state = .running ∧ s.station? 72 = some station12 ∧
       station12.feed ≠ .idle ∧ s.exchange.leg ≠ .idle ∧ s.head.slot = some .even ∧
       s.head.cleared = false ∧ s.head.state = .drive ∧ s.head.kind = some .insert ∧
       s.head.job = some job63 ∧ Parity.odd = parityOf job63.board ∧
       s.statusOf job63.placement .odd = some (slotIn .called) ∧ s.isOpen .odd = true ∧
       s.head.slot ≠ some .odd ∧ (s.moveSlot .odd).state ≠ .active) ∧
    (∀ (k : Nat) (st : Station) (d : Call), (inPhase .drive).station? k = some st →
      st.feed ≠ .idle → ((inPhase .drive).clip k).call = some d →
      d.placement = job63.placement → d.parity ≠ .odd) ∧
    (∀ m ∈ [MachineState.start, .stopped, .halted],
      (inState m State.reset).inputs.porN = true ∧
        (inState m State.reset).port.awaitsRise = false ∧ (inState m State.reset).machine.state = m) := by
  refine ⟨by unfold Taking ShapeHolds; decide +kernel, ?_, by decide +kernel⟩
  intro k st d hk hf
  have idle : ∀ st ∈ (inPhase .drive).stations, st.feed = .idle := by decide +kernel
  refine absurd (idle st ?_) hf
  unfold State.station? at hk
  split at hk
  · cases hk
  · exact List.mem_of_getElem? hk

theorem witness_ClearAndRetryClearTheRecord :
    (∀ st ∈ [AlarmState.clear, .active, .latched],
      let s :=
        { running with
          alarms := running.alarms.put .clinchStall { running.alarm .clinchStall with state := st } }
      s.inputs.porN = true ∧ kindOfCode (9 : Half).toNat = some .clinchStall ∧
        (s.alarm .clinchStall).state = st) ∧
    16 ≤ (16 : Half).toNat ∧
    (let s :=
        { running with
          alarms :=
            running.alarms.put .starve
              { running.alarm .starve with state := .active, retryTimer := some 500 } }
     s.inputs.porN = true ∧ (s.alarm .starve).retryTimer.isSome = true ∧
       (s.alarm .starve).condition = false) ∧ (running.alarm .starve).retryTimer = none := by
  decide +kernel

theorem witness_SetStoresOneItem :
    (Taking stopped ∧ itemOfNumber (94 : Half).toNat = some .retryInterval ∧
      SettingItem.retryInterval.takes (500 : Triple).toNat = true ∧
      stopped.itemOpen .retryInterval = true ∧
      stopped.checkItem .retryInterval (500 : Triple).toNat = .ok ∧
      SettingItem.retryInterval.takes (0 : Triple).toNat = false) ∧
    (Taking running ∧ (itemOfNumber (0 : Half).toNat).isSome = true ∧
      (∃ item, itemOfNumber (9 : Half).toNat = some item ∧ item.takes (0 : Triple).toNat = true ∧
        running.itemOpen item = false)) ∧
    (∃ item, itemOfNumber (16 : Half).toNat = some item ∧
      item.takes (196607 : Triple).toNat = true ∧ stopped.itemOpen item = true ∧
      stopped.checkItem item (196607 : Triple).toNat ≠ .ok) ∧
    94 < (95 : Half).toNat ∧ (11 : Byte) ≠ 12 := by
  refine ⟨⟨⟨rfl, rfl⟩, by decide +kernel⟩, ⟨⟨rfl, rfl⟩, by decide +kernel, ?_⟩, ?_, by decide⟩
  · exact ⟨_, rfl, by decide +kernel⟩
  · exact ⟨_, rfl, by decide +kernel⟩

/-- `stopped` with soft limits of X, and slot 63 planned at X 57494. -/
def limited (lo hi : Nat) (st : SlotState) : State :=
  { stopped.putAxisSettings .x { stopped.axisSettings .x with softMin := lo, softMax := hi } with
    slots := ⟨planned63 st .p80, MoveSlot.powerOn⟩ }

/-- SET of X minimum and maximum: above each other, past a slot's target, past the load position, and
within; and the items with other checks and with none. -/
theorem witness_SetStoresOneItem_checks :
    (16 + axisCode .x = (16 : Half).toNat ∧ 20 + axisCode .s = (23 : Half).toNat ∧
      24 + axisCode .x = (24 : Half).toNat ∧ 28 + axisCode .s = (31 : Half).toNat ∧
      44 + axisCode .x = (44 : Half).toNat ∧ 48 + axisCode .s = (51 : Half).toNat ∧
      ∀ n ∈ List.range 95, (itemOfNumber n).isSome = true) ∧
    (let g := (limited 5 9 .planned).axisSettings .x
     g.softMin = 5 ∧ g.softMax = 9 ∧ g.softMax < (10 : Triple).toNat ∧
       (4 : Triple).toNat < g.softMin) ∧
    (let s := limited 0 60000 .planned
     (58000 : Triple).toNat ≤ (s.axisSettings .x).softMax ∧ (s.moveSlot .even).state = .planned ∧
       (s.moveSlot .even).targets = some targets63 ∧ targets63.get .x < (58000 : Triple).toNat) ∧
    (let s := limited 0 60000 .void
     (s.moveSlot .even).state ≠ .planned ∧ (s.moveSlot .even).state ≠ .active ∧
       (s.moveSlot .odd).state = .free ∧ (s.axisSettings .x).loadPosition < (1 : Triple).toNat ∧
       (0 : Triple).toNat ≤ (s.axisSettings .x).loadPosition) := by decide +kernel

theorem witness_GeometryFollowsTheStages :
    (part63 .called).x ≤ 60000 ∧ (part63 .called).y ≤ 45000 ∧ 50 ≤ (part63 .called).span ∧
      (part63 .called).span ≤ 254 ∧ (-2000 : Int) ≤ 150 ∧ (150 : Int) ≤ 2000 ∧
      caseSettings.homeX ≤ 65535 ∧ caseSettings.homeY ≤ 65535 ∧ caseSettings.homeS ≤ 65535 ∧
      caseSettings.homeR ≤ 65535 ∧ caseSettings.quarter ≤ 16383 := by decide +kernel

/-- A block that a command names twice keeps the place it is named at first, and acts once (R70). -/
theorem test_named_order_keeps_first_place :
    (fullOrder [.scan, .verify, .scan]).take 3 = [.scan, .verify, .planner] ∧
      (fullOrder [.scan, .verify, .scan]).length = 76 := by decide +kernel

end Sys2Proof.Tests
end

section
/-! PROOFS. The commands of the placement table (spec 01, R15 to R22): ADMIT, RETIRE, HOLD, RELEASE,
SKIP and RECALL. First the operands and what a report leaves, then each command's cases. -/

namespace Sys2Proof.Machine

/-! ## A taken command that names a placement (R1, R199, R206) -/

/-- A command that names an admitted placement comes to its block's answer. -/
theorem taken_onPlacement {s : State} {index : Half} {r : Placement} (ht : Taking s)
    (hi : index.toNat < 384) (hs : s.slot? index.toNat = some r) (cmd : Byte)
    (act : State → Nat → Placement → Answer) :
    taken cmd s (fun s => s.onPlacement 0 index (act s)) =
      .next ((act s index.toNat r).state.replied cmd (act s index.toNat r).code
        (act s index.toNat r).payload) := by
  rw [taken_taking ht]
  simp [State.onPlacement, kindPlacement, Config.slotCount, hi, hs]

theorem State.onParity_of_parityCode (s : State) {parity : Nat} {p : Parity}
    (h : parity = parityCode p) (act : Parity → Answer) : s.onParity parity act = act p := by
  subst h
  cases p <;> rfl

theorem State.onParity_of_one_lt (s : State) {parity : Nat} (h : 1 < parity)
    (act : Parity → Answer) : s.onParity parity act = s.reply .refusedRange := by
  have hp : parityOfCode parity = none := by
    match parity, h with
    | _ + 2, _ => rfl
  simp [State.onParity, hp]

/-! ## Single slots of the table -/

theorem State.slot?_putSlot_self {s : State} {n : Nat} {r : Placement} (h : s.slot? n = some r)
    (v : Option Placement) : (s.putSlot n v).slot? n = v := by
  simp [State.slot?_putSlot, slot?_lt s h]

theorem State.slot?_putSlot_ne (s : State) {n m : Nat} (h : m ≠ n) (v : Option Placement) :
    (s.putSlot n v).slot? m = s.slot? m := by
  simp [State.slot?_putSlot, h.symm]

theorem State.slot?_of_lt (s : State) {n : Nat} (h : n < s.table.length) :
    s.slot? n = s.table[n] := by
  simp [State.slot?, h]

/-! ## What a report leaves (R29, R31) -/

/-- A report changes board records alone. -/
theorem State.report_boards (s : State) (p : Parity) (rep : Report) :
    ∃ b : Pair BoardRecord, s.report p rep = { s with boards := b } := by
  unfold State.report State.evalPhase
  split <;> exact ⟨_, rfl⟩

/-- The reported board keeps everything but its phase and the counts of the report. -/
theorem State.board_report_count (s : State) (p : Parity) (rep : Report) :
    (s.report p rep).board p =
      { (s.board p).count rep with phase := ((s.report p rep).board p).phase } := by
  rw [State.board_report]

theorem phaseEvaluated_report (s : State) (p : Parity) (rep : Report) :
    PhaseEvaluated s (s.report p rep) p := by
  have hfound : (s.report p rep).phaseFound p = s.phaseFound p :=
    State.phaseFound_congr p (by simp) (by rw [State.board_report]; simp)
  unfold PhaseEvaluated
  rw [hfound]
  exact congrArg BoardRecord.phase (State.board_report s p rep)

/-- A phase evaluation speaks of the board's record before and after and of the table it leaves. -/
theorem PhaseEvaluated.congr {s s' t t' : State} {p : Parity} (h : PhaseEvaluated s t p)
    (hs : s'.board p = s.board p) (ht : t'.board p = t.board p) (htable : t'.table = t.table) :
    PhaseEvaluated s' t' p := by
  have hfound : t'.phaseFound p = t.phaseFound p :=
    State.phaseFound_congr p htable (by rw [ht])
  unfold PhaseEvaluated at h ⊢
  rw [hfound, hs, ht, h]

/-- A placement's record is written, its board takes a report, and the command replies OK: what SKIP
and RECALL leave. -/
theorem State.putSlot_report_replied (s : State) (n : Nat) (v : Option Placement) (p : Parity)
    (rep : Report) (cmd : Byte) :
    let t := ((s.putSlot n v).report p rep).replied cmd .ok []
    t = { s with table := (s.putSlot n v).table, boards := t.boards, port := t.port
                 freeCount := t.freeCount } ∧
      t.board p = { (s.board p).count rep with phase := (t.board p).phase } ∧
      PhaseEvaluated s t p ∧ t.board (otherParity p) = s.board (otherParity p) ∧
      Answered s t cmd .ok [] := by
  refine ⟨?frame, State.board_report_count (s.putSlot n v) p rep, ?phase,
    State.board_report_ne (s.putSlot n v) (otherParity_ne p) rep,
    answered_replied s _ (by simp) (by simp) cmd .ok []⟩
  case frame =>
    obtain ⟨b, hb⟩ := State.report_boards (s.putSlot n v) p rep
    rw [hb]; rfl
  case phase => exact (phaseEvaluated_report (s.putSlot n v) p rep).congr rfl rfl rfl

/-- A frame that names the table may name it as the table of the state it leaves. -/
theorem State.frame_ownTable {s t : State} {table : List (Option Placement)}
    (h : t = { s with table := table, boards := t.boards, port := t.port
                      freeCount := t.freeCount }) :
    t = { s with table := t.table, boards := t.boards, port := t.port
                 freeCount := t.freeCount } := by
  have htable : t.table = table := congrArg State.table h
  rw [htable]
  exact h

/-! ## ADMIT (R15) -/

@[simp] theorem orientationOfCode_quadrant (o : Orientation) :
    orientationOfCode o.quadrant = some o := by cases o <;> rfl

@[simp] theorem profileOfCode_code (c : Profile) : profileOfCode c.code = some c := by
  cases c <;> rfl

theorem getLsbD_seven_eq_decide (b : Byte) : b.getLsbD 7 = decide (128 ≤ b.toNat) := by
  rw [← BitVec.msb_eq_getLsbD_last b, BitVec.msb_eq_decide]

theorem admittedRecord_inRange {sequence station x y span trip : Nat} {code : Byte}
    {o : Orientation} {c : Profile} (hlow : 1 ≤ station) (hhigh : station ≤ 72) (hx : x ≤ 60000)
    (hy : y ≤ 45000) (hshort : 50 ≤ span) (hlong : span ≤ 254) (htrip : trip ≤ 7)
    (ho : code.toNat / 32 % 4 = o.quadrant) (hc : code.toNat / 8 % 4 = c.code) :
    admittedRecord sequence station x y span trip code =
      some
        { sequence := sequence, station := station, substitute := code.getLsbD 7, x := x, y := y
          orientation := o, span := span, tier := code.toNat % 4, clinch := c, trip := trip
          hold := .free, status := { even := StatusSlot.fresh, odd := StatusSlot.fresh } } := by
  rw [getLsbD_seven_eq_decide]
  simp [admittedRecord, *]

/-- Every operand has its range; of the codes of the clinch profile, 3 names none (R204). -/
theorem admittedRecord_outOfRange {sequence station x y span trip : Nat} {code : Byte}
    (h : station = 0 ∨ 72 < station ∨ 60000 < x ∨ 45000 < y ∨ span < 50 ∨ 254 < span ∨ 7 < trip ∨
      code.toNat / 8 % 4 = 3) :
    admittedRecord sequence station x y span trip code = none := by
  unfold admittedRecord
  split
  case h_1 o c _ hc =>
    have hclinch : code.toNat / 8 % 4 ≠ 3 := fun h3 => by simp [h3, profileOfCode] at hc
    exact if_neg (by omega)
  case h_2 => rfl

theorem State.lowestFree_eq_some {s : State} {n : Nat} (hn : n < s.table.length)
    (hfree : s.slot? n = none) (hbelow : ∀ m : Nat, m < n → s.slot? m ≠ none) :
    s.lowestFree = some n := by
  have hfind : s.table.zipIdx.find? (fun e => e.1.isNone) = some (none, n) := by
    rw [List.find?_eq_some_iff_getElem]
    refine ⟨rfl, n, by simpa using hn, ?_, fun m hm => ?_⟩
    · simp [← State.slot?_of_lt s hn, hfree]
    · have hslot := hbelow m hm
      rw [State.slot?_of_lt s (hm.trans hn)] at hslot
      simpa [Option.isSome_iff_ne_none] using hslot
  simp [State.lowestFree, hfind]

theorem State.lowestFree_eq_none {s : State}
    (h : ∀ n : Nat, n < s.table.length → s.slot? n ≠ none) : s.lowestFree = none := by
  simp only [State.lowestFree, Option.map_eq_none_iff, List.find?_eq_none]
  intro e he
  obtain ⟨n, hn, rfl⟩ := List.getElem_of_mem he
  rw [List.length_zipIdx] at hn
  have hslot := h n hn
  rw [State.slot?_of_lt s hn] at hslot
  simpa using hslot

theorem State.admitRecord_lowest {s : State} {n : Nat} (h : s.lowestFree = some n)
    (r : Placement) :
    s.admitRecord (some r) =
      { state := s.putSlot n (some r), code := .ok, payload := [byte (n / 256), byte n] } := by
  simp [State.admitRecord, h, slotPayload, byte]

theorem State.admitRecord_full {s : State} (h : s.lowestFree = none) (r : Placement) :
    s.admitRecord (some r) = s.reply .tableFull := by
  simp [State.admitRecord, h]

theorem exec_admitSlot {s : State} (ht : Taking s) (sequence : Half) (station : Byte) (x y : Half)
    (span trip code : Byte) :
    exec (.admitSlot 0 sequence station x y span trip code) s =
      let a := s.admitRecord
        (admittedRecord sequence.toNat station.toNat x.toNat y.toNat span.toNat trip.toNat code)
      .next (a.state.replied 2 a.code a.payload) := by
  change execAdmit 0 sequence station x y span trip code s = _
  rw [execAdmit, taken_taking ht]
  rfl

/-! ## RETIRE (R18) -/

theorem State.standing_eq_false {s : State} (hstart : s.machine.state ≠ .start)
    (hstopped : s.machine.state ≠ .stopped) : s.standing = false := by
  rw [Bool.eq_false_iff, Ne, State.standing_iff]
  exact not_or.mpr ⟨hstart, hstopped⟩

theorem State.retire_notHeld {s : State} (n : Nat) {r : Placement} (hstart : s.machine.state ≠ .start)
    (hstopped : s.machine.state ≠ .stopped) (hhold : r.hold ≠ .held) :
    s.retire n r = s.reply .notHeld := by
  simp [State.retire, State.standing_eq_false hstart hstopped, hhold]

theorem State.retire_carried {s : State} {n : Nat} (r : Placement)
    (hstanding : s.machine.state = .start ∨ s.machine.state = .stopped)
    (hcarried : s.carried n = true) : s.retire n r = s.reply .refusedState := by
  simp [State.retire, (State.standing_iff s).mpr hstanding, hcarried]

theorem State.retire_accepted {s : State} {n : Nat} {r : Placement}
    (h : (s.machine.state = .start ∨ s.machine.state = .stopped) ∧ s.carried n = false ∨
      (s.machine.state ≠ .start ∧ s.machine.state ≠ .stopped) ∧ r.hold = .held) :
    s.retire n r =
      (((s.putSlot n none).reportRetirement r .even).reportRetirement r .odd).ok := by
  rcases h with ⟨hstanding, hcarried⟩ | ⟨⟨hstart, hstopped⟩, hhold⟩
  · simp [State.retire, (State.standing_iff s).mpr hstanding, hcarried]
  · simp [State.retire, State.standing_eq_false hstart hstopped, hhold]

theorem State.reportRetirement_placement {s : State} {r : Placement} {p : Parity}
    (ho : s.isOpen p = true) (hp : (r.status.get p).state ≠ .notInBoard) :
    s.reportRetirement r p = s.report p .retirement := by
  simp [State.reportRetirement, ho, hp]

theorem State.reportRetirement_none {s : State} {r : Placement} {p : Parity}
    (h : ¬ (s.isOpen p = true ∧ (r.status.get p).state ≠ .notInBoard)) :
    s.reportRetirement r p = s := by
  simpa [State.reportRetirement] using fun ho hp => absurd ⟨ho, hp⟩ h

theorem State.reportRetirement_boards (s : State) (r : Placement) (p : Parity) :
    ∃ b : Pair BoardRecord, s.reportRetirement r p = { s with boards := b } := by
  unfold State.reportRetirement
  split
  · exact State.report_boards s p .retirement
  · exact ⟨_, rfl⟩

theorem State.board_reportRetirement_ne (s : State) (r : Placement) {p q : Parity} (h : q ≠ p) :
    (s.reportRetirement r p).board q = s.board q := by
  unfold State.reportRetirement
  split
  · exact State.board_report_ne s h .retirement
  · rfl

theorem State.board_reportRetirement (s : State) (r : Placement) (p : Parity) :
    (s.reportRetirement r p).board p =
      { s.board p with
        phase := ((s.reportRetirement r p).board p).phase
        inBoard :=
          if s.isOpen p = true ∧ (r.status.get p).state ≠ .notInBoard then (s.board p).inBoard - 1
          else (s.board p).inBoard } := by
  by_cases h : s.isOpen p = true ∧ (r.status.get p).state ≠ .notInBoard
  · obtain ⟨ho, hp⟩ := h
    rw [if_pos ⟨ho, hp⟩, State.reportRetirement_placement ho hp]
    exact State.board_report_count s p .retirement
  · rw [if_neg h, State.reportRetirement_none h]

theorem State.retirements_boards (s : State) (r : Placement) :
    ∃ b : Pair BoardRecord,
      (s.reportRetirement r .even).reportRetirement r .odd = { s with boards := b } := by
  obtain ⟨even, heven⟩ := State.reportRetirement_boards s r .even
  obtain ⟨both, hboth⟩ := State.reportRetirement_boards (s.reportRetirement r .even) r .odd
  exact ⟨both, by rw [hboth, heven]⟩

/-- The two reports of a retirement do not meet: each board takes its own as if it were alone. -/
theorem State.board_retirements (s : State) (r : Placement) (p : Parity) :
    ∃ v : State, v.board p = s.board p ∧ v.table = s.table ∧
      ((s.reportRetirement r .even).reportRetirement r .odd).board p =
        (v.reportRetirement r p).board p := by
  cases p with
  | even => exact ⟨s, rfl, rfl, State.board_reportRetirement_ne _ r (by decide)⟩
  | odd =>
    refine ⟨s.reportRetirement r .even, State.board_reportRetirement_ne s r (by decide), ?_, rfl⟩
    obtain ⟨b, hb⟩ := State.reportRetirement_boards s r .even
    rw [hb]

theorem State.isOpen_of_board_eq {s t : State} {p : Parity} (h : t.board p = s.board p) :
    t.isOpen p = s.isOpen p := by
  unfold State.isOpen; rw [h]

theorem exec_retire {s : State} {index : Half} {r : Placement} (ht : Taking s)
    (hi : index.toNat < 384) (hs : s.slot? index.toNat = some r) :
    exec (.retire 0 index) s =
      .next ((s.retire index.toNat r).state.replied 4 (s.retire index.toNat r).code
        (s.retire index.toNat r).payload) :=
  taken_onPlacement ht hi hs 4 State.retire

/-! ## HOLD and RELEASE (R19, R20) -/

theorem PlacementState.unresolved_iff (st : PlacementState) :
    st.unresolved = true ↔ st = .callable ∨ st = .called := by
  cases st <;> simp [PlacementState.unresolved]

theorem State.markUnordered_eq (s : State) (p : Parity) (st : StatusSlot) :
    s.markUnordered p st =
      if s.isOpen p = true ∧ (st.state = .callable ∨ st.state = .called) then
        { st with unordered := true }
      else st := by
  simp [State.markUnordered, PlacementState.unresolved_iff]

theorem State.holdRecord_free (s : State) (n : Nat) {r : Placement} (h : r.hold = .free) :
    s.holdRecord n r =
      { state :=
          s.putSlot n
            (some
              { r with
                hold := if s.carried n = true then .holdPending else .held
                status :=
                  { even := s.markUnordered .even r.status.even
                    odd := s.markUnordered .odd r.status.odd } })
        code := if s.carried n = true then .pending else .ok
        payload := [] } := by
  by_cases hcarried : s.carried n = true
  · simp [State.holdRecord, h, hcarried, State.reply]
  · simp [State.holdRecord, h, hcarried, State.ok]

theorem State.releaseRecord_claimed (s : State) (n : Nat) {r : Placement} (h : r.hold ≠ .free) :
    s.releaseRecord n r = (s.putSlot n (some { r with hold := .free })).ok := by
  cases hhold : r.hold with
  | free => exact absurd hhold h
  | holdPending => simp [State.releaseRecord, hhold]
  | held => simp [State.releaseRecord, hhold]

theorem exec_hold {s : State} {index : Half} {r : Placement} (ht : Taking s)
    (hi : index.toNat < 384) (hs : s.slot? index.toNat = some r) :
    exec (.hold 0 index) s =
      .next ((s.holdRecord index.toNat r).state.replied 5 (s.holdRecord index.toNat r).code
        (s.holdRecord index.toNat r).payload) :=
  taken_onPlacement ht hi hs 5 State.holdRecord

theorem exec_release {s : State} {index : Half} {r : Placement} (ht : Taking s)
    (hi : index.toNat < 384) (hs : s.slot? index.toNat = some r) :
    exec (.release 0 index) s =
      .next ((s.releaseRecord index.toNat r).state.replied 6 (s.releaseRecord index.toNat r).code
        (s.releaseRecord index.toNat r).payload) :=
  taken_onPlacement ht hi hs 6 State.releaseRecord

/-! ## SKIP and RECALL (R21, R22) -/

theorem State.skipIn_refused {s : State} {n : Nat} {r : Placement} {p : Parity}
    (h : s.isOpen p = false ∨ s.carriedIn n p = true ∨ (r.status.get p).state ≠ .callable) :
    s.skipIn n r p = s.reply .refusedState := by
  unfold State.skipIn
  rcases h with hclosed | hcarried | hstate
  · simp [hclosed]
  · simp [hcarried]
  · simp [hstate]

theorem State.skipIn_accepted {s : State} {n : Nat} {r : Placement} {p : Parity}
    (hs : s.slot? n = some r) (ho : s.isOpen p = true) (hcarried : s.carriedIn n p = false)
    (hstate : (r.status.get p).state = .callable) :
    s.skipIn n r p =
      ((s.putSlot n
        (some
          { r with
            status := r.status.put p
              { r.status.get p with state := .skipped, skipReason := some .host } })).report p
        .skip).ok := by
  simp [State.skipIn, ho, hcarried, hstate, State.modifyStatus_of s hs]

theorem State.recallIn_refused {s : State} (n : Nat) {r : Placement} {p : Parity}
    (h : (s.board p).phase = .free ∨ (s.board p).phase = .complete ∨
      ((r.status.get p).state ≠ .missed ∧ (r.status.get p).state ≠ .interrupted)) :
    s.recallIn n r p = s.reply .refusedState := by
  unfold State.recallIn
  rcases h with hfree | hcomplete | hstate
  · simp [hfree]
  · simp [hcomplete]
  · split
    · rfl
    · rfl
    · exact if_pos hstate

/-- Where the board and the state allow a recall, check 3 of R22 decides on the state after it. -/
theorem State.recallIn_recallable {s : State} {n : Nat} {r : Placement} {p : Parity}
    (hs : s.slot? n = some r)
    (hphase : (s.board p).phase = .calling ∨ (s.board p).phase = .calledOut)
    (hstate : (r.status.get p).state = .missed ∨ (r.status.get p).state = .interrupted)
    {after : State} (hafter : after = s.putSlot n
      (some { r with status := r.status.put p (recalledSlot r (r.status.get p)) })) :
    s.recallIn n r p =
      if after.precedesAtHead n p = true then s.reply .refusedState
      else (after.report p .returned).ok := by
  have hmovable : ¬ ((r.status.get p).state ≠ .missed ∧ (r.status.get p).state ≠ .interrupted) := by
    tauto
  rw [hafter, ← State.modifyStatus_of s hs p (recalledSlot r)]
  rcases hphase with hphase | hphase
  · simp only [State.recallIn, hphase, if_neg hmovable]
  · simp only [State.recallIn, hphase, if_neg hmovable]

theorem exec_skip {s : State} {index : Half} {r : Placement} (ht : Taking s)
    (hi : index.toNat < 384) (hs : s.slot? index.toNat = some r) (parity : Byte) :
    exec (.skip 0 index parity) s =
      let a := s.onParity parity.toNat (s.skipIn index.toNat r)
      .next (a.state.replied 7 a.code a.payload) :=
  taken_onPlacement ht hi hs 7 fun s n r => s.onParity parity.toNat (s.skipIn n r)

theorem exec_recallSlot {s : State} {index : Half} {r : Placement} (ht : Taking s)
    (hi : index.toNat < 384) (hs : s.slot? index.toNat = some r) (parity : Byte) :
    exec (.recallSlot 0 index parity) s =
      let a := s.onParity parity.toNat (s.recallIn index.toNat r)
      .next (a.state.replied 8 a.code a.payload) :=
  taken_onPlacement ht hi hs 8 fun s n r => s.onParity parity.toNat (s.recallIn n r)

end Sys2Proof.Machine

open Sys2Proof Sys2Proof.Machine

/-- Settles O20: the first FREE slot found is the lowest one. -/
theorem admitFillsLowestFreeSlot : Obligations.AdmitFillsLowestFreeSlot := by
  refine ⟨?inRange, ?outOfRange⟩
  case inRange =>
    intro sequence station x y span trip code o c s ht hshape hlow hhigh hx hy hshort hlong htrip
      ho hc
    obtain ⟨hlen, -⟩ := hshape
    rw [exec_admitSlot ht, admittedRecord_inRange hlow hhigh hx hy hshort hlong htrip ho hc]
    refine ⟨fun n hn hfree hbelow => ?_, fun hfull => ?_⟩
    · rw [State.admitRecord_lowest (State.lowestFree_eq_some (hlen ▸ hn) hfree hbelow)]
      rfl
    · rw [State.admitRecord_full (State.lowestFree_eq_none (hlen ▸ hfull))]
      rfl
  case outOfRange =>
    intro sequence station x y span trip code s ht h
    rw [exec_admitSlot ht, admittedRecord_outOfRange h]
    rfl

/-- Settles O22: the two reports of a retirement reach different boards. -/
theorem retireFreesTheSlot : Obligations.RetireFreesTheSlot := by
  intro index s r ht hi hs
  rw [exec_retire ht hi hs]
  refine ⟨fun hstart hstopped hhold => ?notHeld, fun hstanding hcarried => ?carried,
    fun h => ?accepted⟩
  case notHeld => rw [State.retire_notHeld _ hstart hstopped hhold]; rfl
  case carried => rw [State.retire_carried r hstanding hcarried]; rfl
  case accepted =>
    rw [State.retire_accepted h]
    obtain ⟨b, hb⟩ := State.retirements_boards (s.putSlot index.toNat none) r
    refine ⟨_, rfl, ?frame, ?freed, ?others, fun p => ?count, fun p ho hp => ?phase, ?answered⟩
    case frame => rw [hb]; rfl
    case freed =>
      rw [hb]
      exact State.slot?_putSlot_self hs none
    case others =>
      rw [hb]
      exact fun m hm => State.slot?_putSlot_ne s hm none
    case count =>
      obtain ⟨v, hboard, -, hv⟩ := State.board_retirements (s.putSlot index.toNat none) r p
      have hopen : v.isOpen p = s.isOpen p := State.isOpen_of_board_eq hboard
      have hcount := State.board_reportRetirement v r p
      rw [← hv, hboard, hopen] at hcount
      exact hcount
    case phase =>
      obtain ⟨v, hboard, htable, hv⟩ := State.board_retirements (s.putSlot index.toNat none) r p
      have hopen : v.isOpen p = true := (State.isOpen_of_board_eq hboard).trans ho
      rw [State.reportRetirement_placement hopen hp] at hv
      refine (phaseEvaluated_report v p .retirement).congr hboard.symm hv ?_
      rw [hb]
      exact htable.symm.trans (by simp)
    case answered =>
      rw [hb]
      exact answered_replied s _ rfl rfl 4 .ok []

/-- Settles O23, by the three values of the hold. -/
theorem holdAndReleaseClaimTheRecord : Obligations.HoldAndReleaseClaimTheRecord := by
  intro index s r ht hi hs
  rw [exec_hold ht hi hs, exec_release ht hi hs]
  refine ⟨fun hfree => ⟨?holdFree, ?releaseFree⟩, fun hheld => ?held, fun hpending => ?pending,
    fun hclaimed => ?claimed⟩
  case holdFree =>
    rw [State.holdRecord_free s _ hfree, State.markUnordered_eq, State.markUnordered_eq]
  case releaseFree => simp [State.releaseRecord, hfree, State.reply]
  case held => simp [State.holdRecord, hheld, State.ok]
  case pending => simp [State.holdRecord, hpending, State.reply]
  case claimed => rw [State.releaseRecord_claimed s _ hclaimed]; rfl

/-- Settles O24: a move of the placement is a write of its record and a report to its board. -/
theorem skipAndRecallMoveThePlacement : Obligations.SkipAndRecallMoveThePlacement := by
  refine ⟨?parity, ?skipped, ?recalled⟩
  case parity =>
    intro index parity s ht hi hs hparity
    obtain ⟨r, hr⟩ := Option.ne_none_iff_exists'.mp hs
    rw [exec_skip ht hi hr, exec_recallSlot ht hi hr, State.onParity_of_one_lt s hparity,
      State.onParity_of_one_lt s hparity]
    exact ⟨rfl, rfl⟩
  case skipped =>
    intro index parity p s r ht hi hs hparity
    rw [exec_skip ht hi hs, State.onParity_of_parityCode s hparity]
    refine ⟨fun ho hcarried hstate => ?_, fun hrefused => ?_⟩
    · rw [State.skipIn_accepted hs ho hcarried hstate]
      obtain ⟨hframe, hmoved⟩ := State.putSlot_report_replied s index.toNat
        (some { r with
          status := r.status.put p
            { r.status.get p with state := .skipped, skipReason := some .host } }) p .skip 7
      have htable := congrArg State.table hframe
      exact ⟨_, rfl, State.frame_ownTable hframe,
        (slot?_congr htable _).trans (State.slot?_putSlot_self hs _),
        fun m hm => (slot?_congr htable m).trans (State.slot?_putSlot_ne s hm _), hmoved⟩
    · rw [State.skipIn_refused hrefused]
      rfl
  case recalled =>
    intro index parity p s r ht hi hs hparity
    rw [exec_recallSlot ht hi hs, State.onParity_of_parityCode s hparity]
    refine ⟨fun hrefused => ?_, fun hphase hstate => ?_⟩
    · rw [State.recallIn_refused _ hrefused]
      rfl
    · intro after
      rw [State.recallIn_recallable hs hphase hstate (after := after) rfl]
      refine ⟨fun hclear => ?_, fun hprecedes => ?_⟩
      · rw [hclear]
        exact ⟨_, rfl, State.putSlot_report_replied s index.toNat _ p .returned 8⟩
      · rw [hprecedes]
        rfl

end

section
/-! PROOFS. Boards: BOARD_OPEN (spec 02, R26, R27, R5) and ALIGN (R41), with the computation of the
slots that await the aligned board (R132, R133, R142). -/

namespace Sys2Proof.Machine

/-! ## The phase rule on the table (R31) -/

/-- A phase evaluation changes board records alone. -/
theorem State.evalPhase_boards (s : State) (p : Parity) :
    ∃ b : Pair BoardRecord, s.evalPhase p = { s with boards := b } := by
  unfold State.evalPhase
  split <;> exact ⟨_, rfl⟩

/-- An evaluation of an open board that is not COMPLETE gives it the phase found. -/
theorem State.phase_evalPhase {s : State} {p : Parity} (hopen : (s.board p).phase ≠ .free)
    (hcomplete : (s.board p).phase ≠ .complete) :
    ((s.evalPhase p).board p).phase = s.phaseFound p := by
  unfold State.evalPhase
  split
  · contradiction
  · contradiction
  · simp

theorem phaseEvaluated_of_found {s t : State} {p : Parity} (hopen : (s.board p).phase ≠ .free)
    (hcomplete : (s.board p).phase ≠ .complete) (h : (t.board p).phase = t.phaseFound p) :
    PhaseEvaluated s t p := by
  unfold PhaseEvaluated
  split
  · contradiction
  · contradiction
  · exact h

theorem State.phaseFound_eq_complete_iff (s : State) (p : Parity) :
    s.phaseFound p = .complete ↔
      s.allResolved p = true ∧ (s.board p).tableState = .aligned := by
  unfold State.phaseFound
  split
  · simp_all
  · split <;> simp_all

/-- A board that is not on the table cannot be COMPLETE (R31). -/
theorem State.phaseFound_notLoaded {s : State} {p : Parity}
    (h : (s.board p).tableState = .notLoaded) :
    s.phaseFound p = if s.anyCallable p = true then .calling else .calledOut := by
  simp [State.phaseFound, h]

theorem State.exists_mem_table_iff (s : State) (r : Placement) :
    some r ∈ s.table ↔ ∃ n : Nat, s.slot? n = some r := by
  simp [List.mem_iff_getElem?, State.slot?, Option.join_eq_some_iff]

theorem State.allResolved_iff (s : State) (p : Parity) :
    s.allResolved p = true ↔
      ∀ (n : Nat) (r : Placement), s.slot? n = some r →
        (r.status.get p).state.resolved = true ∨ (r.status.get p).state = .notInBoard := by
  have hall : s.allResolved p = true ↔ ∀ r : Placement, some r ∈ s.table →
      (r.status.get p).state.resolved = true ∨ (r.status.get p).state = .notInBoard := by
    simp only [State.allResolved, List.all_eq_true]
    refine ⟨fun h r hr => by simpa using h _ hr, fun h e he => ?_⟩
    cases e with
    | none => rfl
    | some r => simpa using h r he
  rw [hall]
  exact ⟨fun h n r hr => h r ((s.exists_mem_table_iff r).mpr ⟨n, hr⟩),
    fun h r hr => ((s.exists_mem_table_iff r).mp hr).elim fun n hn => h n r hn⟩

/-! ## BOARD_OPEN (R26, R27, R5) -/

/-- While one record is FREE, the other is the newest open board, if it is open. -/
theorem State.newestDone_iff {s : State} {p : Parity} (h : s.isOpen p = false) :
    s.newestDone = true ↔ (s.board (otherParity p)).phase ≠ .calling := by
  have hage : s.boardsByAge = [otherParity p].filter s.isOpen := by
    cases p <;>
      simp_all [State.boardsByAge, State.isOlder, State.openBoards, otherParity, List.filter_cons]
  have hopen : s.isOpen (otherParity p) = decide ((s.board (otherParity p)).phase ≠ .free) := rfl
  unfold State.newestDone
  rw [hage, List.filter_singleton, hopen]
  cases hphase : (s.board (otherParity p)).phase <;> simp [hphase]

theorem State.mayOpen_iff {s : State} {p : Parity} (hp : p = parityOf s.nextNumber) :
    s.mayOpen = true ↔
      s.machine.state = .running ∧ s.isOpen p = false ∧
        (s.board (otherParity p)).phase ≠ .calling ∧
        (s.settings.runLength = 0 ∨ s.runCounter < s.settings.runLength) := by
  subst hp
  unfold State.mayOpen
  cases hopen : s.isOpen (parityOf s.nextNumber) with
  | true => simp
  | false => simp [← State.newestDone_iff hopen, and_assoc]

/-- The open request of R5 on each admitted record; FREE slots stay FREE. -/
theorem State.slot?_openRequest (s : State) (p : Parity) (n : Nat) :
    (s.openRequest p).slot? n =
      (s.slot? n).map fun r => { r with status := r.status.put p (openedSlot r.hold) } := by
  simp only [State.slot?, State.openRequest, List.getElem?_map]
  cases s.table[n]? <;> rfl

theorem State.anyCallable_openRequest (s : State) (p : Parity) :
    (s.openRequest p).anyCallable p = !s.table.all Option.isNone := by
  simp only [State.anyCallable, State.openRequest, List.any_map, List.not_all_eq_any_not]
  congr 1
  funext e
  cases e with
  | none => rfl
  | some r => simp [openedSlot]

/-- The record with which a board starts anew (R27), before its first phase evaluation. -/
def State.newBoard (s : State) : BoardRecord :=
  { number := s.nextNumber, phase := .calling, tableState := .notLoaded, correction := none
    inBoard := s.admittedCount, inserted := 0, skipped := 0, outOfTravel := 0, missed := 0
    interrupted := 0, recalls := 0, deferrals := 0 }

/-- R27 up to the first phase evaluation: the open request, the record and the counters. -/
def State.beforeEvaluation (s : State) (p : Parity) : State :=
  { (s.openRequest p).putBoard p s.newBoard with
    nextNumber := (s.nextNumber + 1) % 65536
    runCounter := min 65535 (s.runCounter + 1)
    drive := { s.drive with strikes := 0 } }

theorem State.openBoard_eq {s : State} {p : Parity} (hp : p = parityOf s.nextNumber) :
    s.openBoard = (s.beforeEvaluation p).evalPhase p := by
  subst hp
  rfl

theorem State.board_beforeEvaluation (s : State) (p q : Parity) :
    (s.beforeEvaluation p).board q = if q = p then s.newBoard else s.board q :=
  State.board_putBoard (s.openRequest p) p q s.newBoard

/-- The first evaluation finds CALLING, or CALLED_OUT where no placement is admitted (R31). -/
theorem State.phaseFound_beforeEvaluation (s : State) (p : Parity) :
    (s.beforeEvaluation p).phaseFound p =
      if s.table.all Option.isNone = true then .calledOut else .calling := by
  have hcallable : (s.beforeEvaluation p).anyCallable p = !s.table.all Option.isNone :=
    s.anyCallable_openRequest p
  rw [State.phaseFound_notLoaded (by simp [State.board_beforeEvaluation, State.newBoard]),
    hcallable]
  cases s.table.all Option.isNone <;> rfl

theorem State.board_openBoard {s : State} {p : Parity} (hp : p = parityOf s.nextNumber) :
    s.openBoard.board p =
      { s.newBoard with
        phase := if s.table.all Option.isNone = true then .calledOut else .calling } := by
  rw [State.openBoard_eq hp, State.board_evalPhase, State.phaseFound_beforeEvaluation,
    State.board_beforeEvaluation, if_pos rfl]
  rfl

theorem State.board_openBoard_ne {s : State} {p q : Parity} (hp : p = parityOf s.nextNumber)
    (h : q ≠ p) : s.openBoard.board q = s.board q := by
  rw [State.openBoard_eq hp, State.board_evalPhase_ne _ h, State.board_beforeEvaluation, if_neg h]

theorem State.table_openBoard {s : State} {p : Parity} (hp : p = parityOf s.nextNumber) :
    s.openBoard.table = (s.openRequest p).table := by
  rw [State.openBoard_eq hp]
  simp [State.beforeEvaluation]

/-- The table, the board records and the counters change, and nothing else. -/
theorem State.openBoard_changes {s : State} {p : Parity} (hp : p = parityOf s.nextNumber) :
    s.openBoard =
      { s with
        table := s.openBoard.table
        boards := s.openBoard.boards
        nextNumber := (s.nextNumber + 1) % 65536
        runCounter := min 65535 (s.runCounter + 1)
        drive := { s.drive with strikes := 0 } } := by
  rw [State.openBoard_eq hp]
  obtain ⟨b, hb⟩ := State.evalPhase_boards (s.beforeEvaluation p) p
  rw [hb]
  rfl

theorem exec_boardOpen {s : State} (hl : Live s) : exec .boardOpen s = .next s.openIfMay :=
  event_live hl State.openIfMay

/-! ## What the computation of slots keeps (R132, R133) -/

theorem BoardRecord.count_correction (b : BoardRecord) (r : Report) :
    (b.count r).correction = b.correction := by cases r <;> rfl

/-- A request is ignored, or it finds its placement CALLED in an open board (R12). -/
theorem State.request_cases (s : State) (n : Nat) (p : Parity) (f : StatusSlot → StatusSlot)
    (rep : Report) :
    s.request n p f rep = s ∨
      ∃ r : Placement, s.slot? n = some r ∧ s.isOpen p = true ∧
        (r.status.get p).state = .called := by
  by_cases h : s.isOpen p = false ∨ ∀ u, s.statusOf n p = some u → u.state ≠ .called
  · exact .inl (State.request_ignored s h f rep)
  · push Not at h
    obtain ⟨hopen, u, hu, hcalled⟩ := h
    obtain ⟨r, hr, rfl⟩ := Option.map_eq_some_iff.mp hu
    exact .inr ⟨r, hr, by simpa using hopen, hcalled⟩

theorem phaseEvaluated_request (s : State) {n : Nat} {p : Parity} {r : Placement}
    (hs : s.slot? n = some r) (ho : s.isOpen p = true) (hc : (r.status.get p).state = .called)
    (f : StatusSlot → StatusSlot) (rep : Report) : PhaseEvaluated s (s.request n p f rep) p := by
  rw [State.request_applied s hs ho hc]
  exact (phaseEvaluated_report _ p rep).congr (board_congr (by simp) p) rfl rfl

/-- What a computation of move slots keeps: it may skip placements and make boards COMPLETE, but the
boards' places and alignments and every result of the geometry stand. -/
structure State.ComputationKeeps (s t : State) : Prop where
  computed : ∀ j : Job, t.computed j = s.computed j
  number : ∀ p : Parity, (t.board p).number = (s.board p).number
  tableState : ∀ p : Parity, (t.board p).tableState = (s.board p).tableState
  correction : ∀ p : Parity, (t.board p).correction = (s.board p).correction
  isOpen : ∀ p : Parity, t.isOpen p = s.isOpen p
  resolved : ∀ p : Parity, s.allResolved p = true → t.allResolved p = true
  staysComplete : ∀ p : Parity, (s.board p).phase = .complete → (t.board p).phase = .complete
  foundComplete : ∀ p : Parity, (t.board p).phase = .complete →
    (s.board p).phase = .complete ∨ t.phaseFound p = .complete

theorem State.ComputationKeeps.isAligned {s t : State} (h : s.ComputationKeeps t) (number : Nat) :
    t.isAligned number = s.isAligned number := by
  simp only [State.isAligned, State.isOpenNumber, h.isOpen, h.number, h.tableState]

theorem State.ComputationKeeps.phaseFound {s t : State} (h : s.ComputationKeeps t) {p : Parity}
    (hs : s.phaseFound p = .complete) : t.phaseFound p = .complete := by
  rw [State.phaseFound_eq_complete_iff] at hs ⊢
  obtain ⟨hresolved, haligned⟩ := hs
  exact ⟨h.resolved p hresolved, (h.tableState p).trans haligned⟩

theorem State.ComputationKeeps.trans {s t u : State} (hst : s.ComputationKeeps t)
    (htu : t.ComputationKeeps u) : s.ComputationKeeps u where
  computed j := (htu.computed j).trans (hst.computed j)
  number p := (htu.number p).trans (hst.number p)
  tableState p := (htu.tableState p).trans (hst.tableState p)
  correction p := (htu.correction p).trans (hst.correction p)
  isOpen p := (htu.isOpen p).trans (hst.isOpen p)
  resolved p h := htu.resolved p (hst.resolved p h)
  staysComplete p h := htu.staysComplete p (hst.staysComplete p h)
  foundComplete p h := by
    rcases htu.foundComplete p h with ht | hu
    · exact (hst.foundComplete p ht).imp_right htu.phaseFound
    · exact .inr hu

/-- A change of other records than the table, the boards and the settings. -/
theorem State.ComputationKeeps.of_records {s t : State} (htable : t.table = s.table)
    (hboards : t.boards = s.boards) (hsettings : t.settings = s.settings) :
    s.ComputationKeeps t where
  computed j := by
    simp only [State.computed, slot?_congr htable, board_congr hboards, hsettings]
  number p := by rw [board_congr hboards]
  tableState p := by rw [board_congr hboards]
  correction p := by rw [board_congr hboards]
  isOpen p := State.isOpen_congr hboards p
  resolved p h := by rwa [State.allResolved, htable]
  staysComplete p h := by rwa [board_congr hboards]
  foundComplete p h := .inl (by rwa [board_congr hboards] at h)

theorem State.ComputationKeeps.refl (s : State) : s.ComputationKeeps s := .of_records rfl rfl rfl

/-- An applied request leaves each board's number, place and alignment; its phase stands or is
evaluated (R29, R31). -/
theorem State.board_request_keeps (s : State) {n : Nat} {p : Parity} {r : Placement}
    (hs : s.slot? n = some r) (ho : s.isOpen p = true) (hc : (r.status.get p).state = .called)
    (f : StatusSlot → StatusSlot) (rep : Report) (q : Parity) :
    ((s.request n p f rep).board q).number = (s.board q).number ∧
      ((s.request n p f rep).board q).tableState = (s.board q).tableState ∧
      ((s.request n p f rep).board q).correction = (s.board q).correction ∧
      (((s.request n p f rep).board q).phase = (s.board q).phase ∨
        PhaseEvaluated s (s.request n p f rep) q) := by
  obtain ⟨hboard, hother⟩ := s.board_request hs ho hc f rep
  rcases eq_or_eq_otherParity p q with rfl | rfl
  · refine ⟨?_, ?_, ?_, .inr (phaseEvaluated_request s hs ho hc f rep)⟩
    · rw [hboard]; exact BoardRecord.count_number _ rep
    · rw [hboard]; exact BoardRecord.count_tableState _ rep
    · rw [hboard]; exact BoardRecord.count_correction _ rep
  · simp [hother]

/-- An applied request changes no program field (R2), and the geometry reads no other. -/
theorem State.computed_request (s : State) {n : Nat} {p : Parity} {r : Placement}
    (hs : s.slot? n = some r) (ho : s.isOpen p = true) (hc : (r.status.get p).state = .called)
    (f : StatusSlot → StatusSlot) (rep : Report) (j : Job) :
    (s.request n p f rep).computed j = s.computed j := by
  obtain ⟨-, -, hcorrection, -⟩ := s.board_request_keeps hs ho hc f rep (parityOf j.board)
  have hsettings : (s.request n p f rep).settings = s.settings := by simp
  simp only [State.computed, s.slot?_request hs ho hc f rep, hcorrection, hsettings]
  by_cases hj : j.placement = n
  · subst hj
    simp only [if_pos, hs]
    cases (s.board (parityOf j.board)).correction <;> rfl
  · rw [if_neg hj]

/-- A request that resolves its placement leaves a resolved board resolved. -/
theorem State.allResolved_request (s : State) {n : Nat} {p : Parity} {r : Placement}
    (hs : s.slot? n = some r) (ho : s.isOpen p = true) (hc : (r.status.get p).state = .called)
    {f : StatusSlot → StatusSlot} (hf : ∀ st : StatusSlot, (f st).state.resolved = true)
    (rep : Report) {q : Parity} (h : s.allResolved q = true) :
    (s.request n p f rep).allResolved q = true := by
  rw [State.allResolved_iff] at h ⊢
  intro m r' hr'
  rw [s.slot?_request hs ho hc f rep] at hr'
  split at hr'
  · obtain rfl := Option.some.inj hr'
    by_cases hq : q = p
    · simp [hq, hf]
    · simpa [hq] using h n r hs
  · exact h m r' hr'

/-- A request that resolves its placement, as the out-of-travel request does (R11). -/
theorem State.request_keeps (s : State) (n : Nat) (p : Parity) {f : StatusSlot → StatusSlot}
    (hf : ∀ st : StatusSlot, (f st).state.resolved = true) (rep : Report) :
    s.ComputationKeeps (s.request n p f rep) := by
  rcases s.request_cases n p f rep with hignored | ⟨r, hs, ho, hc⟩
  · rw [hignored]
    exact .refl s
  choose hnumber htable hcorrection hphase using s.board_request_keeps hs ho hc f rep
  exact {
    computed := s.computed_request hs ho hc f rep
    number := hnumber
    tableState := htable
    correction := hcorrection
    isOpen := fun q => s.isOpen_request n p q f rep
    resolved := fun q => s.allResolved_request hs ho hc hf rep
    staysComplete := fun q hq => by
      rcases hphase q with hsame | heval
      · exact hsame.trans hq
      · rw [heval, hq]
    foundComplete := fun q hq => by
      rcases hphase q with hsame | heval
      · exact .inl (hsame ▸ hq)
      · rw [PhaseEvaluated, hq] at heval
        split at heval
        · cases heval
        · exact .inl ‹_›
        · exact .inr heval.symm }

theorem State.outOfTravel_keeps (s : State) (pos : Nat) (j : Job) :
    s.ComputationKeeps (s.outOfTravel pos j) := by
  refine .trans ?clip
    (State.request_keeps _ j.placement (parityOf j.board) (fun _ => rfl) .skipTravel)
  exact .of_records rfl rfl rfl

theorem State.moveSlot_outOfTravel (s : State) (pos : Nat) (j : Job) (p : Parity) :
    (s.outOfTravel pos j).moveSlot p = s.moveSlot p := moveSlot_congr (by simp) p

/-! ## The computation of the slots that await a board (R133, R142) -/

/-- What a slot that awaits an aligned board becomes, by the result of its computation (R142). -/
def MoveSlot.ofComputed (pos : SlotPosition) (j : Job) : Option (Quad Nat) → MoveSlot
  | some t => MoveSlot.planned pos j t
  | none => MoveSlot.without .void pos j

/-- A slot is left as it is, or it is computed; without targets the table gets a request (R132). -/
theorem State.computeSlot_cases (s : State) (p : Parity) :
    s.computeSlot p = s ∨ ∃ (pos : SlotPosition) (j : Job),
      s.computeSlot p = s.putMoveSlot p (MoveSlot.ofComputed pos j (s.computed j)) ∨
      s.computeSlot p =
        (s.putMoveSlot p (MoveSlot.ofComputed pos j (s.computed j))).outOfTravel pos.number j := by
  unfold State.computeSlot
  split
  case h_1 pos j _ _ _ =>
    cases s.isAligned j.board with
    | false => exact .inl rfl
    | true =>
      refine .inr ⟨pos, j, ?_⟩
      cases s.computed j with
      | some t => exact .inl rfl
      | none => exact .inr rfl
  case h_2 => exact .inl rfl

theorem State.computeSlot_keeps (s : State) (p : Parity) :
    s.ComputationKeeps (s.computeSlot p) := by
  rcases s.computeSlot_cases p with hleft | ⟨pos, j, hput | hvoid⟩
  · rw [hleft]
    exact .refl s
  · rw [hput]
    exact .of_records rfl rfl rfl
  · rw [hvoid]
    refine .trans ?slot (State.outOfTravel_keeps _ pos.number j)
    exact .of_records rfl rfl rfl

theorem State.computeAwaiting_keeps (s : State) : s.ComputationKeeps s.computeAwaiting :=
  (s.computeSlot_keeps .even).trans (State.computeSlot_keeps _ .odd)

theorem State.moveSlot_computeSlot_ne (s : State) {p q : Parity} (h : q ≠ p) :
    (s.computeSlot p).moveSlot q = s.moveSlot q := by
  rcases s.computeSlot_cases p with hleft | ⟨pos, j, hput | hvoid⟩
  · rw [hleft]
  · rw [hput, State.moveSlot_putMoveSlot, if_neg h]
  · rw [hvoid, State.moveSlot_outOfTravel, State.moveSlot_putMoveSlot, if_neg h]

theorem State.moveSlot_computeSlot {s : State} {p : Parity} {pos : SlotPosition} {j : Job}
    (hstate : (s.moveSlot p).state = .awaitingBoard) (hpos : (s.moveSlot p).position = some pos)
    (hjob : (s.moveSlot p).job = some j) (haligned : s.isAligned j.board = true) :
    (s.computeSlot p).moveSlot p = MoveSlot.ofComputed pos j (s.computed j) := by
  simp only [State.computeSlot, hstate, hpos, hjob, haligned, if_true]
  cases s.computed j with
  | some t => simp [MoveSlot.ofComputed]
  | none =>
    simp [MoveSlot.ofComputed, State.moveSlot_outOfTravel]

/-- Each slot is computed on its own: what the other's computation changes does not reach it. -/
theorem State.moveSlot_computeAwaiting {s : State} {p : Parity} {pos : SlotPosition} {j : Job}
    (hstate : (s.moveSlot p).state = .awaitingBoard) (hpos : (s.moveSlot p).position = some pos)
    (hjob : (s.moveSlot p).job = some j) (haligned : s.isAligned j.board = true) :
    s.computeAwaiting.moveSlot p = MoveSlot.ofComputed pos j (s.computed j) := by
  unfold State.computeAwaiting
  cases p with
  | even =>
    rw [State.moveSlot_computeSlot_ne _ (by decide)]
    exact State.moveSlot_computeSlot hstate hpos hjob haligned
  | odd =>
    have hkeeps := s.computeSlot_keeps .even
    have hslot : (s.computeSlot .even).moveSlot .odd = s.moveSlot .odd :=
      s.moveSlot_computeSlot_ne (by decide)
    rw [← hkeeps.computed]
    exact State.moveSlot_computeSlot (hslot ▸ hstate) (hslot ▸ hpos) (hslot ▸ hjob)
      ((hkeeps.isAligned j.board).trans haligned)

/-- A computation changes the table, the board records, the stretch and the slots alone. -/
theorem State.computeAwaiting_changes (s : State) :
    s.computeAwaiting =
      { s with
        table := s.computeAwaiting.table
        boards := s.computeAwaiting.boards
        stretch := s.computeAwaiting.stretch
        slots := s.computeAwaiting.slots } := by
  have hframe := s.computeAwaiting_frame
  generalize s.computeAwaiting = t at hframe ⊢
  cases s
  cases t
  simp_all

/-- A computation that makes the board COMPLETE leaves it as the evaluation would find it, so that
one evaluation after it counts for all of them. -/
theorem State.ComputationKeeps.phaseEvaluated {s t : State} (h : s.ComputationKeeps t) {p : Parity}
    (ho : s.isOpen p = true) : PhaseEvaluated s (t.evalPhase p) p := by
  have hfound : (t.evalPhase p).phaseFound p = t.phaseFound p :=
    State.phaseFound_congr p (by simp) (by rw [State.board_evalPhase])
  have hs : (s.board p).phase ≠ .free := by simpa [State.isOpen] using ho
  have ht : (t.board p).phase ≠ .free := by simpa [State.isOpen] using (h.isOpen p).trans ho
  by_cases hbefore : (s.board p).phase = .complete
  · have hafter := h.staysComplete p hbefore
    rw [PhaseEvaluated, State.board_evalPhase, hafter, hbefore]
  · refine phaseEvaluated_of_found hs hbefore ?_
    rw [hfound]
    by_cases hafter : (t.board p).phase = .complete
    · have hnow := (h.foundComplete p hafter).resolve_left hbefore
      rw [State.board_evalPhase, hafter, hnow]
    · exact State.phase_evalPhase ht hafter

/-! ## ALIGN (R41) -/

theorem correctionInRange_iff (c : Correction) :
    correctionInRange c = true ↔
      -5000 ≤ c.dx ∧ c.dx ≤ 5000 ∧ -5000 ≤ c.dy ∧ c.dy ≤ 5000 ∧ -2000 ≤ c.scale ∧
        c.scale ≤ 2000 := by
  simp [correctionInRange, and_assoc]

/-- The board's record with the correction that ALIGN stores. -/
def State.withCorrection (s : State) (p : Parity) (c : Correction) : State :=
  s.putBoard p { s.board p with tableState := .aligned, correction := some c }

theorem State.board_withCorrection (s : State) (p : Parity) (c : Correction) :
    (s.withCorrection p c).board p =
      { s.board p with tableState := .aligned, correction := some c } := by
  simp [State.withCorrection]

theorem State.isOpen_withCorrection (s : State) (p : Parity) (c : Correction) :
    (s.withCorrection p c).isOpen p = s.isOpen p := by
  simp only [State.isOpen, State.board_withCorrection]

/-- What ALIGN leaves: the correction stored, the slots computed, and the phase evaluated last. -/
def State.afterAlign (s : State) (p : Parity) (c : Correction) : State :=
  (s.withCorrection p c).computeAwaiting.evalPhase p

theorem State.alignBoard_accepted {s : State} {p : Parity} {c : Correction}
    (hc : correctionInRange c = true) (ho : s.isOpen p = true)
    (ha : (s.board p).tableState = .awaitingAlign) :
    s.alignBoard p c = (s.afterAlign p c).ok := by
  simp [State.alignBoard, State.afterAlign, State.withCorrection, hc, ho, ha]

theorem State.alignBoard_outOfRange (s : State) (p : Parity) {c : Correction}
    (hc : ¬ correctionInRange c = true) : s.alignBoard p c = s.reply .refusedRange := by
  simp [State.alignBoard, hc]

theorem State.alignBoard_notAwaiting {s : State} {p : Parity} {c : Correction}
    (hc : correctionInRange c = true)
    (h : s.isOpen p = false ∨ (s.board p).tableState ≠ .awaitingAlign) :
    s.alignBoard p c = s.reply .refusedState := by
  rcases h with ho | ha
  · simp [State.alignBoard, hc, ho]
  · simp [State.alignBoard, hc, ha]

theorem exec_align_notABoard {s : State} (ht : Taking s) {kind : Byte} {index : Half}
    (h : kind ≠ 1 ∨ 1 < index.toNat) (dx dy scale : Half) :
    exec (.align kind index dx dy scale) s = .next (s.replied 9 .refusedRange []) := by
  change execAlign kind index dx dy scale s = _
  rw [execAlign, taken_taking ht]
  by_cases hkind : kind = kindBoard
  · have hindex : 1 < index.toNat := h.resolve_left (not_not_intro hkind)
    rw [if_pos hkind, State.onParity_of_one_lt s hindex]
    rfl
  · rw [if_neg hkind]
    rfl

theorem exec_align_board {s : State} (ht : Taking s) {index : Half} {p : Parity}
    (hp : index.toNat = parityCode p) (dx dy scale : Half) :
    exec (.align 1 index dx dy scale) s =
      let a := s.alignBoard p { dx := dx.toInt, dy := dy.toInt, scale := scale.toInt }
      .next (a.state.replied 9 a.code a.payload) := by
  change execAlign kindBoard index dx dy scale s = _
  rw [execAlign, taken_taking ht, if_pos rfl, State.onParity_of_parityCode s hp]

/-- A slot that awaits the board is computed with the correction just stored. -/
theorem State.moveSlot_afterAlign {s : State} {p q : Parity} {pos : SlotPosition} {j : Job}
    {r : Placement} (c : Correction) (ho : s.isOpen p = true)
    (hstate : (s.moveSlot q).state = .awaitingBoard) (hpos : (s.moveSlot q).position = some pos)
    (hjob : (s.moveSlot q).job = some j) (hparity : parityOf j.board = p)
    (hnumber : j.board = (s.board p).number) (hr : s.slot? j.placement = some r) :
    (s.afterAlign p c).moveSlot q = MoveSlot.ofComputed pos j (axisTargets s.settings r c) := by
  have hboard := s.board_withCorrection p c
  have haligned : (s.withCorrection p c).isAligned j.board = true := by
    have hopen := (s.isOpen_withCorrection p c).trans ho
    simp only [State.isAligned, State.isOpenNumber, hparity, hopen, hboard]
    simp [hnumber]
  have hcomputed : (s.withCorrection p c).computed j = axisTargets s.settings r c := by
    have hslot : (s.withCorrection p c).slot? j.placement = some r := hr
    rw [State.computed, hslot, hparity, hboard]
    rfl
  have heval : (s.afterAlign p c).moveSlot q = (s.withCorrection p c).computeAwaiting.moveSlot q :=
    moveSlot_congr (by simp [State.afterAlign]) q
  rw [heval, ← hcomputed]
  exact State.moveSlot_computeAwaiting hstate hpos hjob haligned

theorem State.board_afterAlign {s : State} {p : Parity} (c : Correction) (ho : s.isOpen p = true) :
    ((s.afterAlign p c).board p).tableState = .aligned ∧
      ((s.afterAlign p c).board p).correction = some c ∧
      PhaseEvaluated s (s.afterAlign p c) p := by
  have hboard := s.board_withCorrection p c
  have hkeeps := (s.withCorrection p c).computeAwaiting_keeps
  have hphase := hkeeps.phaseEvaluated ((s.isOpen_withCorrection p c).trans ho)
  refine ⟨?table, ?correction, ?phase⟩
  case table =>
    rw [State.afterAlign, State.board_evalPhase]
    exact (hkeeps.tableState p).trans (by rw [hboard])
  case correction =>
    rw [State.afterAlign, State.board_evalPhase]
    exact (hkeeps.correction p).trans (by rw [hboard])
  case phase =>
    rw [PhaseEvaluated, hboard] at hphase
    exact hphase

theorem State.afterAlign_changes (s : State) (p : Parity) (c : Correction) :
    s.afterAlign p c =
      { s with
        table := (s.afterAlign p c).table
        boards := (s.afterAlign p c).boards
        stretch := (s.afterAlign p c).stretch
        slots := (s.afterAlign p c).slots } := by
  unfold State.afterAlign
  obtain ⟨b, hb⟩ := State.evalPhase_boards (s.withCorrection p c).computeAwaiting p
  rw [hb, State.computeAwaiting_changes]
  rfl

end Sys2Proof.Machine

open Sys2Proof Sys2Proof.Machine

/-- Settles O25: the conditions of R26 decide, and `State.openBoard_changes` gives the opening. -/
theorem boardOpenStartsTheNextBoard : Obligations.BoardOpenStartsTheNextBoard := by
  intro s p hl hp
  rw [exec_boardOpen hl, State.openIfMay]
  refine ⟨fun hrun hclosed hother hlength => ?opens, fun hfails => ?nothing⟩
  case opens =>
    have hcalled : (s.board (otherParity p)).phase ≠ .calling := by
      rcases hother with hfree | hout | hcomplete
      · simp_all [State.isOpen]
      · simp [hout]
      · simp [hcomplete]
    rw [if_pos ((State.mayOpen_iff hp).mpr ⟨hrun, hclosed, hcalled, hlength⟩)]
    exact ⟨s.openBoard, rfl, State.openBoard_changes hp,
      fun n => (slot?_congr (State.table_openBoard hp) n).trans (s.slot?_openRequest p n),
      State.board_openBoard hp, State.board_openBoard_ne hp (otherParity_ne p)⟩
  case nothing =>
    rw [if_neg]
    rw [State.mayOpen_iff hp]
    rintro ⟨hrun, hclosed, hcalled, hlength⟩
    rcases hfails with hstands | hopen | hcalling | ⟨hset, hreached⟩
    · exact hstands hrun
    · simp [hopen] at hclosed
    · exact hcalled hcalling
    · omega

/-- Settles O30: the computation of the waiting slots keeps what the board's record now holds
(`State.ComputationKeeps`), so that the last evaluation is the one of R41. -/
theorem alignGivesTheCorrection : Obligations.AlignGivesTheCorrection := by
  refine ⟨fun kind index dx dy scale s ht h => exec_align_notABoard ht h dx dy scale, ?board⟩
  intro index dx dy scale p s ht hp
  rw [exec_align_board ht hp]
  have hrange := correctionInRange_iff { dx := dx.toInt, dy := dy.toInt, scale := scale.toInt }
  refine ⟨fun hdx hdx' hdy hdy' hscale hscale' ho ha => ?accepted, fun hout => ?outOfRange,
    fun hdx hdx' hdy hdy' hscale hscale' hnot => ?notAwaiting⟩
  case accepted =>
    have hc := hrange.mpr ⟨hdx, hdx', hdy, hdy', hscale, hscale'⟩
    generalize ({ dx := dx.toInt, dy := dy.toInt, scale := scale.toInt } : Correction) = c at hc ⊢
    rw [State.alignBoard_accepted hc ho ha]
    have hchanges := s.afterAlign_changes p c
    obtain ⟨htable, hcorrection, hphase⟩ := State.board_afterAlign c ho
    refine ⟨(s.afterAlign p c).replied 9 .ok [], rfl, ?frame, htable, hcorrection, hphase, ?slots,
      ?answered⟩
    case frame =>
      rw [hchanges]
      rfl
    case slots =>
      intro q pos j r hstate hpos hjob hparity hnumber hr
      have hslot := State.moveSlot_afterAlign c ho hstate hpos hjob hparity hnumber hr
      refine ⟨fun g hg => ?planned, fun hnone => ?void⟩
      case planned =>
        rw [hg] at hslot
        exact hslot
      case void =>
        rw [hnone] at hslot
        exact ⟨congrArg MoveSlot.state hslot, congrArg MoveSlot.targets hslot⟩
    case answered =>
      rw [hchanges]
      exact answered_replied s _ rfl rfl 9 .ok []
  case outOfRange =>
    rw [State.alignBoard_outOfRange s p (by rw [hrange]; dsimp only; omega)]
    rfl
  case notAwaiting =>
    rw [State.alignBoard_notAwaiting (hrange.mpr ⟨hdx, hdx', hdy, hdy', hscale, hscale'⟩) hnot]
    rfl

end

section
/-! PROOFS. The stations (spec 03): what a reaction leaves of a station with no feed in flight (R58,
R194), what a change of a station record raises and ends (R46, R65), and the end of an advance (R51
to R55, R59). -/

namespace Sys2Proof.Machine

/-! ## What stays through a reaction (R188, R194) -/

/-- What the lasting conditions of the stations read of a record (R46, R65). -/
def Station.causes (st : Station) : Bool × StationState := (st.low, st.state)

/-- What neither a HALT nor another reaction touches: the station with no feed in flight and the
clip beneath it, the causes of every station, and each status that is not CALLED. -/
structure KeepsResting (s t : State) : Prop where
  station : ∀ {k : Nat} {st : Station}, s.station? k = some st → st.feed = .idle →
    t.station? k = some st
  clip : ∀ {k : Nat} {st : Station}, k ≤ 72 → s.station? k = some st → st.feed = .idle →
    t.clip k = s.clip k
  causes : t.stations.map Station.causes = s.stations.map Station.causes
  status : ∀ {n : Nat} {p : Parity} {u : StatusSlot}, s.statusOf n p = some u → u.state ≠ .called →
    t.statusOf n p = some u

theorem KeepsResting.trans {s t u : State} (h : KeepsResting s t) (h' : KeepsResting t u) :
    KeepsResting s u where
  station hs hf := h'.station (h.station hs hf) hf
  clip hk hs hf := (h'.clip hk (h.station hs hf) hf).trans (h.clip hk hs hf)
  causes := h'.causes.trans h.causes
  status hu hc := h'.status (h.status hu hc) hc

theorem statusOf_congr {s t : State} (h : t.table = s.table) (n : Nat) (p : Parity) :
    t.statusOf n p = s.statusOf n p := by
  simp [State.statusOf, slot?_congr h]

theorem KeepsResting.of_eq {s t : State} (htable : t.table = s.table)
    (hstations : t.stations = s.stations) (hstretch : t.stretch = s.stretch) :
    KeepsResting s t where
  station hs _ := (station?_congr hstations _).trans hs
  clip _ _ _ := clip_congr hstretch _
  causes := by rw [hstations]
  status hu _ := (statusOf_congr htable _ _).trans hu

theorem KeepsResting.refl (s : State) : KeepsResting s s := .of_eq rfl rfl rfl

/-- A test that reads the causes alone finds the same stations. -/
theorem KeepsResting.any_eq {s t : State} (h : KeepsResting s t) (g : Bool × StationState → Bool) :
    t.stations.any (fun st => g st.causes) = s.stations.any (fun st => g st.causes) := by
  have hmap := congrArg (List.any · g) h.causes
  simpa [List.any_map, Function.comp_def] using hmap

theorem State.statusOf_of_slot? {s : State} {n : Nat} {r : Placement} (h : s.slot? n = some r)
    (p : Parity) : s.statusOf n p = some (r.status.get p) := by
  simp [State.statusOf, h]

/-- An applied request writes the status it names and no other (R7, R13). -/
theorem State.statusOf_request {s : State} {n : Nat} {p : Parity} {r : Placement}
    (hs : s.slot? n = some r) (ho : s.isOpen p = true) (hc : (r.status.get p).state = .called)
    (f : StatusSlot → StatusSlot) (rep : Report) (m : Nat) (q : Parity) :
    (s.request n p f rep).statusOf m q =
      if m = n ∧ q = p then some (f (r.status.get p)) else s.statusOf m q := by
  rw [State.statusOf, State.slot?_request s hs ho hc]
  by_cases hm : m = n
  · subst hm
    by_cases hq : q = p
    · simp [hq]
    · simp [hq, State.statusOf_of_slot? hs]
  · simp [hm, State.statusOf]

/-- A request finds no status to change but a CALLED one (R12). -/
theorem State.statusOf_request_of_ne_called {s : State} {m : Nat} {q : Parity} {u : StatusSlot}
    (hu : s.statusOf m q = some u) (hc : u.state ≠ .called) (n : Nat) (p : Parity)
    (f : StatusSlot → StatusSlot) (rep : Report) :
    (s.request n p f rep).statusOf m q = some u := by
  by_cases h : s.isOpen p = false ∨ ∀ v, s.statusOf n p = some v → v.state ≠ .called
  · rw [s.request_ignored h, hu]
  · push Not at h
    obtain ⟨hopen, v, hv, hcalled⟩ := h
    obtain ⟨r, hr, rfl⟩ := Option.map_eq_some_iff.mp hv
    rw [State.statusOf_request hr (by simpa using hopen) hcalled, if_neg, hu]
    rintro ⟨rfl, rfl⟩
    rw [hu] at hv
    exact hc (Option.some.inj hv ▸ hcalled)

theorem KeepsResting.request (s : State) (n : Nat) (p : Parity) (f : StatusSlot → StatusSlot)
    (rep : Report) : KeepsResting s (s.request n p f rep) where
  station hs _ := (station?_congr (by simp) _).trans hs
  clip _ _ _ := s.clip_request n p f rep _
  causes := by simp
  status hu hc := State.statusOf_request_of_ne_called hu hc n p f rep

theorem State.map_causes_putStation {s : State} {k : Nat} {st st' : Station}
    (h : s.station? k = some st) (hc : st'.causes = st.causes) :
    (s.putStation k st').stations.map Station.causes = s.stations.map Station.causes := by
  unfold State.station? at h
  unfold State.putStation
  split
  · rfl
  · rename_i hk
    rw [if_neg hk] at h
    obtain ⟨hlt, rfl⟩ := List.getElem?_eq_some_iff.mp h
    dsimp only
    rw [List.map_set, hc, ← List.map_set, List.set_getElem_self]

/-- The record of a station that has given up its clip. -/
def Station.dropped (st : Station) : Station :=
  { st with committed := st.committed - 1, feed := .idle, work := none, advanceTimer := none }

/-- A drop of a clip that names no placement writes the station and its clip alone. -/
theorem State.dropAt_of_no_call {s : State} {k : Nat} {st : Station} (h : s.station? k = some st)
    (hcall : (s.clip k).call = none) :
    s.dropAt k = (s.putStation k st.dropped).markClip k .dropMissed := by
  simp only [State.dropAt, h, hcall]
  rfl

/-- A drop of a clip that names a placement also sends its recall (R7). -/
theorem State.dropAt_of_call {s : State} {k : Nat} {st : Station} {c : Call}
    (h : s.station? k = some st) (hcall : (s.clip k).call = some c) :
    s.dropAt k =
      ((s.putStation k st.dropped).markClip k .dropMissed).recallUncounted c.placement
        c.parity := by
  simp only [State.dropAt, h, hcall]
  rfl

/-- A drop at a station with a feed in flight touches no other station. -/
theorem KeepsResting.dropAt {s : State} {k : Nat} {st : Station} (h : s.station? k = some st)
    (hf : st.feed ≠ .idle) : KeepsResting s (s.dropAt k) := by
  have hother : ∀ {j : Nat} {u : Station}, s.station? j = some u → u.feed = .idle → j ≠ k := by
    rintro j u hu hidle rfl
    rw [h] at hu
    exact hf (Option.some.inj hu ▸ hidle)
  have hmarked : KeepsResting s ((s.putStation k st.dropped).markClip k .dropMissed) :=
    { station := fun hs hidle => by
        rw [station?_congr (s := s.putStation k st.dropped) (by simp), State.station?_putStation,
          if_neg (fun hk => hother hs hidle hk.1.symm), hs]
      clip := fun _ hs hidle => by
        rw [State.clip_markClip_ne _ (hother hs hidle)]
        exact clip_congr (by simp) _
      causes := by
        have hframe := State.map_causes_putStation h (st' := st.dropped) rfl
        simpa using hframe
      status := fun hu _ => (statusOf_congr (by simp) _ _).trans hu }
  cases hcall : (s.clip k).call with
  | none => rwa [State.dropAt_of_no_call h hcall]
  | some c =>
    rw [State.dropAt_of_call h hcall]
    exact hmarked.trans (.request ..)

theorem KeepsResting.haltFeed (s : State) (k : Nat) : KeepsResting s (s.haltFeed k) := by
  unfold State.haltFeed
  split
  · exact .refl s
  · split
    · exact .refl s
    · exact .dropAt (by assumption) (by assumption)

theorem KeepsResting.foldl {α : Type} {f : State → α → State}
    (h : ∀ s a, KeepsResting s (f s a)) (l : List α) (s : State) :
    KeepsResting s (l.foldl f s) := by
  induction l generalizing s with
  | nil => exact .refl s
  | cons a l ih => exact (h s a).trans (ih (f s a))

/-- The clip cut at 80 lies beneath no station. -/
theorem KeepsResting.interrupt (s : State) : KeepsResting s s.interrupt := by
  have hcut : KeepsResting s (s.putClip 80 ((s.clip 80).emptied .unknown)) :=
    { station := fun hs _ => (station?_congr (by simp) _).trans hs
      clip := fun hk _ _ => s.clip_putClip_ne (by omega) _
      causes := by simp
      status := fun hu _ => (statusOf_congr (by simp) _ _).trans hu }
  unfold State.interrupt
  split
  · dsimp only
    split
    · exact hcut
    · exact hcut.trans (.request ..)
  · exact .refl s

theorem KeepsResting.enterHalted (s : State) : KeepsResting s s.enterHalted := by
  unfold State.enterHalted State.haltBlocks State.haltHead
  generalize hv : ({ s with machine := { state := .halted, returnState := none } } : State) = v
  have hs : KeepsResting s v := by subst hv; exact .of_eq rfl rfl rfl
  have hfeeds : KeepsResting v v.haltFeeds := .foldl .haltFeed stationNumbers v
  have hchain : KeepsResting v.haltFeeds v.haltFeeds.haltIndex.haltExchange :=
    .of_eq (by simp) (by simp) (by simp)
  have hcut := KeepsResting.interrupt v.haltFeeds.haltIndex.haltExchange
  exact (((hs.trans hfeeds).trans hchain).trans hcut).trans
    (.of_eq (by simp) (by simp) (by simp))

theorem KeepsResting.react (s : State) (r : Reaction) : KeepsResting s (s.react r) := by
  cases r with
  | note => exact .refl s
  | pause => exact .of_eq (by simp [State.react]) (by simp [State.react]) (by simp [State.react])
  | halt =>
    change KeepsResting s s.haltIfMoving
    unfold State.haltIfMoving
    split
    · exact .enterHalted s
    · exact .refl s

theorem KeepsResting.raise (s : State) (kind : AlarmKind) (src : Option Source) :
    KeepsResting s (s.raise kind src) :=
  (KeepsResting.of_eq (by simp) (by simp) (by simp)).trans
    (.react (s.raiseRecord kind src) (s.alarm kind).reaction)

theorem KeepsResting.settle (s : State) : KeepsResting s s.settle :=
  .of_eq (by simp) (by simp) (by simp)

/-! ## The lasting conditions after a change of a station (R46, R65) -/

/-- A raising with station `k` as its source, where the station has entered the cause. -/
def State.raiseWhen (s : State) (k : Nat) (kind : AlarmKind) (entered : Bool) : State :=
  if entered then s.raise kind (some (.station k)) else s

theorem KeepsResting.raiseWhen (s : State) (k : Nat) (kind : AlarmKind) (entered : Bool) :
    KeepsResting s (s.raiseWhen k kind entered) := by
  cases entered with
  | false => exact .refl s
  | true => exact .raise s kind _

theorem State.alarm_raiseWhen_ne (s : State) (k : Nat) {kind l : AlarmKind} (h : l ≠ kind)
    (entered : Bool) : (s.raiseWhen k kind entered).alarm l = s.alarm l := by
  cases entered with
  | false => rfl
  | true => exact s.alarm_raise_ne h _

@[simp] theorem State.settings_raiseWhen (s : State) (k : Nat) (kind : AlarmKind)
    (entered : Bool) : (s.raiseWhen k kind entered).settings = s.settings := by
  unfold State.raiseWhen; split <;> simp

theorem State.raiseWhen_of_ne_halt (s : State) (k : Nat) (kind : AlarmKind) {entered : Bool}
    (h : entered = true → (s.alarm kind).reaction ≠ .halt) :
    (s.raiseWhen k kind entered).table = s.table ∧
      (s.raiseWhen k kind entered).boards = s.boards ∧
      (s.raiseWhen k kind entered).stations = s.stations := by
  cases entered with
  | false => exact ⟨rfl, rfl, rfl⟩
  | true =>
    obtain ⟨htable, hboards, hstations, -⟩ := s.raise_of_ne_halt kind (some (.station k)) (h rfl)
    exact ⟨htable, hboards, hstations⟩

/-- Whether station `k`, changed from `a` to `b`, has entered LOW. -/
def Station.entersLow (a b : Station) : Bool := b.low && !a.low

/-- Whether a station, changed from `a` to `b`, has entered the state `m`. -/
def Station.enters (m : StationState) (a b : Station) : Bool :=
  decide (b.state = m ∧ a.state ≠ m)

theorem Station.entersLow_iff (a b : Station) :
    a.entersLow b = true ↔ a.low = false ∧ b.low = true := by
  simp [Station.entersLow, and_comm]

theorem Station.enters_iff (m : StationState) (a b : Station) :
    Station.enters m a b = true ↔ a.state ≠ m ∧ b.state = m := by
  simp [Station.enters, and_comm]

/-- The three lasting kinds judged after station `k` has changed from `a` to `b`: first the ends,
then the raisings. -/
def State.judgeChange (s : State) (k : Nat) (a b : Station) : State :=
  ((s.stationConditions.raiseWhen k .stationLow (a.entersLow b)).raiseWhen k .stationEmpty
    (Station.enters .empty a b)).raiseWhen k .stationSuspect (Station.enters .suspect a b)

theorem State.raiseIfLow_eq {s : State} {k : Nat} {b : Station} (h : s.station? k = some b)
    (a : Station) : s.raiseIfLow k a.low = s.raiseWhen k .stationLow (a.entersLow b) := by
  simp only [State.raiseIfLow, h]
  rfl

theorem State.raiseIfEmptied_eq {s : State} {k : Nat} {b : Station} (h : s.station? k = some b)
    (a : Station) :
    s.raiseIfEmptied k a.state = s.raiseWhen k .stationEmpty (Station.enters .empty a b) := by
  simp [State.raiseIfEmptied, h, State.raiseWhen, Station.enters]

theorem State.raiseIfSuspect_eq {s : State} {k : Nat} {b : Station} (h : s.station? k = some b)
    (a : Station) :
    s.raiseIfSuspect k a.state = s.raiseWhen k .stationSuspect (Station.enters .suspect a b) := by
  simp [State.raiseIfSuspect, h, State.raiseWhen, Station.enters]

theorem State.alarm_endIfNone (s : State) (k l : AlarmKind) (holds : Station → Bool) :
    (s.endIfNone k holds).alarm l =
      if l = k ∧ s.stations.any holds = false then (s.alarm k).ended s.settings.retryInterval
      else s.alarm l := by
  unfold State.endIfNone
  split
  · rename_i h
    simp [h]
  · rename_i h
    simp [h]

/-- Of the lasting conditions, the judgment ends the one of a kind where no station holds it. -/
theorem State.alarm_stationConditions (s : State) :
    s.stationConditions.alarm .stationLow =
        (if s.stations.any (·.low) then s.alarm .stationLow
        else (s.alarm .stationLow).ended s.settings.retryInterval) ∧
      s.stationConditions.alarm .stationEmpty =
        (if s.stations.any (fun st => decide (st.state = .empty)) then s.alarm .stationEmpty
        else (s.alarm .stationEmpty).ended s.settings.retryInterval) ∧
      s.stationConditions.alarm .stationSuspect =
        (if s.stations.any (fun st => decide (st.state = .suspect)) then s.alarm .stationSuspect
        else (s.alarm .stationSuspect).ended s.settings.retryInterval) := by
  simp only [State.stationConditions, State.alarm_endIfNone, State.endIfNone_frame]
  refine ⟨?_, ?_, ?_⟩
  · cases s.stations.any (·.low) <;> simp
  · cases s.stations.any (fun st => decide (st.state = .empty)) <;> simp
  · cases s.stations.any (fun st => decide (st.state = .suspect)) <;> simp

@[simp] theorem AlarmRecord.ended_reaction (r : AlarmRecord) (interval : Nat) :
    (r.ended interval).reaction = r.reaction := by
  unfold AlarmRecord.ended
  split
  · split <;> rfl
  · rfl

@[simp] theorem State.reaction_stationConditions (s : State) (k : AlarmKind) :
    (s.stationConditions.alarm k).reaction = (s.alarm k).reaction := by
  simp only [State.stationConditions, State.alarm_endIfNone]
  split_ifs <;> simp_all

theorem KeepsResting.judgeChange (s : State) (k : Nat) (a b : Station) :
    KeepsResting s (s.judgeChange k a b) := by
  have hconditions : KeepsResting s s.stationConditions := .of_eq (by simp) (by simp) (by simp)
  exact ((hconditions.trans (.raiseWhen ..)).trans (.raiseWhen ..)).trans (.raiseWhen ..)

/-- Without a HALT, the judgment of the lasting conditions changes no record of these. -/
theorem State.judgeChange_of_ne_halt (s : State) (k : Nat) {a b : Station}
    (hlow : a.entersLow b = true → (s.alarm .stationLow).reaction ≠ .halt)
    (hempty : Station.enters .empty a b = true → (s.alarm .stationEmpty).reaction ≠ .halt)
    (hsuspect : Station.enters .suspect a b = true → (s.alarm .stationSuspect).reaction ≠ .halt) :
    (s.judgeChange k a b).table = s.table ∧ (s.judgeChange k a b).boards = s.boards ∧
      (s.judgeChange k a b).stations = s.stations := by
  unfold State.judgeChange
  generalize hv : s.stationConditions = v
  have hreaction : ∀ l, (v.alarm l).reaction = (s.alarm l).reaction := by simp [← hv]
  have hframe : v.table = s.table ∧ v.boards = s.boards ∧ v.stations = s.stations := by
    simp [← hv]
  obtain ⟨htable, hboards, hstations⟩ := hframe
  obtain ⟨htable₁, hboards₁, hstations₁⟩ := v.raiseWhen_of_ne_halt k .stationLow
    (entered := a.entersLow b) (by rwa [hreaction])
  obtain ⟨htable₂, hboards₂, hstations₂⟩ :=
    (v.raiseWhen k .stationLow (a.entersLow b)).raiseWhen_of_ne_halt k .stationEmpty
      (entered := Station.enters .empty a b)
      (by rwa [State.alarm_raiseWhen_ne _ _ (by decide), hreaction])
  obtain ⟨htable₃, hboards₃, hstations₃⟩ :=
    ((v.raiseWhen k .stationLow (a.entersLow b)).raiseWhen k .stationEmpty
      (Station.enters .empty a b)).raiseWhen_of_ne_halt k .stationSuspect
      (entered := Station.enters .suspect a b)
      (by rwa [State.alarm_raiseWhen_ne _ _ (by decide), State.alarm_raiseWhen_ne _ _ (by decide),
        hreaction])
  exact ⟨by rw [htable₃, htable₂, htable₁, htable], by rw [hboards₃, hboards₂, hboards₁, hboards],
    by rw [hstations₃, hstations₂, hstations₁, hstations]⟩

/-- A lasting kind is judged where its record stands or has ended by what the stations hold, and is
then raised at an entry. -/
theorem causeJudged_of_raiseWhen {s x t : State} {k : Nat} {kind : AlarmKind} {e : Bool}
    {entered : Prop} {holds : Station → Prop} {test : Station → Bool}
    (htest : ∀ st, test st = true ↔ holds st) (he : e = true ↔ entered)
    (hstands : e = true → t.stations.any test = true)
    (hx : x.alarm kind = if t.stations.any test then s.alarm kind
      else (s.alarm kind).ended s.settings.retryInterval)
    (hsettings : x.settings = s.settings)
    (ht : t.alarm kind = (x.raiseWhen k kind e).alarm kind) :
    CauseJudged s t k kind entered holds := by
  have hany : t.stations.any test = true ↔ ∃ st ∈ t.stations, holds st := by simp [htest]
  have hkept : ¬ entered → t.alarm kind = x.alarm kind := fun h => by
    rw [ht, eq_false_of_ne_true (mt he.mp h)]
    rfl
  refine ⟨fun h => ?raised, fun h hholds => ?stands, fun h hnone => ?ends⟩
  case raised =>
    have h' := he.mpr h
    rw [hstands h', if_pos rfl] at hx
    refine raised_congr hx (by rw [hsettings]) (raised_of_alarm ?_)
    rw [ht, h']
    exact alarm_congr (x.alarms_raise kind _) kind
  case stands => rw [hkept h, hx, if_pos (hany.mpr hholds)]
  case ends =>
    have hnot : ¬ t.stations.any test = true :=
      hany.not.mpr fun ⟨st, hmem, hst⟩ => hnone st hmem hst
    rw [Ended, hkept h, hx, if_neg hnot]
    rfl

theorem State.mem_of_station? {s : State} {k : Nat} {st : Station} (h : s.station? k = some st) :
    st ∈ s.stations := by
  unfold State.station? at h
  split at h
  · cases h
  · exact List.mem_of_getElem? h

/-- The judgment of the lasting conditions, in the words of the statements (R46, R65). -/
theorem causesJudged_judgeChange {s u : State} {k : Nat} {a b : Station}
    (halarms : u.alarms = s.alarms) (hsettings : u.settings = s.settings)
    (hb : u.station? k = some b) : CausesJudged s (u.judgeChange k a b).settle k a b := by
  have hmem := State.mem_of_station? hb
  have hkeeps : KeepsResting u (u.judgeChange k a b).settle :=
    (KeepsResting.judgeChange u k a b).trans (.settle _)
  have hsettled : ∀ kind, (u.judgeChange k a b).settle.alarm kind =
      (u.judgeChange k a b).alarm kind := alarm_congr (by simp)
  obtain ⟨hlow, hempty, hsuspect⟩ := u.alarm_stationConditions
  simp only [alarm_congr halarms, hsettings] at hlow hempty hsuspect
  refine ⟨?low, ?empty, ?suspect⟩
  case low =>
    have hany := hkeeps.any_eq Prod.fst
    refine causeJudged_of_raiseWhen (x := u.stationConditions) (test := (·.low))
      (fun _ => Iff.rfl) (a.entersLow_iff b) (fun h => ?_) ?_ (by simp [hsettings]) ?_
    · exact hany.trans (List.any_eq_true.mpr ⟨b, hmem, ((a.entersLow_iff b).mp h).2⟩)
    · exact hany ▸ hlow
    · rw [hsettled, State.judgeChange, State.alarm_raiseWhen_ne _ _ (by decide),
        State.alarm_raiseWhen_ne _ _ (by decide)]
  case empty =>
    have hany := hkeeps.any_eq fun c => decide (c.2 = .empty)
    refine causeJudged_of_raiseWhen
      (x := u.stationConditions.raiseWhen k .stationLow (a.entersLow b))
      (test := fun st => decide (st.state = .empty)) (fun _ => decide_eq_true_iff)
      (Station.enters_iff .empty a b) (fun h => ?_) ?_ (by simp [hsettings]) ?_
    · exact hany.trans (List.any_eq_true.mpr
        ⟨b, hmem, decide_eq_true ((Station.enters_iff .empty a b).mp h).2⟩)
    · rw [State.alarm_raiseWhen_ne _ _ (by decide)]
      exact hany ▸ hempty
    · rw [hsettled, State.judgeChange, State.alarm_raiseWhen_ne _ _ (by decide)]
  case suspect =>
    have hany := hkeeps.any_eq fun c => decide (c.2 = .suspect)
    refine causeJudged_of_raiseWhen
      (x := (u.stationConditions.raiseWhen k .stationLow (a.entersLow b)).raiseWhen k .stationEmpty
        (Station.enters .empty a b))
      (test := fun st => decide (st.state = .suspect)) (fun _ => decide_eq_true_iff)
      (Station.enters_iff .suspect a b) (fun h => ?_) ?_ (by simp [hsettings]) ?_
    · exact hany.trans (List.any_eq_true.mpr
        ⟨b, hmem, decide_eq_true ((Station.enters_iff .suspect a b).mp h).2⟩)
    · rw [State.alarm_raiseWhen_ne _ _ (by decide), State.alarm_raiseWhen_ne _ _ (by decide)]
      exact hany ▸ hsuspect
    · rw [hsettled, State.judgeChange]

/-! ## The edge of SPROCKET (R51, R59) -/

theorem exec_sprocketEdge {s : State} (hl : Live s) {k : Nat} (h1 : 1 ≤ k) (h72 : k ≤ 72)
    (pocket : Bool) : exec (.sprocketEdge k pocket) s = .next (s.sprocket k pocket) := by
  change execSprocketEdge k pocket s = _
  rw [execSprocketEdge, if_pos ⟨h1, h72⟩, event_live hl]

theorem State.sprocket_ignored {s : State} {k : Nat} {st : Station} (h : s.station? k = some st)
    (hf : st.feed ≠ .advancing) (pocket : Bool) : s.sprocket k pocket = s := by
  simp only [State.sprocket, h]
  split
  · contradiction
  · rfl

theorem State.sprocket_advancing {s : State} {k : Nat} {st : Station} {w : FeedWork}
    (h : s.station? k = some st) (hf : st.feed = .advancing) (hw : st.work = some w)
    (pocket : Bool) :
    s.sprocket k pocket =
      if pocket then (s.fedOutcome k st).settle
      else if s.mayRetry st w then s.putStation k (st.retried w)
      else (s.missOutcome k st).settle := by
  simp only [State.sprocket, h, hf, hw]

theorem State.mayRetry_iff (s : State) (st : Station) (w : FeedWork) :
    s.mayRetry st w = true ↔
      st.retriesUsed < w.retryLimit ∧ s.chain.indexState ≠ .requested ∧
        (s.machine.state = .running ∨ s.machine.state = .draining) := by
  simp [State.mayRetry, State.working_iff, and_assoc]

theorem State.station?_putStation_self {s : State} {k : Nat} {st : Station}
    (h : s.station? k = some st) (st' : Station) : (s.putStation k st').station? k = some st' := by
  unfold State.station? at h
  split at h
  · cases h
  · have hlt := (List.getElem?_eq_some_iff.mp h).1
    rw [State.station?_putStation, if_pos ⟨rfl, by omega, by omega⟩]

theorem State.station?_putStation_ne (s : State) {k j : Nat} (h : j ≠ k) (st : Station) :
    (s.putStation k st).station? j = s.station? j := by
  rw [State.station?_putStation, if_neg fun hk => h hk.1.symm]

/-! ## FED (R52) -/

/-- The record of a station after a FED outcome, LOW set anew (R46, R52). -/
def Station.afterFed (st : Station) : Station := { st.fed with low := st.fed.lowFlag }

/-- A FED outcome before the lasting conditions are judged. -/
def State.fedRecords (s : State) (k : Nat) (st : Station) : State :=
  (s.markClip k .loaded).putStation k st.afterFed

@[simp] theorem State.fedRecords_frame (s : State) (k : Nat) (st : Station) :
    (s.fedRecords k st).table = s.table ∧ (s.fedRecords k st).alarms = s.alarms ∧
      (s.fedRecords k st).settings = s.settings := by
  simp [State.fedRecords]

theorem State.station?_fedRecords {s : State} {k : Nat} {st : Station}
    (h : s.station? k = some st) : (s.fedRecords k st).station? k = some st.afterFed :=
  State.station?_putStation_self ((station?_congr (by simp) k).trans h) _

theorem State.station?_fedRecords_ne (s : State) {k j : Nat} (h : j ≠ k) (st : Station) :
    (s.fedRecords k st).station? j = s.station? j :=
  (State.station?_putStation_ne _ h _).trans (station?_congr (by simp) j)

theorem State.clip_fedRecords {s : State} {k : Nat} (hk : k < s.stretch.length) (st : Station) :
    (s.fedRecords k st).clip k = { s.clip k with state := .loaded } := by
  rw [clip_congr (s := s.markClip k .loaded) (by simp [State.fedRecords]), State.markClip,
    State.clip_putClip, if_pos ⟨rfl, hk⟩]

/-- A FED outcome enters SUSPECT from no state (R52). -/
theorem Station.not_enters_suspect_afterFed (st : Station) :
    Station.enters .suspect st st.afterFed = false := by
  rw [← Bool.not_eq_true, Station.enters_iff]
  rintro ⟨hbefore, hafter⟩
  simp only [Station.afterFed, Station.fed] at hafter
  split at hafter
  · cases hafter
  · exact hbefore hafter

theorem State.fedOutcome_eq {s : State} {k : Nat} {st : Station} (h : s.station? k = some st) :
    s.fedOutcome k st = (s.fedRecords k st).judgeChange k st st.afterFed := by
  have hconditions : (s.fedRecords k st).stationConditions.station? k = some st.afterFed :=
    (station?_congr (by simp) k).trans (State.station?_fedRecords h)
  have hlow := (KeepsResting.raiseWhen _ k .stationLow (st.entersLow st.afterFed)).station
    hconditions rfl
  rw [State.fedOutcome, State.judgeChange, Station.not_enters_suspect_afterFed]
  change ((s.fedRecords k st).stationConditions.raiseIfLow k st.low).raiseIfEmptied k st.state = _
  rw [State.raiseIfLow_eq hconditions, State.raiseIfEmptied_eq hlow]
  rfl

/-! ## MISS (R7, R54, R55) -/

/-- The record of a station after a MISS outcome (R54, R55). -/
def Station.afterMiss (st : Station) : Station :=
  { st.dropped.missed with state := st.dropped.missed.judgedState }

/-- A MISS outcome before the lasting conditions are judged. -/
def State.missRecords (s : State) (k : Nat) (st : Station) : State :=
  (s.dropAt k).putStation k st.afterMiss

/-- A MISS changes no record of the table or of the boards but by its drop. -/
@[simp] theorem State.missRecords_frame (s : State) (k : Nat) (st : Station) :
    (s.missRecords k st).table = (s.dropAt k).table ∧
      (s.missRecords k st).boards = (s.dropAt k).boards ∧
      (s.missRecords k st).alarms = s.alarms ∧ (s.missRecords k st).settings = s.settings := by
  simp [State.missRecords]

theorem State.station?_dropAt_self {s : State} {k : Nat} {st : Station}
    (h : s.station? k = some st) : (s.dropAt k).station? k = some st.dropped := by
  rw [State.station?_dropAt, if_pos rfl, h]
  rfl

theorem State.station?_missRecords {s : State} {k : Nat} {st : Station}
    (h : s.station? k = some st) : (s.missRecords k st).station? k = some st.afterMiss :=
  State.station?_putStation_self (State.station?_dropAt_self h) _

theorem State.clip_missRecords {s : State} {k : Nat} {st : Station} (h : s.station? k = some st)
    (hk : k < s.stretch.length) :
    (s.missRecords k st).clip k = { s.clip k with state := .dropMissed } := by
  rw [clip_congr (s := s.dropAt k) (by simp [State.missRecords]), State.clip_dropAt s h hk,
    if_pos rfl]

/-- A MISS outcome sets no flag of LOW anew. -/
theorem Station.not_entersLow_afterMiss (st : Station) : st.entersLow st.afterMiss = false := by
  change (st.low && !st.low) = false
  simp

theorem State.missOutcome_eq {s : State} {k : Nat} {st : Station} (h : s.station? k = some st) :
    s.missOutcome k st = (s.missRecords k st).judgeChange k st st.afterMiss := by
  have hconditions : (s.missRecords k st).stationConditions.station? k = some st.afterMiss :=
    (station?_congr (by simp) k).trans (State.station?_missRecords h)
  have hempty := (KeepsResting.raiseWhen _ k .stationEmpty
    (Station.enters .empty st st.afterMiss)).station hconditions rfl
  simp only [State.missOutcome, State.station?_dropAt_self h]
  rw [State.judgeChange, Station.not_entersLow_afterMiss]
  change ((s.missRecords k st).stationConditions.raiseIfEmptied k st.state).raiseIfSuspect k
    st.state = _
  rw [State.raiseIfEmptied_eq hconditions, State.raiseIfSuspect_eq hempty]
  rfl

/-- The recall of a drop finds the placement that the clip named, and CALLED (R7, R12). -/
theorem State.recall_dropAt {s : State} {k : Nat} {st : Station} {c : Call} {u : StatusSlot}
    (h : s.station? k = some st) (hcall : (s.clip k).call = some c) (hu : CalledFor s c u) :
    (s.dropAt k).statusOf c.placement c.parity = some { u with state := .callable } ∧
      ((s.dropAt k).board c.parity).recalls = min 65535 ((s.board c.parity).recalls + 1) := by
  obtain ⟨hopen, hstatus, hcalled⟩ := hu
  obtain ⟨r, hr, rfl⟩ := Option.map_eq_some_iff.mp hstatus
  have hdrop := State.dropAt_of_call h hcall
  generalize hv : (s.putStation k st.dropped).markClip k .dropMissed = v at hdrop
  have htable : v.table = s.table := by simp [← hv]
  have hboards : v.boards = s.boards := by simp [← hv]
  have hr' : v.slot? c.placement = some r := (slot?_congr htable _).trans hr
  have hopen' : v.isOpen c.parity = true := (State.isOpen_congr hboards _).trans hopen
  rw [hdrop, State.recallUncounted]
  refine ⟨?_, ?_⟩
  · rw [State.statusOf_request hr' hopen' hcalled, if_pos ⟨rfl, rfl⟩]
  · rw [(v.board_request hr' hopen' hcalled _ .returned).1, board_congr hboards]
    rfl

end Sys2Proof.Machine

open Sys2Proof Sys2Proof.Machine

/-- Settles O31: each outcome writes the station and its clip, and only then judges the lasting
conditions; a reaction leaves both, since the feed has ended (`KeepsResting`). -/
theorem sprocketEdgeEndsTheAdvance : Obligations.SprocketEdgeEndsTheAdvance := by
  refine ⟨?fedOrIgnored, ?emptyPocket⟩
  case fedOrIgnored =>
    intro k pocket s st hl hshape h1 h72 hst
    rw [exec_sprocketEdge hl h1 h72]
    refine ⟨fun w hpocket hf hw => ?fed, fun hf => by rw [State.sprocket_ignored hst hf]⟩
    case fed =>
      obtain ⟨-, -, hstretch, -⟩ := hshape
      have hrecord := State.station?_fedRecords hst
      have hkeeps := (KeepsResting.judgeChange (s.fedRecords k st) k st st.afterFed).trans
        (.settle _)
      rw [State.sprocket_advancing hst hf hw, if_pos hpocket, State.fedOutcome_eq hst]
      refine ⟨_, st.afterFed, rfl, hkeeps.station hrecord rfl, rfl, ?low, ?causes,
        fun hlow hempty => ?frame⟩
      case low => simp [Station.afterFed, Station.lowFlag, Station.fed]
      case causes =>
        exact causesJudged_judgeChange (by simp) (by simp) hrecord
      case frame =>
        have halarm : ∀ kind, (s.fedRecords k st).alarm kind = s.alarm kind :=
          alarm_congr (by simp)
        obtain ⟨htable, -, hstations⟩ := (s.fedRecords k st).judgeChange_of_ne_halt k
          (a := st) (b := st.afterFed) (fun _ => by rwa [halarm]) (fun _ => by rwa [halarm])
          (by simp [Station.not_enters_suspect_afterFed])
        refine ⟨?clip, ?table, fun j _ _ hj => ?others⟩
        case clip =>
          rw [hkeeps.clip h72 hrecord rfl, State.clip_fedRecords (by omega)]
        case table => simp [htable]
        case others =>
          rw [station?_congr (by simpa using hstations), State.station?_fedRecords_ne s hj]
  case emptyPocket =>
    intro k s st w hl hshape h1 h72 hst hf hw
    rw [exec_sprocketEdge hl h1 h72, State.sprocket_advancing hst hf hw, if_neg (by decide)]
    refine ⟨fun hmay => ?retry, fun hmayNot => ?miss⟩
    case retry =>
      rw [if_pos ((s.mayRetry_iff st w).mpr hmay)]
      rfl
    case miss =>
      obtain ⟨-, -, hstretch, -⟩ := hshape
      have hno : ¬ s.mayRetry st w = true := by
        rw [State.mayRetry_iff]
        rintro ⟨hlimit, hindex, hmachine⟩
        rcases hmayNot with hused | hrequested | ⟨hrunning, hdraining⟩
        · omega
        · exact hindex hrequested
        · exact hmachine.elim hrunning hdraining
      have hrecord := State.station?_missRecords hst
      have hkeeps := (KeepsResting.judgeChange (s.missRecords k st) k st st.afterMiss).trans
        (.settle _)
      have hclip := (hkeeps.clip h72 hrecord rfl).trans
        (State.clip_missRecords hst (by omega))
      rw [if_neg hno, State.missOutcome_eq hst]
      refine ⟨_, st.afterMiss, rfl, hkeeps.station hrecord rfl, rfl, ?causes,
        by rw [hclip], by rw [hclip], fun c u hcall hu => ?recalled⟩
      case causes =>
        exact causesJudged_judgeChange (by simp) (by simp) hrecord
      case recalled =>
        obtain ⟨hstatus, hrecalls⟩ := State.recall_dropAt hst hcall hu
        refine ⟨hkeeps.status ((statusOf_congr (by simp) _ _).trans hstatus)
          (by simp), fun hempty hsuspect => ?_⟩
        have halarm : ∀ kind, (s.missRecords k st).alarm kind = s.alarm kind :=
          alarm_congr (by simp)
        obtain ⟨-, hboards, -⟩ := (s.missRecords k st).judgeChange_of_ne_halt k (a := st)
          (b := st.afterMiss) (by simp [Station.not_entersLow_afterMiss])
          (fun _ => by rwa [halarm]) (fun _ => by rwa [halarm])
        rw [board_congr (s := s.dropAt k) (by simp [hboards]), hrecalls]

end

section
/-! PROOFS. The home mark at an index completion (spec 05, R95 and R98 to R103). First what the
judgment does to the chain record in each sync state, then that nothing after the shift reaches the
tracking, the clip ids or the CHAIN_SYNC record. -/

namespace Sys2Proof.Machine

theorem exec_indexCompletion {s : State} (hl : Live s) (present leads : Bool)
    (order : List Reactor) :
    exec (.indexCompletion present leads order) s =
      .next (s.indexCompletion present leads order) :=
  event_live hl _

/-! ## The judgment in each sync state (R99 to R101) -/

/-- The chain record as the mark is judged: the index has ended and the counter has risen (R95). -/
def Chain.risen (c : Chain) : Chain :=
  { c with indexState := .idle, indexTimer := none, counter := (c.counter + 1) % 200 }

section
variable {c : Chain} (nf nb : Nat)

theorem Chain.completed_unlocked_unmarked (hsync : c.syncState = .unlocked)
    (hmark : c.markSeen = false) : c.completed nf nb = c.risen.keeps := by
  simp [Chain.completed, Chain.judgeUnlocked, Chain.risen, hsync, hmark]

theorem Chain.completed_unlocked_marked (hsync : c.syncState = .unlocked)
    (hmark : c.markSeen = true) :
    c.completed nf nb =
      if nb ≤ 1 then c.risen.locks
      else Chain.keeps { c.risen with counter := 0, candidateRun := 1, syncState := .locking } := by
  simp [Chain.completed, Chain.judgeUnlocked, Chain.risen, hsync, hmark]

theorem Chain.completed_locking_expected (hsync : c.syncState = .locking)
    (hmark : c.markSeen = true) (hzero : (c.counter + 1) % 200 = 0) :
    c.completed nf nb =
      if nb ≤ saturate 7 c.candidateRun then c.risen.locks
      else Chain.keeps { c.risen with candidateRun := saturate 7 c.candidateRun } := by
  simp [Chain.completed, Chain.judgeLocking, Chain.risen, hsync, hmark, hzero]

theorem Chain.completed_locking_inserted (hsync : c.syncState = .locking)
    (hmark : c.markSeen = true) (hzero : (c.counter + 1) % 200 ≠ 0) :
    c.completed nf nb = Chain.keeps { c.risen with counter := 0, candidateRun := 1 } := by
  simp [Chain.completed, Chain.judgeLocking, Chain.risen, hsync, hmark, hzero]

theorem Chain.completed_locking_unmarked (hsync : c.syncState = .locking)
    (hmark : c.markSeen = false) :
    c.completed nf nb =
      if (c.counter + 1) % 200 = 0 then
        Chain.keeps { c.risen with syncState := .unlocked, candidateRun := 0 }
      else c.risen.keeps := by
  simp [Chain.completed, Chain.judgeLocking, Chain.risen, hsync, hmark]

theorem Chain.completed_locked_missed (hsync : c.syncState = .locked) (hmark : c.markSeen = false)
    (hzero : (c.counter + 1) % 200 = 0) :
    c.completed nf nb =
      if nf ≤ saturate 7 c.missRun then
        { chain :=
            { c.risen with syncState := .unlocked, missRun := 0, tolerance := 0, candidateRun := 0 }
          ids := .absent
          lost := true }
      else
        Chain.keeps
          { c.risen with
            missRun := saturate 7 c.missRun, tolerance := saturate 3 c.tolerance } := by
  simp [Chain.completed, Chain.judgeLocked, Chain.risen, hsync, hmark, hzero]

theorem Chain.completed_locked_between (hsync : c.syncState = .locked)
    (hmark : c.markSeen = false) (hzero : (c.counter + 1) % 200 ≠ 0) :
    c.completed nf nb = c.risen.keeps := by
  simp [Chain.completed, Chain.judgeLocked, Chain.risen, hsync, hmark, hzero]

theorem Chain.withinTolerance_iff {c : Chain} (h : c.counter < 200) :
    c.withinTolerance = true ↔
      (1 ≤ c.counter ∧ c.counter ≤ c.tolerance) ∨ 200 - c.tolerance ≤ c.counter := by
  simp only [Chain.withinTolerance, Bool.or_eq_true, Bool.and_eq_true, decide_eq_true_iff]
  omega

theorem Chain.completed_locked_expected (hsync : c.syncState = .locked)
    (hmark : c.markSeen = true) (hzero : (c.counter + 1) % 200 = 0) :
    c.completed nf nb = Chain.keeps { c.risen with missRun := 0, tolerance := 0 } := by
  simp [Chain.completed, Chain.judgeLocked, Chain.risen, hsync, hmark, hzero]

theorem Chain.completed_locked_inserted (hsync : c.syncState = .locked)
    (hmark : c.markSeen = true) (hzero : (c.counter + 1) % 200 ≠ 0) :
    c.completed nf nb =
      if c.risen.withinTolerance then
        { chain := { c.risen with counter := 0, missRun := 0, tolerance := 0 }
          ids := .given
          lost := false }
      else c.risen.keeps := by
  simp [Chain.completed, Chain.judgeLocked, Chain.risen, hsync, hmark, hzero]

end

/-- What a judgment can do to the lock and to the clip ids, with the side of the lock on which the
chain stands before it. -/
inductive Chain.Judged (c : Chain) : MarkJudgment → Prop where
  | reached (hc : c.syncState ≠ .locked) : c.Judged c.risen.locks
  | outside {d : Chain} (hc : c.syncState ≠ .locked) (hd : d.syncState ≠ .locked) :
      c.Judged d.keeps
  | within {d : Chain} (hc : c.syncState = .locked) (hd : d.syncState = .locked)
      (hcounter : d.counter = (c.counter + 1) % 200) : c.Judged d.keeps
  | corrected {d : Chain} (hc : c.syncState = .locked) (hd : d.syncState = .locked) :
      c.Judged { chain := d, ids := .given, lost := false }
  | lost {d : Chain} (hc : c.syncState = .locked) (hd : d.syncState ≠ .locked) :
      c.Judged { chain := d, ids := .absent, lost := true }

theorem Chain.judged_completed (c : Chain) (nf nb : Nat) : c.Judged (c.completed nf nb) := by
  by_cases hlocked : c.syncState = .locked
  · have hrisen : c.risen.syncState = .locked := hlocked
    by_cases hzero : (c.counter + 1) % 200 = 0 <;> cases hmark : c.markSeen
    · rw [Chain.completed_locked_missed nf nb hlocked hmark hzero]
      split
      · exact .lost hlocked (by simp)
      · exact .within hlocked hrisen rfl
    · rw [Chain.completed_locked_expected nf nb hlocked hmark hzero]
      exact .within hlocked hrisen rfl
    · rw [Chain.completed_locked_between nf nb hlocked hmark hzero]
      exact .within hlocked hrisen rfl
    · rw [Chain.completed_locked_inserted nf nb hlocked hmark hzero]
      split
      · exact .corrected hlocked hrisen
      · exact .within hlocked hrisen rfl
  · have hrisen : c.risen.syncState ≠ .locked := hlocked
    cases hsync : c.syncState <;> cases hmark : c.markSeen
    case unlocked.false =>
      rw [Chain.completed_unlocked_unmarked nf nb hsync hmark]
      exact .outside hlocked hrisen
    case unlocked.true =>
      rw [Chain.completed_unlocked_marked nf nb hsync hmark]
      split
      · exact .reached hlocked
      · exact .outside hlocked (by simp)
    case locking.false =>
      rw [Chain.completed_locking_unmarked nf nb hsync hmark]
      split
      · exact .outside hlocked (by simp)
      · exact .outside hlocked hrisen
    case locking.true =>
      by_cases hzero : (c.counter + 1) % 200 = 0
      · rw [Chain.completed_locking_expected nf nb hsync hmark hzero]
        split
        · exact .reached hlocked
        · exact .outside hlocked hrisen
      · rw [Chain.completed_locking_inserted nf nb hsync hmark hzero]
        exact .outside hlocked hrisen
    all_goals contradiction

/-- A chain comes to LOCKED by reaching it alone (R99, R100). -/
theorem Chain.Judged.eq_locks {c : Chain} {j : MarkJudgment} (h : c.Judged j)
    (hbefore : c.syncState ≠ .locked) (hafter : j.chain.syncState = .locked) :
    j = c.risen.locks := by
  cases h with
  | reached => rfl
  | outside _ hd => exact absurd hafter hd
  | within hc => contradiction
  | corrected hc => contradiction
  | lost hc => contradiction

/-! ## The clip ids after the shift (R70, R103) -/

theorem Chain.idAt_locked {c : Chain} (h : c.syncState = .locked) (p : Nat) :
    c.idAt p = some (clipIdAt c.counter p) := by
  simp [Chain.idAt, clipIdAt, h]

theorem Chain.idAt_of_ne_locked {c : Chain} (h : c.syncState ≠ .locked) (p : Nat) :
    c.idAt p = none := by
  unfold Chain.idAt
  split
  · contradiction
  · rfl

/-- One position further at one count more is the same id. -/
theorem clipIdAt_succ (counter : Nat) {p : Nat} (hp : p < 80) :
    clipIdAt ((counter + 1) % 200) (p + 1) = clipIdAt counter p := by
  unfold clipIdAt
  omega

/-- Every clip record holds the id that R103 gives its position. -/
def IdsHold (c : Chain) (l : List Clip) : Prop :=
  ∀ (p : Nat) (e : Clip), l[p]? = some e → e.clipId = c.idAt p

theorem idsHold_giveIds {c : Chain} (h : c.syncState = .locked) (l : List Clip) :
    IdsHold c (giveIds c.counter l) := by
  intro p e he
  simp only [giveIds, List.getElem?_map, List.getElem?_zipIdx, Option.map_map,
    Option.map_eq_some_iff] at he
  obtain ⟨x, -, rfl⟩ := he
  simp [Chain.idAt_locked h]

theorem idsHold_absent {c : Chain} (h : c.syncState ≠ .locked) (l : List Clip) :
    IdsHold c (l.map fun e => { e with clipId := none }) := by
  intro p e he
  rw [List.getElem?_map, Option.map_eq_some_iff] at he
  obtain ⟨x, -, rfl⟩ := he
  rw [Chain.idAt_of_ne_locked h]

/-- The record at position 0 is new, and the others come from one position below. -/
theorem idsHold_shifted {c d : Chain} {l : List Clip} (hlength : l.length ≤ 81)
    (hentering : (enteringClip d).clipId = d.idAt 0)
    (hmoved : ∀ p, p < 80 → d.idAt (p + 1) = c.idAt p) (hl : IdsHold c l) :
    IdsHold d (shifted d l) := by
  intro p e he
  rw [shifted, List.getElem?_take] at he
  split at he
  next hp =>
    cases p with
    | zero =>
      obtain rfl : enteringClip d = e := by simpa using he
      exact hentering
    | succ p => rw [hl p e (by simpa using he), hmoved p (by omega)]
  next => cases he

/-- Ids that only move up with their clips stay right; others are given or taken with the lock. -/
theorem Chain.Judged.idsHold {c : Chain} {j : MarkJudgment} {l : List Clip} (h : c.Judged j)
    (hlength : l.length ≤ 81) (hl : IdsHold c l) : IdsHold j.chain (shiftedWithIds j l) := by
  cases h with
  | reached => exact idsHold_giveIds rfl _
  | @outside d hc hd =>
    have hnone : ∀ p, d.idAt p = none := Chain.idAt_of_ne_locked hd
    exact idsHold_shifted hlength ((if_neg hd).trans (hnone 0).symm)
      (fun p _ => (hnone _).trans (Chain.idAt_of_ne_locked hc p).symm) hl
  | @within d hc hd hcounter =>
    refine idsHold_shifted (d := d) hlength ?entering (fun p hp => ?moved) hl
    case entering =>
      have hlt : d.counter < 200 := hcounter ▸ Nat.mod_lt _ (by decide)
      simp [enteringClip, hd, Chain.idAt_locked hd, clipIdAt, Nat.mod_eq_of_lt hlt]
    case moved =>
      rw [Chain.idAt_locked hc, Chain.idAt_locked hd, hcounter, clipIdAt_succ c.counter hp]
  | corrected _ hd => exact idsHold_giveIds hd _
  | lost _ hd => exact idsHold_absent hd _

/-- The judgment that this completion makes (R95). -/
def State.markJudgment (s : State) : MarkJudgment :=
  s.chain.completed s.settings.forwardProtection s.settings.backwardProtection

theorem State.chain_shift_eq (s : State) : s.shift.chain = s.markJudgment.chain := s.chain_shift

/-- The shift leaves every record with the id of its new position. -/
theorem State.idsHold_shift {s : State} (h : ChainHolds s) :
    IdsHold s.shift.chain s.shift.stretch := by
  obtain ⟨-, hlength, hids⟩ := h
  rw [s.chain_shift, s.stretch_shift]
  exact (s.chain.judged_completed _ _).idsHold hlength.le hids

/-! ## After the shift nothing writes an id -/

theorem State.clipIds_assign (s : State) (p : Parity) (n k : Nat) :
    (s.assign p n k).clipIds = s.clipIds := by
  have hcall : ∀ u : State, (u.callRequest n p).clipIds = u.clipIds := fun u =>
    clipIds_congr (by simp)
  exact (hcall _).trans (s.clipIds_putClip 0 _ rfl)

theorem State.clipIds_scanFrom (s : State) (fuel : Nat) (l : List Nat) :
    (s.scanFrom fuel l).1.clipIds = s.clipIds := by
  induction fuel generalizing l with
  | zero => rfl
  | succ fuel ih =>
    unfold State.scanFrom
    split
    · rfl
    · split
      · rfl
      · split
        next hcommit =>
          obtain ⟨st, -, -, rfl⟩ := s.commit_eq _ hcommit
          rw [State.clipIds_assign]
          exact clipIds_congr (by simp)
        next => exact ih _

theorem State.clipIds_callScan (s : State) : s.callScan.1.clipIds = s.clipIds := by
  have hscan := s.clipIds_scanFrom (Config.stationCount + 1) []
  unfold State.callScan
  split
  · split
    next hfrom =>
      rw [hfrom] at hscan
      exact (clipIds_congr (by simp)).trans hscan
    next hfrom => rwa [hfrom] at hscan
  · rfl

theorem State.clipIds_stationReacts (s : State) (k : Nat) :
    (s.stationReacts k).clipIds = s.clipIds := by
  unfold State.stationReacts
  split
  · split
    · rfl
    · split
      · exact s.clipIds_dropAt k
      · split
        · exact clipIds_congr (by unfold State.takeOn; split <;> simp)
        · exact clipIds_congr (by simp)
  · rfl

theorem State.clipIds_writeJudgment (s : State) (c : ClipState) (j : Judgment) :
    (s.writeJudgment c j).clipIds = s.clipIds := s.clipIds_putClip _ _ rfl

theorem State.clipIds_judgeUncarried (s : State) (present : Bool) :
    (s.judgeUncarried present).clipIds = s.clipIds := by
  unfold State.judgeUncarried
  split <;> exact s.clipIds_writeJudgment _ _

theorem State.clipIds_countedRecallOf (s : State) (c : Option Call) :
    (s.countedRecallOf c).1.clipIds = s.clipIds := clipIds_congr (by simp)

theorem State.clipIds_verifyReacts (s : State) (present leads : Bool) :
    (s.verifyReacts present leads).1.clipIds = s.clipIds := by
  have hreport : ∀ id j, (s.reportCondition id j).clipIds = s.clipIds := fun id j =>
    clipIds_congr (by simp)
  unfold State.verifyReacts
  split
  case h_1 =>
    dsimp only
    split
    · rw [State.clipIds_writeJudgment, hreport]
    · rw [State.clipIds_countedRecallOf, State.clipIds_writeJudgment, hreport]
  case h_5 => rfl
  all_goals exact s.clipIds_judgeUncarried present

theorem State.clipIds_gateReacts (s : State) : s.gateReacts.clipIds = s.clipIds := by
  have heject : s.eject.clipIds = s.clipIds := clipIds_congr (by simp)
  unfold State.gateReacts
  split
  case h_3 =>
    split
    · rfl
    · split
      · rfl
      · rw [State.recallDeferral, State.clipIds_request, State.clipIds_markClip, heject]
  case h_4 => rfl
  all_goals rw [State.clipIds_markClip, heject]

theorem State.clipIds_plannerReacts (s : State) : s.plannerReacts.clipIds = s.clipIds := by
  unfold State.plannerReacts
  split
  · exact clipIds_congr (by simp)
  · split
    · rfl
    · split
      · rfl
      · exact s.clipIds_planInsert _ _
  · rfl

theorem State.clipIds_reacts (s : State) (present leads : Bool) (r : Reactor) :
    (s.reacts present leads r).1.clipIds = s.clipIds := by
  cases r with
  | scan => exact s.clipIds_callScan
  | station k => exact s.clipIds_stationReacts k
  | verify => exact s.clipIds_verifyReacts present leads
  | gate => exact s.clipIds_gateReacts
  | planner => exact s.clipIds_plannerReacts

theorem State.clipIds_reactInOrder (present leads : Bool) (rs : List Reactor) (s : State) :
    (State.reactInOrder present leads rs s).1.clipIds = s.clipIds := by
  induction rs generalizing s with
  | nil => rfl
  | cons r rs ih => exact (ih _).trans (s.clipIds_reacts present leads r)

theorem State.clipIds_indexCompletion {s : State} (h : s.chain.indexState = .indexing)
    (present leads : Bool) (order : List Reactor) :
    (s.indexCompletion present leads order).clipIds = s.shift.clipIds := by
  have hsettle : ∀ u : State, u.settle.clipIds = u.clipIds := fun u => clipIds_congr (by simp)
  have hhead : ∀ u : State, u.homingCheck.headJudge.clipIds = u.clipIds := fun u =>
    clipIds_congr (by simp)
  rw [s.indexCompletion_eq h, hsettle, State.reactAll,
    foldl_keeps _ State.clipIds fun u k => u.clipIds_react _, hhead,
    State.clipIds_reactInOrder]

/-! ## After the shift nothing moves the tracking -/

/-- The chain record without its index in flight: what R99 to R102 judge, and what R103 reads. -/
def Chain.tracking (c : Chain) : Chain :=
  { c with indexState := .idle, indexTimer := none, markSeen := false }

/-- The same tracking is the same value of each of its fields. -/
theorem Chain.fields_of_tracking {a b : Chain} (h : a.tracking = b.tracking) :
    a.counter = b.counter ∧ a.syncState = b.syncState ∧ a.missRun = b.missRun ∧
      a.tolerance = b.tolerance ∧ a.candidateRun = b.candidateRun := by
  simpa [Chain.tracking] using h

theorem State.tracking_headJudge (s : State) :
    s.headJudge.chain.tracking = s.chain.tracking := by
  rw [s.headJudge_eq]
  rfl

theorem State.tracking_homingCheck (s : State) :
    s.homingCheck.chain.tracking = s.chain.tracking := by
  unfold State.homingCheck
  split
  · exact State.tracking_headJudge _
  · rfl

theorem State.tracking_react (s : State) (r : Reaction) :
    (s.react r).chain.tracking = s.chain.tracking := by
  cases r with
  | note => rfl
  | pause =>
    have hpausing : ∀ u : State, u.homingCheck.pausingQuiet.chain.tracking =
        u.chain.tracking := by
      simp [State.tracking_homingCheck]
    simp only [State.react, State.enterPausing]
    split
    case h_3 => rfl
    all_goals exact hpausing _
  | halt =>
    simp only [State.react, State.haltIfMoving]
    split
    · rw [State.chain_enterHalted]
      rfl
    · rfl

theorem State.tracking_settle (s : State) : s.settle.chain.tracking = s.chain.tracking := by
  have hquiet : s.pausingQuiet.chain = s.chain := by simp
  have hends : ∀ u : State, u.endDraining.chain.tracking = u.chain.tracking := fun _ => rfl
  unfold State.settle State.drainEnd
  split
  · rw [hends, hquiet]
  · rw [hquiet]

theorem State.tracking_indexCompletion {s : State} (h : s.chain.indexState = .indexing)
    (present leads : Bool) (order : List Reactor) :
    (s.indexCompletion present leads order).chain.tracking =
      s.markJudgment.chain.tracking := by
  have hblocks : (State.reactInOrder present leads (fullOrder order) s.shift).1.chain =
      s.shift.chain := by simp [State.reactInOrder_frame]
  rw [s.indexCompletion_eq h, State.tracking_settle, State.reactAll,
    foldl_keeps _ (fun u => u.chain.tracking) fun u k => u.tracking_react _,
    State.tracking_headJudge, State.tracking_homingCheck,
    hblocks, s.chain_shift_eq]

theorem State.idsHold_indexCompletion {s : State} (hs : ChainHolds s)
    (h : s.chain.indexState = .indexing) (present leads : Bool) (order : List Reactor) :
    let t := s.indexCompletion present leads order
    IdsHold t.chain t.stretch := by
  intro t p e he
  have hids : t.clipIds = s.shift.clipIds := State.clipIds_indexCompletion h present leads order
  have htracking : t.chain.tracking = s.shift.chain.tracking := by
    rw [s.chain_shift_eq]
    exact State.tracking_indexCompletion h present leads order
  have hid : s.shift.clipIds[p]? = some e.clipId := by
    rw [← hids, State.clipIds, List.getElem?_map, he]
    rfl
  obtain ⟨e', he', hsame⟩ : ∃ e', s.shift.stretch[p]? = some e' ∧ e'.clipId = e.clipId := by
    simpa [State.clipIds] using hid
  calc
    e.clipId = e'.clipId := hsame.symm
    _ = s.shift.chain.tracking.idAt p := State.idsHold_shift hs p e' he'
    _ = t.chain.tracking.idAt p := by rw [htracking]

/-! ## The CHAIN_SYNC record (R100, R102) -/

/-- The blocks raise STARVE and PLACEMENT_MISSED alone (R83, R115). -/
theorem State.alarm_reacts_of_ne (s : State) (present leads : Bool) (r : Reactor) {k : AlarmKind}
    (hstarve : k ≠ .starve) (hmissed : k ≠ .placementMissed) :
    (s.reacts present leads r).1.alarm k = s.alarm k := by
  cases r with
  | scan =>
    have hscan := s.scanFrom_frame (Config.stationCount + 1) []
    simp only [State.reacts, State.callScan]
    split
    · split <;> rename_i hfrom <;> rw [hfrom] at hscan
      · rw [State.alarm_raiseRecord_ne _ hstarve]
        exact alarm_congr (by tauto) k
      · exact alarm_congr (by tauto) k
    · rfl
  | verify =>
    simp only [State.reacts, State.verifyReacts]
    split
    case h_1 =>
      split
      · exact alarm_congr (by simp) k
      · unfold State.countedRecallOf
        split
        · exact alarm_congr (by simp) k
        · split
          · rw [State.alarm_raiseRecord_ne _ hmissed]
            exact alarm_congr (by simp) k
          · exact alarm_congr (by simp) k
    case h_5 => rfl
    all_goals exact alarm_congr (by simp) k
  | station j => exact alarm_congr (by simp [State.reacts]) k
  | gate => exact alarm_congr (by simp [State.reacts]) k
  | planner => exact alarm_congr (by simp [State.reacts]) k

theorem State.alarm_reactInOrder_of_ne (present leads : Bool) (rs : List Reactor) (s : State)
    {k : AlarmKind} (hstarve : k ≠ .starve) (hmissed : k ≠ .placementMissed) :
    (State.reactInOrder present leads rs s).1.alarm k = s.alarm k := by
  induction rs generalizing s with
  | nil => rfl
  | cons r rs ih => exact (ih _).trans (s.alarm_reacts_of_ne present leads r hstarve hmissed)

theorem State.chainSync_indexCompletion {s : State} (h : s.chain.indexState = .indexing)
    (present leads : Bool) (order : List Reactor) :
    (s.indexCompletion present leads order).alarm .chainSync = s.shift.alarm .chainSync := by
  have hends : ∀ (u : State) (ks : List AlarmKind),
      (u.homingCheck.headJudge.reactAll ks).settle.alarm .chainSync = u.alarm .chainSync :=
    fun u ks => alarm_congr (by simp) _
  rw [s.indexCompletion_eq h, hends]
  exact State.alarm_reactInOrder_of_ne present leads _ _ (by decide) (by decide)

theorem AlarmRecord.condition_ended (r : AlarmRecord) (interval : Nat) :
    (r.ended interval).condition = false := by
  unfold AlarmRecord.ended
  split
  · split <;> rfl
  next h => simpa using h

theorem State.chainSync_shift_lost {s : State} (h : s.markJudgment.lost = true) :
    (s.shift.alarm .chainSync).condition = true := by
  unfold State.markJudgment at h
  simp only [State.shift, h, if_true, State.alarm_raiseRecord]
  rfl

theorem State.chainSync_shift_locks {s : State} (hkept : s.markJudgment.lost = false)
    (hbefore : s.chain.syncState ≠ .locked) (hafter : s.markJudgment.chain.syncState = .locked) :
    (s.shift.alarm .chainSync).condition = false := by
  unfold State.markJudgment at hkept hafter
  simp [State.shift, hkept, hbefore, hafter, AlarmRecord.condition_ended]

end Sys2Proof.Machine

open Sys2Proof Sys2Proof.Machine

/-- Settles O38: the judgment of the mark is the last write of the tracking, the clip ids and the
CHAIN_SYNC record at a completion, so that each clause is a case of `Chain.completed`. -/
theorem homeMarkIsJudged : Obligations.HomeMarkIsJudged := by
  intro present leads order s hl hindex
  refine ⟨_, exec_indexCompletion hl present leads order, ?_⟩
  have htracking := State.tracking_indexCompletion hindex present leads order
  have hchainSync := State.chainSync_indexCompletion hindex present leads order
  have hids := fun hs => State.idsHold_indexCompletion hs hindex present leads order
  generalize s.indexCompletion present leads order = t at htracking hchainSync hids ⊢
  obtain ⟨hcounter, hsync, hmissRun, htolerance, hcandidate⟩ :=
    Chain.fields_of_tracking htracking
  intro c nb nf rose missed w
  have hjudgment : s.markJudgment = s.chain.completed nf nb := rfl
  rw [hsync, hcounter, hmissRun, htolerance, hcandidate, hchainSync]
  refine ⟨fun hs hm => ?unlockedUnmarked, fun hs hm => ?unlockedMarked,
    fun hs hm hc => ?lockingExpected, fun hs hm hc => ?lockingInserted,
    fun hs hm => ?lockingUnmarked, fun hs hm hc => ?lockedMissed,
    fun hs hm hc => ?lockedBetween, fun hs hm => ?lockedMarked,
    fun hbefore hafter => ?reached, hids⟩
  case unlockedUnmarked =>
    rw [hjudgment, Chain.completed_unlocked_unmarked nf nb hs hm]
    exact ⟨hs, rfl, rfl⟩
  case unlockedMarked =>
    rw [hjudgment, Chain.completed_unlocked_marked nf nb hs hm]
    split <;> exact ⟨rfl, rfl, rfl⟩
  case lockingExpected =>
    rw [hjudgment, Chain.completed_locking_expected nf nb hs hm hc]
    split
    · exact ⟨rfl, rfl, rfl⟩
    · exact ⟨hc, hs, rfl⟩
  case lockingInserted =>
    rw [hjudgment, Chain.completed_locking_inserted nf nb hs hm hc]
    exact ⟨rfl, hs, rfl⟩
  case lockingUnmarked =>
    rw [hjudgment, Chain.completed_locking_unmarked nf nb hs hm]
    split
    · exact ⟨rfl, rfl, rfl⟩
    · exact ⟨rfl, hs, rfl⟩
  case lockedMissed =>
    have hlost : nf ≤ missed → (s.shift.alarm .chainSync).condition = true := fun hle =>
      State.chainSync_shift_lost (by
        rw [hjudgment, Chain.completed_locked_missed nf nb hs hm hc, if_pos hle])
    rw [hjudgment, Chain.completed_locked_missed nf nb hs hm hc]
    split
    · exact ⟨hc, rfl, rfl, rfl, hlost⟩
    · exact ⟨hc, hs, rfl, rfl, hlost⟩
  case lockedBetween =>
    rw [hjudgment, Chain.completed_locked_between nf nb hs hm hc]
    exact ⟨rfl, hs, rfl, rfl⟩
  case lockedMarked =>
    by_cases hc : c = 0
    · rw [hjudgment, Chain.completed_locked_expected nf nb hs hm hc,
        if_pos (Or.inl hc)]
      exact ⟨hs, hc, rfl, rfl⟩
    · have hwithin : s.chain.risen.withinTolerance = true ↔
          c = 0 ∨ (1 ≤ c ∧ c ≤ w) ∨ 200 - w ≤ c :=
        (Chain.withinTolerance_iff (Nat.mod_lt _ (by decide))).trans (or_iff_right hc).symm
      rw [hjudgment, Chain.completed_locked_inserted nf nb hs hm hc]
      simp only [hwithin]
      split
      · exact ⟨hs, rfl, rfl, rfl⟩
      · exact ⟨hs, rfl, rfl, rfl⟩
  case reached =>
    have hlocks : s.markJudgment = s.chain.risen.locks :=
      (s.chain.judged_completed nf nb).eq_locks hbefore hafter
    have hended : (s.shift.alarm .chainSync).condition = false :=
      State.chainSync_shift_locks (by rw [hlocks]; rfl) hbefore hafter
    rw [hlocks]
    exact ⟨rfl, rfl, rfl, hended⟩

end

section
/-! PROOFS. The geometry (spec 07): what the rounding of the scale stage gives (R127), and the
computation as plane check, count stage and limit check of the offset point (R129 to R131). -/

namespace Sys2Proof.Machine

/-! ## Rounding (R127)

The rounding treats a product and its negation alike, so its laws are shown on the magnitude. -/

theorem roundMillionth_natCast (m : Nat) :
    roundMillionth (m : Int) = ((m + 500000) / 1000000 : Nat) := by
  simp [roundMillionth]

theorem roundMillionth_neg_natCast (m : Nat) :
    roundMillionth (-(m : Int)) = -((m + 500000) / 1000000 : Nat) := by
  rcases Nat.eq_zero_or_pos m with rfl | hpos
  · rfl
  · have hneg : -(m : Int) < 0 := by omega
    rw [roundMillionth, if_pos hneg, Int.natAbs_neg, Int.natAbs_natCast]

theorem natAbs_roundMillionth (product : Int) :
    (roundMillionth product).natAbs = (product.natAbs + 500000) / 1000000 := by
  obtain ⟨m, rfl | rfl⟩ := product.eq_nat_or_neg
  · rw [roundMillionth_natCast, Int.natAbs_natCast, Int.natAbs_natCast]
  · rw [roundMillionth_neg_natCast, Int.natAbs_neg, Int.natAbs_natCast, Int.natAbs_neg,
      Int.natAbs_natCast]

/-- The error of the rounding, on the magnitudes. -/
theorem natAbs_roundMillionth_error (product : Int) :
    (1000000 * roundMillionth product - product).natAbs =
      (1000000 * ((product.natAbs + 500000) / 1000000 : Nat) - product.natAbs : Int).natAbs := by
  obtain ⟨m, rfl | rfl⟩ := product.eq_nat_or_neg
  · rw [roundMillionth_natCast, Int.natAbs_natCast]
  · rw [roundMillionth_neg_natCast, Int.natAbs_neg, Int.natAbs_natCast, ← Int.natAbs_neg]
    congr 1
    ring

theorem roundMillionth_nearest (product : Int) :
    2 * (1000000 * roundMillionth product - product).natAbs ≤ 1000000 := by
  rw [natAbs_roundMillionth_error]
  omega

theorem roundMillionth_half_away {product : Int}
    (hhalf : 2 * (1000000 * roundMillionth product - product).natAbs = 1000000) :
    product.natAbs < 1000000 * (roundMillionth product).natAbs := by
  rw [natAbs_roundMillionth_error] at hhalf
  rw [natAbs_roundMillionth]
  omega

/-- The term of the scale stage is at most its coordinate's 2000 millionths, rounded. -/
theorem natAbs_scaleTerm_le (v : Nat) {scale : Int} (hlow : -2000 ≤ scale) (hhigh : scale ≤ 2000) :
    (roundMillionth (v * scale)).natAbs ≤ (v * 2000 + 500000) / 1000000 := by
  have hscale : scale.natAbs ≤ 2000 := by omega
  have hproduct : ((v : Int) * scale).natAbs ≤ v * 2000 := by
    rw [Int.natAbs_mul, Int.natAbs_natCast]
    exact Nat.mul_le_mul_left v hscale
  rw [natAbs_roundMillionth]
  exact Nat.div_le_div_right (Nat.add_le_add_right hproduct _)

/-- A coordinate is never scaled below 0, nor by more than the largest term (R127). -/
theorem scaled_range (v : Nat) {scale : Int} (hlow : -2000 ≤ scale) (hhigh : scale ≤ 2000) :
    0 ≤ scaled v scale ∧ scaled v scale ≤ v + ((v * 2000 + 500000) / 1000000 : Nat) := by
  have hterm := natAbs_scaleTerm_le v hlow hhigh
  unfold scaled
  omega

/-! ## Plane check, count stage and limit check (R129 to R131) -/

theorem inPlane_iff (v : Int) : inPlane v = true ↔ 0 ≤ v ∧ v ≤ 65535 := by
  simp [inPlane]

theorem AxisSettings.allows_iff (a : AxisSettings) (v : Nat) :
    a.allows v = true ↔ a.Inside v := by
  simp [AxisSettings.allows, AxisSettings.Inside]

theorem Settings.allows_iff (g : Settings) (t : Quad Nat) :
    g.allows t = true ↔ ∀ a : Axis, (g.axis.get a).Inside (t.get a) := by
  simp only [Settings.allows, Bool.and_eq_true, AxisSettings.allows_iff]
  constructor
  · rintro ⟨⟨⟨hx, hy⟩, hr⟩, hs⟩ (_ | _ | _ | _)
    exacts [hx, hy, hr, hs]
  · exact fun h => ⟨⟨⟨h .x, h .y⟩, h .r⟩, h .s⟩

theorem axisTargets_eq_some_iff (g : Settings) (r : Placement) (c : Correction) (t : Quad Nat) :
    axisTargets g r c = some t ↔
      (inPlane (offsetPoint g r c).1 = true ∧ inPlane (offsetPoint g r c).2 = true) ∧
        counts g r (offsetPoint g r c) = t ∧ g.allows t = true := by
  simp only [axisTargets, Option.ite_none_right_eq_some, Option.some.injEq, Bool.and_eq_true]
  constructor
  · rintro ⟨⟨hplane, hallows⟩, rfl⟩
    exact ⟨hplane, rfl, hallows⟩
  · rintro ⟨hplane, rfl, hallows⟩
    exact ⟨⟨hplane, hallows⟩, rfl⟩

/-- In the plane no coordinate is cut off, so the count stage is exact (R130). -/
theorem counts_eq_iff (g : Settings) (r : Placement) {xo yo : Int} (hx : 0 ≤ xo) (hy : 0 ≤ yo)
    (t : Quad Nat) :
    counts g r (xo, yo) = t ↔
      (t.x : Int) = g.homeX + 2 * xo ∧ (t.y : Int) = g.homeY + 2 * yo ∧
        t.s = g.homeS + 4 * r.span ∧ t.r = g.homeR + r.orientation.quadrant * g.quarter := by
  obtain ⟨tx, ty, tr, ts⟩ := t
  simp only [counts, Quad.mk.injEq]
  omega

/-- The computation on a known offset point. -/
theorem axisTargets_eq_some_iff_of_offsetPoint {g : Settings} {r : Placement} {c : Correction}
    {xo yo : Int} (hpoint : offsetPoint g r c = (xo, yo)) (t : Quad Nat) :
    axisTargets g r c = some t ↔
      0 ≤ xo ∧ xo ≤ 65535 ∧ 0 ≤ yo ∧ yo ≤ 65535 ∧
        (t.x : Int) = g.homeX + 2 * xo ∧ (t.y : Int) = g.homeY + 2 * yo ∧
        t.s = g.homeS + 4 * r.span ∧ t.r = g.homeR + r.orientation.quadrant * g.quarter ∧
        ∀ a : Axis, (g.axis.get a).Inside (t.get a) := by
  rw [axisTargets_eq_some_iff, hpoint, inPlane_iff, inPlane_iff, Settings.allows_iff]
  constructor
  · rintro ⟨⟨⟨hx, hx'⟩, hy, hy'⟩, hcounts, hinside⟩
    obtain ⟨htx, hty, hts, htr⟩ := (counts_eq_iff g r hx hy t).mp hcounts
    exact ⟨hx, hx', hy, hy', htx, hty, hts, htr, hinside⟩
  · rintro ⟨hx, hx', hy, hy', htx, hty, hts, htr, hinside⟩
    exact ⟨⟨⟨hx, hx'⟩, hy, hy'⟩, (counts_eq_iff g r hx hy t).mpr ⟨htx, hty, hts, htr⟩, hinside⟩

theorem Orientation.quadrant_le (o : Orientation) : o.quadrant ≤ 3 := by
  cases o <;> decide

/-- With spans, homes and quarter turn in range, the targets lie in the ranges of R130. -/
theorem axisTargets_range {g : Settings} {r : Placement} {c : Correction} {t : Quad Nat}
    (hspan : 50 ≤ r.span) (hspan' : r.span ≤ 254) (hX : g.homeX ≤ 65535) (hY : g.homeY ≤ 65535)
    (hS : g.homeS ≤ 65535) (hR : g.homeR ≤ 65535) (hquarter : g.quarter ≤ 16383)
    (ht : axisTargets g r c = some t) :
    t.x ≤ 196605 ∧ t.y ≤ 196605 ∧ 200 ≤ t.s ∧ t.s ≤ 66551 ∧ t.r ≤ 114684 := by
  obtain ⟨-, hx, -, hy, htx, hty, hts, htr, -⟩ :=
    (axisTargets_eq_some_iff_of_offsetPoint rfl t).mp ht
  have hturn : r.orientation.quadrant * g.quarter ≤ 3 * 16383 :=
    Nat.mul_le_mul r.orientation.quadrant_le hquarter
  omega

end Sys2Proof.Machine

open Sys2Proof Sys2Proof.Machine

/-- Settles O60. The targets are those of the offset point, which the quadrants give case by case;
the scale stage is the only one that rounds. -/
theorem geometryFollowsTheStages : Obligations.GeometryFollowsTheStages := by
  unfold Obligations.GeometryFollowsTheStages
  refine ⟨fun g r c t => ?targets,
    fun product => ⟨roundMillionth_nearest product, roundMillionth_half_away⟩,
    fun g r c hx hy hspan hspan' hlow hhigh hX hY hS hR hquarter => ?ranges⟩
  case targets =>
    intro xs ys cx cy xo yo
    have hpoint : offsetPoint g r c = (xo, yo) := by
      rw [offsetPoint, add_comm _ c.dx, add_comm _ c.dy]
      simp only [xo, yo]
      cases r.orientation <;> rfl
    exact axisTargets_eq_some_iff_of_offsetPoint hpoint t
  case ranges =>
    obtain ⟨hxs, hxs'⟩ := scaled_range r.x hlow hhigh
    obtain ⟨hys, hys'⟩ := scaled_range r.y hlow hhigh
    exact ⟨hxs, by omega, hys, by omega,
      fun t => axisTargets_range hspan hspan' hX hY hS hR hquarter⟩

end

section
/-! PROOFS. The law of the clinch drive (spec 09, R177 and R178). First the four values the law reads
and the ways a change of the head keeps it, then HOMING, HALT and the reactions, then the commands
block by block: those outside the head and the drive leave the four values as they are, or take a
reaction. -/

namespace Sys2Proof.Machine

/-! ## What the law reads -/

/-- The values that the law of R178 reads: the stroke command, and the state, held and kind of the
head cycle. -/
def State.strokeView (s : State) : Stroke × HeadState × Held × Option MoveKind :=
  (s.drive.stroke, s.head.state, s.head.held, s.head.kind)

theorem State.strokeView_of_eq {s t : State} (hhead : t.head = s.head)
    (hdrive : t.drive = s.drive) : t.strokeView = s.strokeView := by
  rw [State.strokeView, State.strokeView, hhead, hdrive]

section
variable {s t : State}

theorem DriveHolds.congr (h : DriveHolds s) (hv : t.strokeView = s.strokeView) : DriveHolds t := by
  simp only [State.strokeView, Prod.mk.injEq] at hv
  obtain ⟨hstroke, hstate, hheld, hkind⟩ := hv
  unfold DriveHolds at *
  rwa [hstroke, hstate, hheld, hkind]

/-- A change that reaches neither the head nor the drive. -/
theorem DriveHolds.of_eq (h : DriveHolds s) (hhead : t.head = s.head) (hdrive : t.drive = s.drive) :
    DriveHolds t :=
  h.congr (State.strokeView_of_eq hhead hdrive)

theorem driveHolds_of_no_stroke (hstroke : t.drive.stroke = .none)
    (hkind : t.head.state = .clinch → t.head.kind = some .insert) : DriveHolds t := by
  refine ⟨fun hc => ?_, hkind⟩
  simp [hstroke] at hc

theorem DriveHolds.clinch_of_commanded (h : DriveHolds s) (hc : s.drive.stroke = .commanded) :
    s.head.state = .clinch :=
  (h.1 hc).1

/-- CLINCH is a phase of INSERT cycles. -/
theorem DriveHolds.insert_of_clinch (h : DriveHolds s) (hc : s.head.state = .clinch) :
    s.head.kind = some .insert :=
  h.2 hc

/-- From one phase outside CLINCH to another no stroke is commanded. -/
theorem DriveHolds.outsideClinch (h : DriveHolds s) (hs : s.head.state ≠ .clinch)
    (ht : t.head.state ≠ .clinch) (hdrive : t.drive = s.drive) : DriveHolds t := by
  rw [DriveHolds, hdrive]
  exact ⟨fun hc => absurd (h.clinch_of_commanded hc) hs, fun hc => absurd hc ht⟩

end

/-! ## HOMING, HALT and the reactions (R161, R167, R194) -/

section
variable {s : State}

theorem State.homingCheck_cases (s : State) :
    s.homingCheck = s ∨ s.head.state = .homing ∧ s.homingCheck.head.state = .idle := by
  unfold State.homingCheck
  split
  · rename_i hc
    exact .inr ⟨hc.1, by simp⟩
  · exact .inl rfl

theorem DriveHolds.homingCheck (h : DriveHolds s) : DriveHolds s.homingCheck := by
  rcases s.homingCheck_cases with hsame | ⟨hhoming, hidle⟩
  · rwa [hsame]
  · exact h.outsideClinch (by simp [hhoming]) (by simp [hidle]) (by simp)

/-- A HALT ends the head cycle and withdraws the stroke, whatever the state was (R167). -/
theorem driveHolds_enterHalted (s : State) : DriveHolds s.enterHalted :=
  driveHolds_of_no_stroke (by simp [State.drive_enterHalted, Drive.strokeEnded])
    (by simp [State.head_enterHalted, Head.ended])

theorem DriveHolds.haltIfMoving (h : DriveHolds s) : DriveHolds s.haltIfMoving := by
  unfold State.haltIfMoving
  split
  · exact driveHolds_enterHalted s
  · exact h

theorem DriveHolds.pausingQuiet (h : DriveHolds s) : DriveHolds s.pausingQuiet :=
  h.of_eq (by simp) (by simp)

theorem DriveHolds.settle (h : DriveHolds s) : DriveHolds s.settle := h.of_eq (by simp) (by simp)

theorem DriveHolds.enterPausing (h : DriveHolds s) : DriveHolds s.enterPausing := by
  have hleft (r : ReturnState) : DriveHolds (State.homingCheck
      { s with machine := { state := .pausing, returnState := some r } }).pausingQuiet :=
    DriveHolds.pausingQuiet (DriveHolds.homingCheck (h.of_eq rfl rfl))
  unfold State.enterPausing
  split
  · exact hleft .running
  · exact hleft .draining
  · exact h

theorem DriveHolds.react (h : DriveHolds s) (r : Reaction) : DriveHolds (s.react r) := by
  cases r with
  | note => exact h
  | pause => exact h.enterPausing
  | halt => exact h.haltIfMoving

theorem DriveHolds.raise (h : DriveHolds s) (k : AlarmKind) (src : Option Source) :
    DriveHolds (s.raise k src) :=
  DriveHolds.react (h.of_eq (by simp) (by simp)) _

theorem DriveHolds.reactAll (h : DriveHolds s) (ks : List AlarmKind) :
    DriveHolds (s.reactAll ks) := by
  unfold State.reactAll
  induction ks generalizing s with
  | nil => exact h
  | cons k ks ih => exact ih (h.react _)

end

/-! ## Outcomes and answers (R199, R208) -/

/-- Where the command completes, the law holds of the next state. -/
def DriveHoldsAfter (o : Host.Outcome State Fault Refusal) : Prop :=
  ∀ t : State, o = .next t → DriveHolds t

section
variable {s : State}

theorem driveHoldsAfter_next (h : DriveHolds s) : DriveHoldsAfter (.next s) := by
  rintro t ⟨⟩
  exact h

theorem DriveHolds.after_event (h : DriveHolds s) {act : State → State}
    (hact : DriveHolds (act s)) : DriveHoldsAfter (event s act) := by
  unfold event
  split
  · exact driveHoldsAfter_next hact
  · exact driveHoldsAfter_next h

theorem DriveHolds.after_frameEnd (h : DriveHolds s) {act : State → State}
    (hact : DriveHolds (act s)) : DriveHoldsAfter (frameEnd s act) := by
  refine h.after_event ?_
  split
  · exact h.of_eq rfl rfl
  · exact hact

theorem DriveHolds.after_taken (h : DriveHolds s) {cmd : Byte} {act : State → Answer}
    (hact : DriveHolds (act s).state) : DriveHoldsAfter (taken cmd s act) :=
  h.after_frameEnd (hact.of_eq (by simp) (by simp))

/-- An event on a station line: a number without a line is a fault, which completes nothing
(log 23). -/
theorem DriveHolds.after_stationLine (h : DriveHolds s) {k : Nat} {act : State → State}
    (hact : DriveHolds (act s)) :
    DriveHoldsAfter
      (if 1 ≤ k ∧ k ≤ Config.stationCount then event s act else .fault (.noSuchStationLine k)) := by
  split
  · exact h.after_event hact
  · simp [DriveHoldsAfter]

theorem DriveHolds.onPlacement (h : DriveHolds s) {kind : Byte} {index : Half}
    {act : Nat → Placement → Answer} (hact : ∀ n r, DriveHolds (act n r).state) :
    DriveHolds (s.onPlacement kind index act).state := by
  unfold State.onPlacement
  split
  · split
    · exact h
    · exact hact ..
  · exact h

theorem DriveHolds.onStation (h : DriveHolds s) {kind : Byte} {index : Half}
    {act : Nat → Station → Answer} (hact : ∀ k st, DriveHolds (act k st).state) :
    DriveHolds (s.onStation kind index act).state := by
  unfold State.onStation
  split
  · split
    · exact h
    · exact hact ..
  · exact h

theorem DriveHolds.onParity (h : DriveHolds s) {parity : Nat} {act : Parity → Answer}
    (hact : ∀ p, DriveHolds (act p).state) : DriveHolds (s.onParity parity act).state := by
  unfold State.onParity
  split
  · exact h
  · exact hact _

end

/-! ## The commands outside the head and the drive

They leave the four values as they are, but where an alarm they raise has its reaction. -/

@[simp] theorem State.state_ok (s : State) : s.ok.state = s := rfl

@[simp] theorem State.state_reply (s : State) (c : ReplyCode) : (s.reply c).state = s := rfl

section
variable (s : State)

/-! ### LOOKUP (R203) -/

theorem State.state_onePart (part : Nat) (bytes : List Byte) :
    (s.onePart part bytes).state = s := by
  unfold State.onePart
  split <;> rfl

theorem State.state_twoParts (part : Nat) (first second : List Byte) :
    (s.twoParts part first second).state = s := by
  unfold State.twoParts
  split <;> rfl

theorem State.state_lookupSingle (index : Nat) {answer : Answer} (h : answer.state = s) :
    (s.lookupSingle index answer).state = s := by
  unfold State.lookupSingle
  split
  · exact h
  · rfl

theorem State.state_lookup (kind index part : Nat) : (s.lookup kind index part).state = s := by
  have hone := s.state_onePart part
  have htwo := s.state_twoParts part
  unfold State.lookup
  split
  · unfold State.lookupPlacement
    (repeat' split) <;> simp [htwo]
  · unfold State.lookupBoard
    split <;> simp [htwo]
  · exact s.state_lookupSingle _ (hone _)
  · unfold State.lookupStation
    split <;> simp [htwo]
  · unfold State.lookupClip
    split <;> simp [hone]
  · unfold State.lookupCondition
    split <;> simp [hone]
  · unfold State.lookupSlot
    split <;> simp [htwo]
  · unfold State.lookupAxis
    split <;> simp [hone]
  · exact s.state_lookupSingle _ (hone _)
  · exact s.state_lookupSingle _ (htwo _ _)
  · exact s.state_lookupSingle _ (hone _)
  · unfold State.lookupAlarm
    split <;> simp [hone]
  · unfold State.lookupSetting
    split <;> simp [hone]
  · rfl

/-! ### The placement table (R15 to R22) -/

theorem State.strokeView_admitRecord (record : Option Placement) :
    (s.admitRecord record).state.strokeView = s.strokeView := by
  unfold State.admitRecord
  split <;> simp [State.strokeView]

theorem State.strokeView_amend (n field value : Nat) (r : Placement) :
    (s.amend n field value r).state.strokeView = s.strokeView := by
  unfold State.amend
  (repeat' split) <;> simp [State.strokeView]

theorem State.strokeView_retire (n : Nat) (r : Placement) :
    (s.retire n r).state.strokeView = s.strokeView := by
  unfold State.retire State.reportRetirement
  (repeat' split) <;> simp [State.strokeView]

theorem State.strokeView_holdRecord (n : Nat) (r : Placement) :
    (s.holdRecord n r).state.strokeView = s.strokeView := by
  unfold State.holdRecord
  dsimp only
  (repeat' split) <;> simp [State.strokeView]

theorem State.strokeView_releaseRecord (n : Nat) (r : Placement) :
    (s.releaseRecord n r).state.strokeView = s.strokeView := by
  unfold State.releaseRecord
  split <;> simp [State.strokeView]

theorem State.strokeView_skipIn (n : Nat) (r : Placement) (p : Parity) :
    (s.skipIn n r p).state.strokeView = s.strokeView := by
  unfold State.skipIn
  (repeat' split) <;> simp [State.strokeView]

theorem State.strokeView_recallIn (n : Nat) (r : Placement) (p : Parity) :
    (s.recallIn n r p).state.strokeView = s.strokeView := by
  unfold State.recallIn
  (repeat' split) <;> simp [State.strokeView]

/-! ### Boards and the exchange (R26, R33 to R41) -/

theorem State.strokeView_alignBoard (p : Parity) (c : Correction) :
    (s.alignBoard p c).state.strokeView = s.strokeView := by
  unfold State.alignBoard
  (repeat' split) <;> simp [State.strokeView]

/-- Opening a board sets the strikes to 0 (R27) and no other field of the drive. -/
theorem State.strokeView_openIfMay : s.openIfMay.strokeView = s.strokeView := by
  unfold State.openIfMay State.openBoard
  dsimp only
  split <;> simp [State.strokeView]

/-! ### Alarm records and settings (R195, R207) -/

/-- CLEAR of an alarm lifts the lockout at most (R173). -/
theorem State.strokeView_clearAlarm (k : AlarmKind) :
    (s.clearAlarm k).state.strokeView = s.strokeView := by
  unfold State.clearAlarm State.liftLockout
  (repeat' split) <;> simp [State.strokeView]

theorem State.strokeView_storeItem (item : SettingItem) (value : Nat) :
    (s.storeItem item value).strokeView = s.strokeView := by
  unfold State.storeItem
  (repeat' split) <;> simp [State.strokeView]

theorem State.strokeView_setItem (item : SettingItem) (value : Nat) :
    (s.setItem item value).state.strokeView = s.strokeView := by
  unfold State.setItem
  (repeat' split) <;> simp [State.strokeView_storeItem]

/-! ### Machine states entered without a pause or a HALT (R182, R183, R186, R187, R190) -/

theorem State.strokeView_ack : s.ack.state.strokeView = s.strokeView := by
  unfold State.ack
  split <;> simp [State.strokeView]

theorem State.strokeView_enterRunning (present : Bool) :
    (s.enterRunning present).strokeView = s.strokeView := by
  unfold State.enterRunning State.judgeAtRun
  split <;> simp [State.strokeView]

theorem State.strokeView_run (present : Bool) :
    (s.run present).state.strokeView = s.strokeView := by
  unfold State.run
  split <;> simp [State.strokeView_enterRunning]

theorem State.strokeView_resume (present : Bool) :
    (s.resume present).state.strokeView = s.strokeView := by
  unfold State.resume State.resumeTo
  (repeat' split) <;> simp [State.strokeView]

theorem State.strokeView_drain : s.drain.state.strokeView = s.strokeView := by
  unfold State.drain
  split <;> simp [State.strokeView]

theorem State.strokeView_recover : s.recover.state.strokeView = s.strokeView := by
  unfold State.recover
  split <;> simp [State.strokeView]

end

section
variable {s : State}

theorem DriveHolds.pause (h : DriveHolds s) : DriveHolds s.pause.state := by
  unfold State.pause
  split
  · exact h.enterPausing
  · split <;> exact h

theorem DriveHolds.halt (h : DriveHolds s) : DriveHolds s.halt.state := by
  unfold State.halt
  split
  · exact h
  · split
    · exact h
    · exact driveHolds_enterHalted s

/-! ### Stations (R46, R51 to R65) -/

theorem DriveHolds.raiseIfLow (h : DriveHolds s) (k : Nat) (wasLow : Bool) :
    DriveHolds (s.raiseIfLow k wasLow) := by
  unfold State.raiseIfLow
  split
  · exact h
  · split
    · exact h.raise ..
    · exact h

theorem DriveHolds.raiseIfEmptied (h : DriveHolds s) (k : Nat) (before : StationState) :
    DriveHolds (s.raiseIfEmptied k before) := by
  unfold State.raiseIfEmptied
  split
  · exact h
  · split
    · exact h.raise ..
    · exact h

theorem DriveHolds.raiseIfSuspect (h : DriveHolds s) (k : Nat) (before : StationState) :
    DriveHolds (s.raiseIfSuspect k before) := by
  unfold State.raiseIfSuspect
  split
  · exact h
  · split
    · exact h.raise ..
    · exact h

theorem DriveHolds.fedOutcome (h : DriveHolds s) (k : Nat) (st : Station) :
    DriveHolds (s.fedOutcome k st) :=
  .raiseIfEmptied (.raiseIfLow (h.of_eq (by simp) (by simp)) ..) ..

theorem DriveHolds.missOutcome (h : DriveHolds s) (k : Nat) (st : Station) :
    DriveHolds (s.missOutcome k st) := by
  unfold State.missOutcome
  dsimp only
  split
  · exact h.of_eq (by simp) (by simp)
  · exact .raiseIfSuspect (.raiseIfEmptied (h.of_eq (by simp) (by simp)) ..) ..

theorem DriveHolds.sprocket (h : DriveHolds s) (k : Nat) (pocket : Bool) :
    DriveHolds (s.sprocket k pocket) := by
  unfold State.sprocket
  split
  · exact h
  · split
    · split
      · exact (h.fedOutcome ..).settle
      · split
        · exact h.of_eq (by simp) (by simp)
        · exact (h.missOutcome ..).settle
    · exact h

theorem DriveHolds.jam (h : DriveHolds s) (k : Nat) : DriveHolds (s.jam k) := by
  unfold State.jam
  split
  · exact h
  · split
    · exact h
    · dsimp only
      split
      · exact h.of_eq (by simp) (by simp)
      · exact .settle (.raise (h.of_eq (by simp) (by simp)) ..)

theorem DriveHolds.loadStation (h : DriveHolds s) (k value : Nat) (st : Station) :
    DriveHolds (s.loadStation k value st).state := by
  unfold State.loadStation
  split
  · exact h
  · exact .raiseIfEmptied (.raiseIfLow (h.of_eq (by simp) (by simp)) ..) ..

theorem DriveHolds.stationSetting (h : DriveHolds s) (k item value : Nat) (st : Station) :
    DriveHolds (s.stationSetting k item value st).state := by
  unfold State.stationSetting
  split
  · exact h
  · split
    · exact .raiseIfLow (h.of_eq (by simp) (by simp)) ..
    · exact h.of_eq (by simp) (by simp)

theorem DriveHolds.stationOnline (h : DriveHolds s) (k : Nat) (st : Station) :
    DriveHolds (s.stationOnline k st).state := by
  unfold State.stationOnline
  (repeat' split)
  · exact h.of_eq (by simp) (by simp)
  · exact .raiseIfEmptied (h.of_eq (by simp) (by simp)) ..
  · exact h
  · exact h

theorem DriveHolds.clearStation (h : DriveHolds s) (k : Nat) (st : Station) :
    DriveHolds (s.clearStation k st).state := by
  unfold State.clearStation
  split
  · exact .raiseIfEmptied (h.of_eq (by simp) (by simp)) ..
  · exact h

/-! ### The exchange, the axes and the chain (R33 to R38, R95, R96, R152 to R154) -/

theorem DriveHolds.transferDone (h : DriveHolds s) (present openFirst : Bool) :
    DriveHolds (s.transferDone present openFirst) := by
  have hends : DriveHolds s.transferEnds := h.of_eq (by simp) (by simp)
  unfold State.transferDone
  split
  · refine DriveHolds.settle (DriveHolds.of_eq (s := if openFirst then s.transferEnds.openIfMay
      else s.transferEnds) ?_ (by simp) (by simp))
    split
    · exact hends.congr (State.strokeView_openIfMay _)
    · exact hends
  · exact h

theorem DriveHolds.clampedFall (h : DriveHolds s) : DriveHolds s.clampedFall := by
  have hlevel : DriveHolds (s.setClamped false) := h.of_eq (by simp) (by simp)
  unfold State.clampedFall
  dsimp only
  split
  · split
    · exact (hlevel.raise ..).settle
    · exact hlevel
  · exact hlevel

theorem DriveHolds.abandonExchange (h : DriveHolds s) : DriveHolds s.abandonExchange := by
  refine DriveHolds.settle (DriveHolds.raise ?_ ..)
  exact h.of_eq rfl rfl

theorem DriveHolds.formEnds (h : DriveHolds s) : DriveHolds s.formEnds := by
  unfold State.formEnds
  split
  · rename_i hform
    exact h.outsideClinch (by simp [hform.1]) (by simp) rfl
  · exact h

theorem DriveHolds.axesChanged (h : DriveHolds s) (present : Bool) :
    DriveHolds (s.axesChanged present) :=
  .homingCheck (h.formEnds.of_eq (by simp) (by simp))

theorem DriveHolds.positionSample (h : DriveHolds s) (a : Axis) (count : Nat) (present : Bool) :
    DriveHolds (s.positionSample a count present) := by
  have haxis : DriveHolds (s.putAxis a ((s.axis a).sampled (s.axisSettings a) count)) :=
    h.of_eq (by simp) (by simp)
  unfold State.positionSample
  dsimp only
  split
  · exact ((haxis.axesChanged present).raise ..).settle
  · exact (haxis.axesChanged present).settle

theorem DriveHolds.lockTimeout (h : DriveHolds s) (a : Axis) : DriveHolds (s.lockTimeout a) := by
  unfold State.lockTimeout
  split
  · exact .settle (.raise (h.of_eq (by simp) (by simp)) ..)
  · exact h

theorem DriveHolds.chainJam (h : DriveHolds s) : DriveHolds s.chainJam := by
  unfold State.chainJam
  split
  · refine DriveHolds.settle (DriveHolds.raise ?_ ..)
    exact h.of_eq rfl rfl
  · exact h

/-- No block that reacts at a completion reaches the head or the drive; the head's own judgment may
end HOMING. -/
theorem DriveHolds.indexCompletion (h : DriveHolds s) (present leads : Bool)
    (order : List Reactor) : DriveHolds (s.indexCompletion present leads order) := by
  have hblocks : DriveHolds (State.reactInOrder present leads (fullOrder order) s.shift).1 :=
    h.of_eq (by simp [State.reactInOrder_frame]) (by simp [State.reactInOrder_frame])
  by_cases hi : s.chain.indexState = .indexing
  · rw [s.indexCompletion_eq hi]
    exact .settle (.reactAll (hblocks.homingCheck.of_eq (by simp) (by simp)) _)
  · simpa [State.indexCompletion, hi] using h

end

/-! ## The head cycle (R160 to R168) -/

section
variable {s : State}

theorem DriveHolds.cycleStart (h : DriveHolds s) (home : Bool) :
    DriveHolds (s.cycleStart home) := by
  unfold State.cycleStart
  split
  · rename_i hc
    split
    · exact h.outsideClinch (by simp [hc.1]) (by simp [State.startCycle, State.cycleHead]) rfl
    · exact h
  · exact h

theorem DriveHolds.homingStart (h : DriveHolds s) (home : Bool) :
    DriveHolds (s.homingStart home) := by
  unfold State.homingStart
  split
  · rename_i hc
    exact h.outsideClinch (by simp [hc.1]) (by simp) rfl
  · exact h

theorem DriveHolds.formedEdge (h : DriveHolds s) : DriveHolds s.formedEdge := by
  unfold State.formedEdge
  split
  · exact .formEnds (h.congr rfl)
  · exact h

/-- A stroke is commanded together with the CLINCH phase and held NONE, in an INSERT cycle. -/
theorem driveHolds_enterStroke (hkind : s.head.kind = some .insert) : DriveHolds s.enterStroke := by
  simp [DriveHolds, State.enterStroke, State.beginStroke, hkind]

theorem driveHolds_enterRetract (hstroke : s.drive.stroke ≠ .commanded) :
    DriveHolds s.enterRetract := by
  simp [DriveHolds, State.enterRetract, hstroke]

theorem DriveHolds.downEdge (h : DriveHolds s) : DriveHolds s.downEdge := by
  unfold State.downEdge
  split
  · rename_i hdrive
    split
    · rename_i hkind
      exact driveHolds_enterStroke hkind
    · exact driveHolds_enterRetract fun hc => by simp [h.clinch_of_commanded hc] at hdrive
    · exact h
  · exact h

theorem DriveHolds.clinchEnd (h : DriveHolds s) : DriveHolds s.clinchEnd := by
  unfold State.clinchEnd
  split
  · have hretract : DriveHolds (State.enterRetract { s with drive := s.drive.strokeEnded }) :=
      driveHolds_enterRetract (by simp [Drive.strokeEnded])
    exact hretract.of_eq (by simp) (by simp)
  · exact h

/-- A stall holds the CLINCH phase with its stroke ended (R171). -/
theorem DriveHolds.stall (h : DriveHolds s) : DriveHolds s.stall := by
  refine DriveHolds.settle (DriveHolds.raise ?_ ..)
  exact driveHolds_of_no_stroke rfl h.insert_of_clinch

theorem State.strokeView_headClear (exchangeFirst : Bool) :
    (s.headClear exchangeFirst).strokeView = s.strokeView := by
  unfold State.headClear State.headClearSteps
  dsimp only
  (repeat' split) <;> simp [State.strokeView]

theorem DriveHolds.homingEnds (h : DriveHolds s) (hhoming : s.head.state = .homing) :
    DriveHolds s.homingEnds :=
  h.outsideClinch (by simp [hhoming]) (by simp [State.head_homingEnds]) (by simp [State.homingEnds])

theorem DriveHolds.retractEnds (h : DriveHolds s) (hretract : s.head.state = .retract)
    (exchangeFirst : Bool) : DriveHolds (s.retractEnds exchangeFirst) :=
  h.outsideClinch (by simp [hretract]) (by simp [State.retractEnds, Head.ended])
    (by simp [State.retractEnds])

theorem DriveHolds.homeRise (h : DriveHolds s) (exchangeFirst : Bool) :
    DriveHolds (s.homeRise exchangeFirst) := by
  unfold State.homeRise
  split
  · rename_i hretract
    exact (h.retractEnds hretract _).settle
  · rename_i hhoming
    exact ((h.homingEnds hhoming).cycleStart true).settle
  · exact h

/-- A jam keeps the law where the edge taken with it does, in the phase that has jammed. -/
theorem DriveHolds.headJam (h : DriveHolds s) (phase : JamPhase) {edge : State → State}
    (hedge : ∀ u, DriveHolds u → u.head.state = s.head.state → DriveHolds (edge u)) :
    DriveHolds (s.headJam phase edge) :=
  .settle (.react (hedge _ (h.congr (by simp [State.strokeView])) (by simp)) _)

theorem driveHolds_withEdge {f : State → State} (h : DriveHolds s) (hf : DriveHolds (f s))
    (edge : Bool) : DriveHolds (withEdge edge f s) := by
  cases edge
  · exact h
  · exact hf

theorem DriveHolds.phaseTimeout (h : DriveHolds s) (edge exchangeFirst : Bool) :
    DriveHolds (s.phaseTimeout edge exchangeFirst) := by
  unfold State.phaseTimeout
  split
  · split
    · exact h
    · rename_i hhoming
      exact ((h.homingEnds hhoming).raise ..).settle
    · exact h.headJam _ fun u hu _ => driveHolds_withEdge hu hu.formedEdge _
    · exact h.headJam _ fun u hu _ => driveHolds_withEdge hu hu.downEdge _
    · exact h.stall
    · rename_i hretract
      exact h.headJam _ fun u hu hs =>
        driveHolds_withEdge hu (hu.retractEnds (hs.trans hretract) _) _
  · exact h

/-! ## The stroke (R170 to R176) -/

theorem DriveHolds.tripReached (h : DriveHolds s) (current : Nat) :
    DriveHolds (s.tripReached current) := by
  have htripped : DriveHolds { s with drive := s.drive.tripped } := h.congr rfl
  unfold State.tripReached
  split
  · split
    · exact htripped.stall
    · exact htripped
  · exact h

theorem DriveHolds.offTimeExpiry (h : DriveHolds s) : DriveHolds s.offTimeExpiry := by
  unfold State.offTimeExpiry
  split
  · exact h.congr rfl
  · exact h

theorem Drive.stroke_sampled (d : Drive) (current : Nat) :
    (d.sampled current).stroke = d.stroke := by
  unfold Drive.sampled
  split <;> rfl

/-- An open load holds the CLINCH phase with its stroke ended (R175). -/
theorem DriveHolds.openLoad (h : DriveHolds s) : DriveHolds s.openLoad := by
  refine DriveHolds.settle (DriveHolds.raise ?_ ..)
  exact driveHolds_of_no_stroke rfl h.insert_of_clinch

theorem DriveHolds.clinchSample (h : DriveHolds s) (current : Nat) :
    DriveHolds (s.clinchSample current) := by
  have hsampled : DriveHolds
      { s with
        drive := s.drive.sampled current
        head := { s.head with peak := max s.head.peak (min 255 current) } } :=
    h.congr (by simp [State.strokeView, Drive.stroke_sampled])
  unfold State.clinchSample
  dsimp only
  split
  · split
    · exact hsampled.openLoad
    · exact hsampled
  · exact h

theorem DriveHolds.overcurrentRise (h : DriveHolds s) (current : Nat) :
    DriveHolds (s.overcurrentRise current) := by
  unfold State.overcurrentRise
  split
  · exact h.congr rfl
  · exact h

theorem DriveHolds.overcurrentFall (h : DriveHolds s) (current : Nat) :
    DriveHolds (s.overcurrentFall current) := by
  unfold State.overcurrentFall
  split
  · exact h
  · exact h.congr rfl

theorem DriveHolds.filterExpiry (h : DriveHolds s) : DriveHolds s.filterExpiry := by
  unfold State.filterExpiry
  split
  · refine DriveHolds.settle (DriveHolds.raise ?_ ..)
    exact h.congr rfl
  · exact h

/-- A restroke goes on in the CLINCH phase, whose cycle is an INSERT (R172). -/
theorem DriveHolds.restroke (h : DriveHolds s) : DriveHolds s.restroke := by
  unfold State.restroke
  split
  · rename_i hc
    exact driveHolds_enterStroke (h.insert_of_clinch hc.1)
  · exact h

/-! ## RESET and power (R208, R209) -/

theorem driveHolds_of_powerOn (hhead : s.head = Head.powerOn) (hdrive : s.drive = Drive.powerOn) :
    DriveHolds s :=
  driveHolds_of_no_stroke (by simp [hdrive, Drive.powerOn]) (by simp [hhead, Head.powerOn])

theorem DriveHolds.readFaultLines (h : DriveHolds s) : DriveHolds s.readFaultLines := by
  have hovertemp : DriveHolds (if s.inputs.levels.overtemp then s.raise .overTemp none else s) := by
    split
    · exact h.raise ..
    · exact h
  unfold State.readFaultLines
  dsimp only
  split
  · exact hovertemp
  · exact hovertemp.raise ..

theorem driveHolds_resetCommand (late : Bool) : DriveHolds (s.resetCommand late) :=
  .readFaultLines (driveHolds_of_powerOn rfl rfl)

theorem driveHolds_poweredOn (levels : LineLevels) (csLow : Bool) :
    DriveHolds (s.poweredOn levels csLow) :=
  .readFaultLines (driveHolds_of_powerOn rfl rfl)

end

/-! ## Every command -/

theorem DriveHolds.after_exec {s : State} (h : DriveHolds s) (i : Instr) :
    DriveHoldsAfter (exec i s) := by
  unfold exec
  cases i with
  | nop => exact h.after_taken h
  | lookup kind index part => exact h.after_taken (by rwa [State.state_lookup])
  | admitSlot kind sequence station x y span trip code =>
    refine h.after_taken ?_
    split
    · exact h.congr (s.strokeView_admitRecord _)
    · exact h
  | amend kind index field value =>
    exact h.after_taken (h.onPlacement fun n r => h.congr (s.strokeView_amend n _ _ r))
  | retire kind index =>
    exact h.after_taken (h.onPlacement fun n r => h.congr (s.strokeView_retire n r))
  | hold kind index =>
    exact h.after_taken (h.onPlacement fun n r => h.congr (s.strokeView_holdRecord n r))
  | release kind index =>
    exact h.after_taken (h.onPlacement fun n r => h.congr (s.strokeView_releaseRecord n r))
  | skip kind index parity =>
    exact h.after_taken (h.onPlacement fun n r => h.onParity fun p =>
      h.congr (s.strokeView_skipIn n r p))
  | recallSlot kind index parity =>
    exact h.after_taken (h.onPlacement fun n r => h.onParity fun p =>
      h.congr (s.strokeView_recallIn n r p))
  | align kind index dx dy scale =>
    refine h.after_taken ?_
    split
    · exact h.onParity fun p => h.congr (s.strokeView_alignBoard p _)
    · exact h
  | load kind index remaining => exact h.after_taken (h.onStation fun k st => h.loadStation k _ st)
  | stationSetting kind index item value =>
    exact h.after_taken (h.onStation fun k st => h.stationSetting k _ _ st)
  | stationState kind index value =>
    refine h.after_taken (h.onStation fun k st => ?_)
    split
    · exact h.of_eq (by simp [State.stationOffline]) (by simp [State.stationOffline])
    · exact h.stationOnline k st
    · exact h
  | clearStation kind index => exact h.after_taken (h.onStation h.clearStation)
  | clearClipCondition index =>
    refine h.after_taken ?_
    split
    · exact h.of_eq (by simp) (by simp)
    · exact h
  | clearAlarm index =>
    refine h.after_taken ?_
    split
    · exact h.congr (s.strokeView_clearAlarm _)
    · exact h
  | set kind index value =>
    refine h.after_taken ?_
    split
    · split
      · exact h.congr (s.strokeView_setItem _ _)
      · exact h
    · exact h
  | ack => exact h.after_taken (h.congr s.strokeView_ack)
  | run verifyPresent => exact h.after_taken (h.congr (s.strokeView_run _))
  | pause => exact h.after_taken h.pause
  | resume boardPresent => exact h.after_taken (h.congr (s.strokeView_resume _))
  | drain => exact h.after_taken (h.congr s.strokeView_drain)
  | halt => exact h.after_taken h.halt
  | recover => exact h.after_taken (h.congr s.strokeView_recover)
  | reset late => exact h.after_taken (driveHolds_resetCommand late)
  | unknownCommand code => exact h.after_taken h
  | frameDiscard => exact h.after_frameEnd (h.of_eq rfl rfl)
  | powerOn levels csLow => exact driveHoldsAfter_next (driveHolds_poweredOn levels csLow)
  | sprocketEdge k pocket => exact h.after_stationLine (h.sprocket k pocket)
  | advanceTimeout k => exact h.after_stationLine (h.jam k)
  | indexBegin =>
    refine h.after_event ?_
    split
    · exact h.of_eq rfl rfl
    · exact h
  | indexCompletion present leads order =>
    exact h.after_event (h.indexCompletion present leads order)
  | indexTimeout => exact h.after_event h.chainJam
  | homeMarkEdge =>
    refine h.after_event ?_
    unfold State.markEdge
    split
    · exact h.of_eq rfl rfl
    · exact h
  | boardOpen => exact h.after_event (h.congr s.strokeView_openIfMay)
  | exchangeBegin => exact h.after_event (h.of_eq (by simp) (by simp))
  | transferDone boardPresent openFirst =>
    exact h.after_event (h.transferDone boardPresent openFirst)
  | boardPresentRise =>
    refine h.after_event ?_
    unfold State.presentRise
    split
    · exact h.of_eq (by simp) (by simp)
    · exact h
  | clampedRise =>
    refine h.after_event ?_
    unfold State.clampedRise
    split
    · exact h.of_eq (by simp) (by simp)
    · exact h.of_eq (by simp) (by simp)
  | clampedFall => exact h.after_event h.clampedFall
  | transferTimeout =>
    refine h.after_event ?_
    split
    · exact h.abandonExchange
    · exact h
  | clampTimeout =>
    refine h.after_event ?_
    split
    · exact h.abandonExchange
    · exact h
  | slotActivation =>
    refine h.after_event ?_
    unfold State.slotActivation
    split
    · exact h.of_eq (by simp) (by simp)
    · exact h
  | positionSample axis count boardPresent =>
    exact h.after_event (h.positionSample axis _ boardPresent)
  | lockTimeout axis => exact h.after_event (h.lockTimeout axis)
  | cycleStart home => exact h.after_event (h.cycleStart home)
  | homingStart home => exact h.after_event (h.homingStart home)
  | formed => exact h.after_event h.formedEdge
  | down => exact h.after_event h.downEdge
  | clinchEnd => exact h.after_event h.clinchEnd
  | headClear exchangeFirst =>
    exact h.after_event (h.congr (State.strokeView_headClear exchangeFirst))
  | homeRise exchangeFirst => exact h.after_event (h.homeRise exchangeFirst)
  | phaseTimeout edge exchangeFirst => exact h.after_event (h.phaseTimeout edge exchangeFirst)
  | tripReached current => exact h.after_event (h.tripReached current)
  | offTimeExpiry => exact h.after_event h.offTimeExpiry
  | clinchSample current => exact h.after_event (h.clinchSample current)
  | overcurrentRise current => exact h.after_event (h.overcurrentRise current)
  | overcurrentFall current => exact h.after_event (h.overcurrentFall current)
  | overcurrentFilterExpiry => exact h.after_event h.filterExpiry
  | restroke => exact h.after_event h.restroke
  | overtempRise =>
    exact h.after_event (.settle (.raise (.homingCheck (h.of_eq (by simp) (by simp))) ..))
  | overtempFall => exact h.after_event (h.of_eq (by simp) (by simp))
  | supplyOkFall =>
    exact h.after_event (.settle (.raise (.homingCheck (h.of_eq (by simp) (by simp))) ..))
  | supplyOkRise => exact h.after_event (h.of_eq (by simp) (by simp))
  | stopNFall => exact h.after_event (.haltIfMoving (h.of_eq (by simp) (by simp)))
  | stopNRise => exact h.after_event (h.of_eq (by simp) (by simp))
  | pausingQuiet => exact h.after_event h.pausingQuiet
  | drainEnd => exact h.after_event (h.of_eq (by simp) (by simp))
  | retryTimeout kind =>
    refine h.after_event ?_
    split
    · exact h.of_eq (by simp) (by simp)
    · exact h
  | porNFall => exact driveHoldsAfter_next (h.of_eq rfl rfl)

theorem DriveHolds.after_step {s : State} (h : DriveHolds s) : DriveHoldsAfter (step s) := by
  unfold step
  split
  · exact driveHoldsAfter_next h
  · refine DriveHolds.after_exec ?_ _
    exact h.of_eq rfl rfl

/-! ## The bridge (R177) -/

/-- BRIDGE_ON is high where the drive is available and a stroke stands in phase ON. -/
theorem State.bridgeOn_iff (s : State) :
    s.bridgeOn = true ↔
      s.inputs.porN = true ∧ s.driveAvailable = true ∧ s.drive.stroke = .commanded ∧
        s.drive.chop = .on := by
  unfold State.bridgeOn State.driveAvailable
  cases s.drive.stroke <;> cases s.drive.chop <;> simp
  tauto

end Sys2Proof.Machine

open Sys2Proof Sys2Proof.Machine

/-- Settles O4: the law is kept by every command, and the bridge needs a commanded stroke and an
available drive. -/
theorem stepKeepsDriveLaw : Obligations.StepKeepsDriveLaw := by
  refine ⟨fun s t h => h.after_step t, fun s h => ⟨fun hbridge => ?_, s.driveAvailable_iff⟩⟩
  obtain ⟨-, havailable, hstroke, -⟩ := s.bridgeOn_iff.mp hbridge
  have hclinch := h.clinch_of_commanded hstroke
  exact ⟨hclinch, h.insert_of_clinch hclinch, s.driveAvailable_iff.mp havailable⟩

end

section
/-! PROOFS. The line ALARM_N (spec 10, R197), and HALT by the command and by STOP_N (R188, R189):
what the feeds in flight leave of the placement under the head (R58), what the cut of the head leaves
(R167), and the records of every block after a HALT. -/

namespace Sys2Proof.Machine

/-! ## ALARM_N (R197, R208) -/

/-- A part that is off holds ALARM_N low; a live one lowers it in START and for every record that is
not CLEAR. -/
theorem State.alarmN_eq_false_iff (s : State) :
    s.alarmN = false ↔
      s.inputs.porN = false ∨ s.machine.state = .start ∨
        ∃ k : AlarmKind, (s.alarm k).state ≠ .clear := by
  have hany : (s.anyAlarm fun _ => true) = true ↔ ∃ k : AlarmKind, (s.alarm k).state ≠ .clear := by
    simp [State.anyAlarm_iff]
  rw [← hany, State.alarmN]
  cases s.inputs.porN <;> simp [Decidable.or_iff_not_imp_left]

/-! ## The station feeds at a HALT (R58) -/

theorem State.call_markClip (s : State) (k : Nat) (c : ClipState) (q : Nat) :
    ((s.markClip k c).clip q).call = (s.clip q).call := by
  rw [State.markClip, State.clip_putClip]
  split
  · rename_i h
    rw [h.1]
  · rfl

/-- A drop changes the state of a clip, and not what its call names. -/
theorem State.call_dropAt (s : State) (k q : Nat) :
    ((s.dropAt k).clip q).call = (s.clip q).call := by
  by_cases hq : q = k
  · subst hq
    unfold State.dropAt
    split
    · rfl
    · rename_i st _
      have hput : (s.putStation q st.dropped).clip q = s.clip q := clip_congr (by simp) q
      dsimp only
      split
      · exact (State.call_markClip _ q _ q).trans (congrArg Clip.call hput)
      · rw [State.recallUncounted, State.clip_request]
        exact (State.call_markClip _ q _ q).trans (congrArg Clip.call hput)
  · rw [State.clip_dropAt_ne _ hq]

/-- No feed in flight works for placement `n` in the board of parity `p`. -/
def State.NoFeedFor (s : State) (n : Nat) (p : Parity) : Prop :=
  ∀ (k : Nat) (st : Station) (d : Call), s.station? k = some st → st.feed ≠ .idle →
    (s.clip k).call = some d → d.placement = n → d.parity ≠ p

theorem State.NoFeedFor.haltFeed {s : State} {n : Nat} {p : Parity} (h : s.NoFeedFor n p)
    (k : Nat) : (s.haltFeed k).NoFeedFor n p := by
  unfold State.haltFeed
  split
  · exact h
  · split
    · exact h
    · intro j st d hst hfeed hcall
      rw [State.call_dropAt] at hcall
      rw [State.station?_dropAt] at hst
      split at hst
      · obtain ⟨old, -, rfl⟩ := Option.map_eq_some_iff.mp hst
        exact absurd rfl hfeed
      · exact h j st d hst hfeed hcall

/-- What the feeds of other placements leave of placement `n` in the board of parity `p`. -/
structure KeepsPlacement (n : Nat) (p : Parity) (s t : State) : Prop where
  status : t.statusOf n p = s.statusOf n p
  isOpen : t.isOpen p = s.isOpen p
  interrupted : (t.board p).interrupted = (s.board p).interrupted

theorem KeepsPlacement.of_eq {n : Nat} {p : Parity} {s t : State} (htable : t.table = s.table)
    (hboards : t.boards = s.boards) : KeepsPlacement n p s t where
  status := statusOf_congr htable n p
  isOpen := State.isOpen_congr hboards p
  interrupted := by rw [board_congr hboards]

theorem KeepsPlacement.trans {n : Nat} {p : Parity} {s t u : State} (h : KeepsPlacement n p s t)
    (h' : KeepsPlacement n p t u) : KeepsPlacement n p s u where
  status := h'.status.trans h.status
  isOpen := h'.isOpen.trans h.isOpen
  interrupted := h'.interrupted.trans h.interrupted

/-- The recall of another placement, or from the other board. -/
theorem KeepsPlacement.recallUncounted {n m : Nat} {p q : Parity} (h : m = n → q ≠ p) (s : State) :
    KeepsPlacement n p s (s.recallUncounted m q) := by
  unfold State.recallUncounted
  rcases s.request_cases m q (fun st => { st with state := .callable }) .returned with
    hignored | ⟨r, hs, ho, hc⟩
  · rw [hignored]
    exact .of_eq rfl rfl
  · refine ⟨?_, s.isOpen_request .., ?_⟩
    · rw [State.statusOf_request hs ho hc, if_neg fun hnp => h hnp.1.symm hnp.2.symm]
    · obtain ⟨hboard, hother⟩ := s.board_request hs ho hc _ .returned
      rcases eq_or_eq_otherParity q p with rfl | rfl
      · rw [hboard]
        rfl
      · rw [hother]

theorem KeepsPlacement.haltFeed {s : State} {n : Nat} {p : Parity} (h : s.NoFeedFor n p) (k : Nat) :
    KeepsPlacement n p s (s.haltFeed k) := by
  unfold State.haltFeed
  split
  · exact .of_eq rfl rfl
  · rename_i st hst
    split
    · exact .of_eq rfl rfl
    · rename_i hfeed
      have hmarked : KeepsPlacement n p s ((s.putStation k st.dropped).markClip k .dropMissed) :=
        .of_eq (by simp) (by simp)
      cases hcall : (s.clip k).call with
      | none => rwa [State.dropAt_of_no_call hst hcall]
      | some c =>
        rw [State.dropAt_of_call hst hcall]
        exact hmarked.trans (.recallUncounted (h k st c hst hfeed hcall) _)

theorem KeepsPlacement.haltFeeds {s : State} {n : Nat} {p : Parity} (h : s.NoFeedFor n p) :
    KeepsPlacement n p s s.haltFeeds := by
  unfold State.haltFeeds
  generalize stationNumbers = l
  induction l generalizing s with
  | nil => exact .of_eq rfl rfl
  | cons k l ih => exact (KeepsPlacement.haltFeed h k).trans (ih (h.haltFeed k))

/-- A station's feed changes no clip past the stations. -/
theorem State.clip_haltFeeds_of_lt (s : State) {q : Nat} (h : 72 < q) :
    s.haltFeeds.clip q = s.clip q := by
  have fold (l : List Nat) (hl : ∀ k ∈ l, k ≠ q) (u : State) :
      (l.foldl State.haltFeed u).clip q = u.clip q := by
    induction l generalizing u with
    | nil => rfl
    | cons k l ih =>
      rw [List.foldl_cons, ih (fun j hj => hl j (List.mem_cons_of_mem k hj))]
      unfold State.haltFeed
      split
      · rfl
      · split
        · rfl
        · exact u.clip_dropAt_ne (hl k List.mem_cons_self).symm
  refine fold stationNumbers (fun k hk => ?_) s
  have hstation := (mem_stationNumbers k).mp hk
  omega

theorem State.length_stretch_haltFeeds (s : State) :
    s.haltFeeds.stretch.length = s.stretch.length :=
  foldl_keeps _ (fun u => u.stretch.length) State.length_stretch_haltFeed _ s

/-! ## The cut of the head (R71, R167) -/

theorem Head.interrupts_iff (h : Head) :
    h.interrupts = true ↔
      h.kind = some .insert ∧ (h.state = .form ∨ h.state = .drive ∨ h.state = .clinch) := by
  unfold Head.interrupts
  cases h.state <;> simp

theorem State.clip_interrupt_ne (s : State) {q : Nat} (h : q ≠ 80) :
    s.interrupt.clip q = s.clip q := by
  unfold State.interrupt
  split
  · dsimp only
    split
    · exact s.clip_putClip_ne h _
    · rw [State.interruptionRequest, State.clip_request]
      exact s.clip_putClip_ne h _
  · rfl

theorem State.clip_interrupt {s : State} (h : s.head.interrupts = true)
    (hlength : 80 < s.stretch.length) :
    s.interrupt.clip 80 = (s.clip 80).emptied .unknown := by
  have hput : (s.putClip 80 ((s.clip 80).emptied .unknown)).clip 80 =
      (s.clip 80).emptied .unknown := by
    rw [State.clip_putClip, if_pos ⟨rfl, hlength⟩]
  unfold State.interrupt
  rw [if_pos h]
  dsimp only
  split
  · exact hput
  · rw [State.interruptionRequest, State.clip_request, hput]

/-- The interruption request of a cut finds its placement CALLED (R10, R12). -/
theorem State.statusOf_interrupt {s : State} {j : Job} {u : StatusSlot}
    (hcut : s.head.interrupts = true) (hjob : s.head.job = some j)
    (hu : s.statusOf j.placement (parityOf j.board) = some u) (hcalled : u.state = .called)
    (hopen : s.isOpen (parityOf j.board) = true) :
    s.interrupt.statusOf j.placement (parityOf j.board) = some { u with state := .interrupted } ∧
      (s.interrupt.board (parityOf j.board)).interrupted =
        min 65535 ((s.board (parityOf j.board)).interrupted + 1) := by
  obtain ⟨r, hr, rfl⟩ := Option.map_eq_some_iff.mp hu
  simp only [State.interrupt, hcut, hjob, if_true, State.interruptionRequest]
  generalize hv : s.putClip 80 ((s.clip 80).emptied .unknown) = v
  have hr' : v.slot? j.placement = some r := (slot?_congr (by simp [← hv]) _).trans hr
  have hboards : v.boards = s.boards := by simp [← hv]
  have hopen' : v.isOpen (parityOf j.board) = true := (State.isOpen_congr hboards _).trans hopen
  refine ⟨?_, ?_⟩
  · rw [State.statusOf_request hr' hopen' hcalled, if_pos ⟨rfl, rfl⟩]
  · rw [(v.board_request hr' hopen' hcalled _ .interruption).1, board_congr hboards]
    rfl

/-! ## The blocks at a HALT (R188) -/

/-- The state that a HALT's cut of the head meets. -/
def State.beforeCut (s : State) : State :=
  State.haltExchange
    { s with machine := { state := .halted, returnState := none } }.haltFeeds.haltIndex

theorem State.enterHalted_eq (s : State) :
    s.enterHalted = s.beforeCut.interrupt.stopHead.haltAxes := rfl

theorem State.head_beforeCut (s : State) : s.beforeCut.head = s.head := by simp [State.beforeCut]

theorem KeepsPlacement.beforeCut {s : State} {n : Nat} {p : Parity} (h : s.NoFeedFor n p) :
    KeepsPlacement n p s s.beforeCut := by
  unfold State.beforeCut
  generalize hv : ({ s with machine := { state := .halted, returnState := none } } : State) = v
  have hs : KeepsPlacement n p s v := by subst hv; exact .of_eq rfl rfl
  have hv : v.NoFeedFor n p := by subst hv; exact h
  exact (hs.trans (.haltFeeds hv)).trans (.of_eq (by simp) (by simp))

theorem State.clip_beforeCut (s : State) (q : Nat) :
    s.beforeCut.clip q =
      ({ s with machine := { state := .halted, returnState := none } } : State).haltFeeds.clip q :=
  clip_congr (by simp [State.beforeCut]) q

theorem State.clip_beforeCut_of_lt (s : State) {q : Nat} (h : 72 < q) :
    s.beforeCut.clip q = s.clip q :=
  (s.clip_beforeCut q).trans (State.clip_haltFeeds_of_lt _ h)

theorem State.length_stretch_beforeCut (s : State) :
    s.beforeCut.stretch.length = s.stretch.length := by
  simp [State.beforeCut, State.length_stretch_haltFeeds]

theorem State.clip_enterHalted_eq (s : State) (q : Nat) :
    s.enterHalted.clip q = s.beforeCut.interrupt.clip q :=
  clip_congr (by simp [State.enterHalted_eq]) q

/-- A HALT ends every feed in flight and leaves the other stations (R58). -/
theorem State.station?_enterHalted {s : State} (hshape : ShapeHolds s) {k : Nat} {st : Station}
    (h1 : 1 ≤ k) (h72 : k ≤ 72) (hst : s.station? k = some st) :
    (st.feed = .idle → s.enterHalted.station? k = some st) ∧
      (st.feed ≠ .idle →
        s.enterHalted.station? k = some st.dropped ∧
          (s.enterHalted.clip k).state = .dropMissed) := by
  obtain ⟨-, -, hstretch, -⟩ := hshape
  have hstation : s.enterHalted.station? k =
      ({ s with machine := { state := .halted, returnState := none } } : State).haltFeeds.station?
        k :=
    station?_congr (by simp [State.enterHalted_eq, State.beforeCut]) k
  have hclip := (s.clip_enterHalted_eq k).trans
    ((s.beforeCut.clip_interrupt_ne (by omega)).trans (s.clip_beforeCut k))
  rw [hstation, hclip]
  obtain ⟨hidle, hfeeds⟩ := State.station?_haltFeeds
    { s with machine := { state := .halted, returnState := none } } h1 h72 hst
    (by simp [hstretch])
  exact ⟨fun h => (hidle h).1, hfeeds⟩

/-- A cut leaves the clip at 80 UNKNOWN with its dump mark and clip id (R71). -/
theorem State.clip_enterHalted_cut {s : State} (hshape : ShapeHolds s)
    (hcut : s.head.interrupts = true) :
    s.enterHalted.clip 80 = (s.clip 80).emptied .unknown := by
  obtain ⟨-, -, hstretch, -⟩ := hshape
  have hbefore : s.beforeCut.clip 80 = s.clip 80 :=
    s.clip_beforeCut_of_lt (by decide)
  have hhead : s.beforeCut.head.interrupts = true := 
    (congrArg Head.interrupts s.head_beforeCut).trans hcut
  have hlength : 80 < s.beforeCut.stretch.length := by rw [State.length_stretch_beforeCut]; omega
  rw [State.clip_enterHalted_eq, State.clip_interrupt hhead hlength, hbefore]

/-- A cut leaves its placement INTERRUPTED, where no feed in flight recalls it (R10, R167). -/
theorem State.statusOf_enterHalted_cut {s : State} {j : Job} {u : StatusSlot}
    (hcut : s.head.interrupts = true) (hjob : s.head.job = some j)
    (hu : s.statusOf j.placement (parityOf j.board) = some u) (hcalled : u.state = .called)
    (hopen : s.isOpen (parityOf j.board) = true)
    (hfeeds : s.NoFeedFor j.placement (parityOf j.board)) :
    s.enterHalted.statusOf j.placement (parityOf j.board) = some { u with state := .interrupted } ∧
      (s.enterHalted.board (parityOf j.board)).interrupted =
        min 65535 ((s.board (parityOf j.board)).interrupted + 1) := by
  have hkeeps := KeepsPlacement.beforeCut hfeeds
  obtain ⟨hstatus, hcount⟩ := State.statusOf_interrupt (s := s.beforeCut)
    (by rwa [State.head_beforeCut]) (by rwa [State.head_beforeCut]) (hkeeps.status.trans hu) hcalled
    (hkeeps.isOpen.trans hopen)
  rw [statusOf_congr (s := s.beforeCut.interrupt) (by simp [State.enterHalted_eq]),
    board_congr (s := s.beforeCut.interrupt) (by simp [State.enterHalted_eq]), ← hkeeps.interrupted]
  exact ⟨hstatus, hcount⟩

theorem State.bridgeOn_of_halted {s : State} (h : s.machine.state = .halted) :
    s.bridgeOn = false := by
  by_contra hon
  obtain ⟨-, havailable, -⟩ := s.bridgeOn_iff.mp (by simpa using hon)
  exact s.driveAvailable_iff.mp havailable (.inl h)

/-! ## The command and the line (R188, R189) -/

theorem State.halt_moving {s : State}
    (h : s.machine.state = .running ∨ s.machine.state = .pausing ∨ s.machine.state = .paused ∨
      s.machine.state = .draining) : s.halt = s.enterHalted.ok := by
  rcases h with h | h | h | h <;> simp [State.halt, State.standing, h]

theorem exec_halt {s : State} (ht : Taking s) :
    exec .halt s = .next (s.halt.state.replied 19 s.halt.code s.halt.payload) :=
  taken_taking ht 19 State.halt

theorem exec_stopNFall {s : State} (hl : Live s) :
    exec .stopNFall s = .next (s.setStopN false).haltIfMoving :=
  event_live hl fun s => (s.setStopN false).haltIfMoving

/-- What the HALT steps of every block leave (R188), record by record. -/
structure HaltedFrom (s t : State) : Prop where
  machine : t.machine = { state := .halted, returnState := none }
  stations : ShapeHolds s → ∀ (k : Nat) (st : Station), 1 ≤ k → k ≤ 72 → s.station? k = some st →
    (st.feed = .idle → t.station? k = some st) ∧
      (st.feed ≠ .idle → t.station? k = some st.dropped ∧ (t.clip k).state = .dropMissed)
  chain : t.chain = s.haltIndex.chain
  exchange : t.exchange = s.haltExchange.exchange
  outputs : t.outputs = { s.haltExchange.outputs with former := false, headDrive := false }
  axes : ∀ a : Axis, t.axis a = (s.axis a).idled
  slots : ∀ p : Parity, t.moveSlot p =
    if s.head.slot = some p ∧ s.head.cleared = false then
      { s.moveSlot p with state := .free, position := none }
    else (s.moveSlot p).deactivated
  head : t.head = { s.head.ended with held := .none }
  drive : t.drive = s.drive.strokeEnded
  alarms : t.alarms = s.alarms
  settings : t.settings = s.settings
  conditions : t.conditions = s.conditions
  cutClip : ShapeHolds s → s.head.interrupts = true → t.clip 80 = (s.clip 80).emptied .unknown
  cutPlacement : s.head.interrupts = true → ∀ (j : Job) (u : StatusSlot), s.head.job = some j →
    s.statusOf j.placement (parityOf j.board) = some u → u.state = .called →
    s.isOpen (parityOf j.board) = true → s.NoFeedFor j.placement (parityOf j.board) →
    t.statusOf j.placement (parityOf j.board) = some { u with state := .interrupted } ∧
      (t.board (parityOf j.board)).interrupted =
        min 65535 ((s.board (parityOf j.board)).interrupted + 1)

theorem haltedFrom_enterHalted (s : State) : HaltedFrom s s.enterHalted where
  machine := s.machine_enterHalted
  stations hshape _ _ h1 h72 hst := State.station?_enterHalted hshape h1 h72 hst
  chain := s.chain_enterHalted
  exchange := s.exchange_enterHalted.trans s.exchange_haltExchange.symm
  outputs := by rw [State.outputs_enterHalted, State.outputs_haltExchange]
  axes := s.axis_enterHalted
  slots := s.moveSlot_enterHalted
  head := s.head_enterHalted
  drive := s.drive_enterHalted
  alarms := by simp
  settings := by simp
  conditions := by simp
  cutClip := State.clip_enterHalted_cut
  cutPlacement hcut _ _ hjob hu hcalled hopen hfeeds :=
    State.statusOf_enterHalted_cut hcut hjob hu hcalled hopen hfeeds

/-- A reply changes none of these records. -/
theorem HaltedFrom.replied {s t : State} (h : HaltedFrom s t) (cmd : Byte) (code : ReplyCode)
    (payload : List Byte) : HaltedFrom s (t.replied cmd code payload) :=
  { h with }

/-- The blocks do not read the level of STOP_N. -/
theorem HaltedFrom.of_setStopN {s t : State} {level : Bool} (h : HaltedFrom (s.setStopN level) t) :
    HaltedFrom s t :=
  { h with
    exchange := by simpa [State.exchange_haltExchange] using h.exchange
    outputs := by simpa [State.outputs_haltExchange] using h.outputs }

/-- HALT and STOP_N both halt a machine that moves; they differ in the port and the level. -/
theorem exec_halting {s : State} (hl : Live s) {c : Instr}
    (hc : (c = .halt ∧ Taking s) ∨ c = .stopNFall)
    (hmoving : s.machine.state = .running ∨ s.machine.state = .pausing ∨ s.machine.state = .paused ∨
      s.machine.state = .draining) :
    ∃ t : State, exec c s = .next t ∧ HaltedFrom s t ∧
      (c = .halt → Answered s t 19 .ok [] ∧ t.inputs = s.inputs) ∧
      (c = .stopNFall → t.port = s.port ∧
        t.inputs = { s.inputs with levels := { s.inputs.levels with stopN := false } }) := by
  rcases hc with ⟨rfl, ht⟩ | rfl
  · refine ⟨s.enterHalted.replied 19 .ok [], ?_, (haltedFrom_enterHalted s).replied .., fun _ => ?_,
      nofun⟩
    · rw [exec_halt ht, State.halt_moving hmoving]
      rfl
    · exact ⟨answered_replied s _ (by simp) (by simp) 19 .ok [], by simp⟩
  · refine ⟨(s.setStopN false).enterHalted, ?_, (haltedFrom_enterHalted _).of_setStopN, nofun,
      fun _ => ⟨by simp, ?_⟩⟩
    · rw [exec_stopNFall hl, State.haltIfMoving_moving (s.setStopN false) hmoving]
    · simp [State.setStopN]

end Sys2Proof.Machine

open Sys2Proof Sys2Proof.Machine

/-- Settles O11, from the three ways in which ALARM_N is low. -/
theorem alarmLineLaw : Obligations.AlarmLineLaw := by
  intro s
  unfold Live
  refine ⟨fun hlive => ?_, fun hoff => ?_⟩
  · rw [State.alarmN_eq_false_iff]
    simp [hlive]
  · exact s.alarmN_eq_false_iff.mpr (.inl (by simpa using hoff))

/-- Settles O57: each block's clause is what `State.enterHalted` does to its records. -/
theorem haltStopsTheMachine : Obligations.HaltStopsTheMachine := by
  intro s hl
  refine ⟨fun c hc hshape hmoving => ?moving, fun ht hstanding => ?refused,
    fun ht hhalted => ?halted, fun hstanding => ?level, event_live hl fun s => s.setStopN true⟩
  case moving =>
    obtain ⟨t, hexec, ht, hhalt, hfall⟩ := exec_halting hl hc hmoving
    refine ⟨t, hexec, ht.machine, State.bridgeOn_of_halted (by rw [ht.machine]),
      ht.stations hshape, ?index, ?timer, ?counter, ?sync,
      fun hleg => ⟨?exchange, ?request, ?clamp⟩,
      ht.axes, fun p => ⟨fun hslot hcleared => ?released, fun hother => ?kept⟩, ?head, ?headSlot,
      ?held, ?peak, ?stroke, ?strikes, ?lockout, ?former, ?headDrive, ?gate, ht.alarms, ht.settings,
      ht.conditions, fun hstate hkind => ?cut, hhalt, hfall⟩
    case index | timer | counter | sync => rw [ht.chain]; rfl
    case exchange => rw [ht.exchange, State.exchange_haltExchange, if_neg hleg]
    case request | clamp => rw [ht.outputs, State.outputs_haltExchange, if_neg hleg]
    case released => rw [ht.slots, if_pos ⟨hslot, hcleared⟩]
    case kept =>
      have hnot : ¬ (s.head.slot = some p ∧ s.head.cleared = false) := by
        rintro ⟨hslot, hcleared⟩
        simp [hslot, hcleared] at hother
      rw [ht.slots, if_neg hnot]
      rfl
    case head | headSlot | held | peak => simp [ht.head, Head.ended]
    case stroke | strikes | lockout => simp [ht.drive, Drive.strokeEnded]
    case former | headDrive => rw [ht.outputs]
    case gate => rw [ht.outputs, State.outputs_haltExchange]; split <;> rfl
    case cut =>
      have hcut : s.head.interrupts = true := s.head.interrupts_iff.mpr ⟨hkind, hstate⟩
      refine ⟨ht.cutClip hshape hcut, ?_⟩
      rintro j _ u hjob rfl hu hcalled hopen hfeeds
      exact ht.cutPlacement hcut j u hjob hu hcalled hopen hfeeds
  case refused =>
    rw [exec_halt ht, State.halt, if_pos (s.standing_iff.mpr hstanding)]
    rfl
  case halted =>
    rw [exec_halt ht]
    simp [State.halt, State.standing, hhalted, State.ok]
  case level =>
    rw [exec_stopNFall hl, State.haltIfMoving_standing (s.setStopN false) hstanding]
    rfl

end

section
/-! PROOFS. RUN and RESUME (spec 10, R183, R186): the plans and the judgment that RUN makes (R112,
R149), the feeds that RESUME resolves (R50), and the leg that a waiting exchange begins (R36, R39).
-/

namespace Sys2Proof.Machine

/-! ## The records that bar a start (R183, R186) -/

theorem State.anyAlarm_eq_false_iff (s : State) (test : AlarmRecord → Bool) :
    s.anyAlarm test = false ↔
      ∀ k : AlarmKind, test (s.alarm k) = true → (s.alarm k).state = .clear := by
  rw [← Bool.not_eq_true, State.anyAlarm_iff]
  push Not
  exact forall_congr' fun k => by tauto

theorem State.haltAlarm_eq_false_iff (s : State) :
    s.haltAlarm = false ↔
      ∀ k : AlarmKind, (s.alarm k).reaction = .halt → (s.alarm k).state = .clear := by
  simp [State.haltAlarm, State.anyAlarm_eq_false_iff]

theorem State.stopAlarm_eq_false_iff (s : State) :
    s.stopAlarm = false ↔
      ∀ k : AlarmKind, (s.alarm k).reaction ≠ .note → (s.alarm k).state = .clear := by
  simp [State.stopAlarm, State.anyAlarm_eq_false_iff]

theorem State.mayRun_iff (s : State) :
    s.mayRun = true ↔
      s.machine.state = .stopped ∧ s.inputs.levels.stopN = true ∧
        ∀ k : AlarmKind, (s.alarm k).reaction = .halt → (s.alarm k).state = .clear := by
  rw [← State.haltAlarm_eq_false_iff]
  simp [State.mayRun]
  tauto

/-! ## The plans at RUN (R149) -/

theorem State.served_of_free {s : State} (h : ∀ p : Parity, (s.moveSlot p).state = .free)
    (pos : SlotPosition) : s.served pos = false := by
  simp [State.served, h]

theorem State.planAtRun_unknown {s : State} {pos : SlotPosition} (hserved : s.served pos = false)
    (hclip : (s.clip pos.number).state = .unknown) : s.planAtRun pos = s.planDump pos := by
  simp [State.planAtRun, hserved, hclip]

theorem State.clip_planAtRun_ne (s : State) (pos : SlotPosition) {q : Nat} (h : q ≠ pos.number) :
    (s.planAtRun pos).clip q = s.clip q := by
  unfold State.planAtRun
  split
  · rfl
  · split
    · exact s.clip_takeSlot _ q
    · split
      · exact s.clip_takeSlot _ q
      · split
        · exact s.clip_planInsert_ne pos _ h
        · rfl
    · rfl

theorem State.moveSlot_planDump (s : State) (pos : SlotPosition) (p : Parity) :
    (s.planDump pos).moveSlot p =
      if p = s.slotToTake then MoveSlot.dumpPlan pos s.dumpTargets else s.moveSlot p :=
  State.moveSlot_putMoveSlot ..

theorem State.slotToTake_of_free {s : State} (h : (s.moveSlot s.alternation).state = .free) :
    s.slotToTake = s.alternation := by
  rw [State.slotToTake, if_pos h]

/-- After a reset the records at 80 and 79 take EVEN and ODD, in this order (R149, R157). -/
theorem State.planAtRun_reset {s : State} (hfree : ∀ p : Parity, (s.moveSlot p).state = .free)
    (halternation : s.alternation = .even) (h80 : (s.clip 80).state = .unknown)
    (h79 : (s.clip 79).state = .unknown) :
    ((s.planAtRun .p80).planAtRun .p79).alternation = .even ∧
      ((s.planAtRun .p80).planAtRun .p79).moveSlot .even =
        MoveSlot.dumpPlan .p80 s.dumpTargets ∧
      ((s.planAtRun .p80).planAtRun .p79).moveSlot .odd =
        MoveSlot.dumpPlan .p79 s.dumpTargets := by
  rw [State.planAtRun_unknown (s.served_of_free hfree .p80) h80]
  have hfirst : s.slotToTake = .even := by
    rw [State.slotToTake_of_free (hfree _), halternation]
  generalize hv : s.planDump .p80 = v
  have heven : v.moveSlot .even = MoveSlot.dumpPlan .p80 s.dumpTargets := by
    rw [← hv, State.moveSlot_planDump, hfirst, if_pos rfl]
  have hodd : v.moveSlot .odd = s.moveSlot .odd := by
    rw [← hv, State.moveSlot_planDump, hfirst, if_neg (by decide)]
  have hnext : v.alternation = .odd := by
    rw [← hv]
    exact congrArg otherParity hfirst
  have hserved : v.served .p79 = false := by
    simp [State.served, heven, hodd, hfree, MoveSlot.dumpPlan]
  have hclip : (v.clip 79).state = .unknown := by
    rw [← hv, clip_congr (s := s) (by simp), h79]
  have htargets : v.dumpTargets = s.dumpTargets := by simp [State.dumpTargets, ← hv]
  have hsecond : v.slotToTake = .odd := by
    rw [State.slotToTake_of_free (by rw [hnext, hodd, hfree]), hnext]
  rw [State.planAtRun_unknown hserved hclip, State.moveSlot_planDump, State.moveSlot_planDump,
    hsecond, if_neg (by decide), if_pos rfl, heven, htargets]
  exact ⟨congrArg otherParity hsecond, rfl, rfl⟩

/-! ## RUN (R183) -/

/-- The judgment at RUN changes no record but the one at 76. -/
theorem State.clip_judgeAtRun_ne (s : State) (present : Bool) {q : Nat} (h : q ≠ 76) :
    (s.judgeAtRun present).clip q = s.clip q := by
  unfold State.judgeAtRun State.judgeUncarried
  split
  · split <;> exact s.clip_writeJudgment_ne _ _ h
  · rfl

/-- The judgment of an UNKNOWN record at 76 (R112). -/
theorem State.clip_judgeAtRun {s : State} (present : Bool) (hlength : 76 < s.stretch.length)
    (h : (s.clip 76).state = .unknown) :
    ((s.judgeAtRun present).clip 76).state = (if present = true then .stray else .passedEmpty) ∧
      ((s.judgeAtRun present).clip 76).verify =
        some (if present = true then .stray else .empty) := by
  rw [State.judgeAtRun, if_pos h]
  cases present <;>
    simp [State.judgeUncarried, State.writeJudgment, State.clip_putClip, hlength]

theorem State.judgeAtRun_changes (s : State) (present : Bool) :
    ∃ stretch : List Clip, s.judgeAtRun present = { s with stretch := stretch } := by
  unfold State.judgeAtRun State.judgeUncarried
  split
  · split <;> exact ⟨_, rfl⟩
  · exact ⟨s.stretch, rfl⟩

/-- The machine in RUNNING, the clip at 76 judged: what the planning at RUN meets. -/
def State.beforePlans (s : State) (present : Bool) : State :=
  (State.enter { s with runCounter := s.runCounterAtRun } .running).judgeAtRun present

theorem State.beforePlans_changes (s : State) (present : Bool) :
    ∃ stretch : List Clip, s.beforePlans present =
      { s with
        runCounter := s.runCounterAtRun
        machine := { state := .running, returnState := none }
        stretch := stretch } := by
  obtain ⟨stretch, h⟩ := State.judgeAtRun_changes
    (State.enter { s with runCounter := s.runCounterAtRun } .running) present
  exact ⟨stretch, h⟩

theorem State.enterRunning_eq (s : State) (present : Bool) :
    s.enterRunning present =
      (((s.beforePlans present).planAtRun .p80).planAtRun .p79).headJudge := rfl

theorem State.clip_beforePlans_ne (s : State) (present : Bool) {q : Nat} (h : q ≠ 76) :
    (s.beforePlans present).clip q = s.clip q :=
  State.clip_judgeAtRun_ne _ present h

/-- RUN changes the table, the boards, the stretch and the slots by its plans, and the index request
by the head's judgment. -/
theorem State.enterRunning_changes (s : State) (present : Bool) :
    s.enterRunning present =
      { s with
        table := (s.enterRunning present).table
        boards := (s.enterRunning present).boards
        runCounter := (s.enterRunning present).runCounter
        stretch := (s.enterRunning present).stretch
        slots := (s.enterRunning present).slots
        alternation := (s.enterRunning present).alternation
        chain := { s.chain with indexState := (s.enterRunning present).chain.indexState }
        machine := { state := .running, returnState := none } } := by
  rw [State.enterRunning_eq, State.headJudge_eq]
  obtain ⟨stretch, hs⟩ := s.beforePlans_changes present
  have hfirst := (s.beforePlans present).planAtRun_frame .p80
  generalize (s.beforePlans present).planAtRun .p80 = w at hfirst ⊢
  have hsecond := w.planAtRun_frame .p79
  generalize w.planAtRun .p79 = x at hsecond ⊢
  rw [hs] at hfirst
  cases s
  cases w
  cases x
  simp_all

theorem State.clip_headJudge (s : State) (q : Nat) : s.headJudge.clip q = s.clip q :=
  clip_congr (by simp) q

theorem State.moveSlot_headJudge (s : State) (p : Parity) :
    s.headJudge.moveSlot p = s.moveSlot p := moveSlot_congr (by simp) p

/-- The run counter goes back to 0 where no board is open (R28, R183). -/
theorem State.runCounter_enterRunning (s : State) (present : Bool) :
    (s.enterRunning present).runCounter =
      if s.isOpen .even = true ∨ s.isOpen .odd = true then s.runCounter else 0 := by
  obtain ⟨stretch, hs⟩ := s.beforePlans_changes present
  simp [State.enterRunning_eq, hs, State.runCounterAtRun, State.boardOpen]

/-- The two dump plans that RUN makes after a reset (R149, R157). -/
theorem State.enterRunning_plans {s : State} (present : Bool)
    (hfree : ∀ p : Parity, (s.moveSlot p).state = .free) (halternation : s.alternation = .even)
    (h80 : (s.clip 80).state = .unknown) (h79 : (s.clip 79).state = .unknown) :
    (s.enterRunning present).alternation = .even ∧
      (s.enterRunning present).moveSlot .even = MoveSlot.dumpPlan .p80 s.dumpTargets ∧
      (s.enterRunning present).moveSlot .odd = MoveSlot.dumpPlan .p79 s.dumpTargets := by
  have hclip80 := s.clip_beforePlans_ne present (q := 80) (by decide)
  have hclip79 := s.clip_beforePlans_ne present (q := 79) (by decide)
  obtain ⟨stretch, hs⟩ := s.beforePlans_changes present
  have hslots : (s.beforePlans present).slots = s.slots := by rw [hs]
  have hsettings : (s.beforePlans present).settings = s.settings := by rw [hs]
  obtain ⟨hnext, heven, hodd⟩ := State.planAtRun_reset (s := s.beforePlans present)
    (fun p => by rw [moveSlot_congr hslots, hfree]) (by rw [hs, ← halternation])
    (by rw [hclip80, h80]) (by rw [hclip79, h79])
  have htargets : (s.beforePlans present).dumpTargets = s.dumpTargets := by
    simp [State.dumpTargets, hsettings]
  rw [htargets] at heven hodd
  rw [State.enterRunning_eq, State.moveSlot_headJudge, State.moveSlot_headJudge]
  exact ⟨by simpa using hnext, heven, hodd⟩

theorem State.clip_enterRunning_76 {s : State} (hshape : ShapeHolds s) (present : Bool)
    (h : (s.clip 76).state = .unknown) :
    ((s.enterRunning present).clip 76).state =
        (if present = true then .stray else .passedEmpty) ∧
      ((s.enterRunning present).clip 76).verify =
        some (if present = true then .stray else .empty) := by
  obtain ⟨-, -, hstretch, -⟩ := hshape
  have hplans : (s.enterRunning present).clip 76 = (s.beforePlans present).clip 76 := by
    rw [State.enterRunning_eq, State.clip_headJudge,
      State.clip_planAtRun_ne _ _ (by decide), State.clip_planAtRun_ne _ _ (by decide)]
  rw [hplans]
  exact State.clip_judgeAtRun (s := State.enter { s with runCounter := s.runCounterAtRun } .running)
    present (by simp [hstretch]) h

theorem exec_run {s : State} (ht : Taking s) (present : Bool) :
    exec (.run present) s =
      .next ((s.run present).state.replied 15 (s.run present).code (s.run present).payload) :=
  taken_taking ht 15 fun s => s.run present

/-! ## The feeds at RESUME (R50) -/

/-- The record of a station that takes its feed on (R49, R50). -/
def Station.takenOn (st : Station) : Station :=
  { st with
    feed := .advancing, retriesUsed := 0
    work := some { retryLimit := st.retryLimit, advanceTimeout := st.advanceTimeout }
    advanceTimer := some st.advanceTimeout }

/-- The record of a station after its DUE feed, if it has one, is resolved (R50). -/
def Station.dueResolved (st : Station) : Station :=
  if st.feed = .due then if st.state = .ready then st.takenOn else st.dropped else st

theorem Station.dueResolved_of_ne {st : Station} (h : st.feed ≠ .due) : st.dueResolved = st :=
  if_neg h

theorem Station.dueResolved_ready {st : Station} (h : st.feed = .due) (hready : st.state = .ready) :
    st.dueResolved = st.takenOn := by
  rw [Station.dueResolved, if_pos h, if_pos hready]

theorem Station.dueResolved_not_ready {st : Station} (h : st.feed = .due)
    (hready : st.state ≠ .ready) : st.dueResolved = st.dropped := by
  rw [Station.dueResolved, if_pos h, if_neg hready]

theorem State.takeOn_eq {s : State} {k : Nat} {st : Station} (h : s.station? k = some st) :
    s.takeOn k = s.putStation k st.takenOn := by
  simp only [State.takeOn, h]
  rfl

theorem State.station?_resolveDue {s : State} {k : Nat} {st : Station}
    (h : s.station? k = some st) : (s.resolveDue k).station? k = some st.dueResolved := by
  simp only [State.resolveDue, Station.dueResolved, h]
  split
  · split
    · rw [State.takeOn_eq h, State.station?_putStation_self h]
    · exact State.station?_dropAt_self h
  · exact h

theorem State.clip_takeOn (s : State) (k q : Nat) : (s.takeOn k).clip q = s.clip q :=
  clip_congr (by simp) q

/-- A feed is resolved at its own station and clip. -/
theorem State.resolveDue_ne (s : State) (k j : Nat) (h : j ≠ k) :
    (s.resolveDue k).station? j = s.station? j ∧ (s.resolveDue k).clip j = s.clip j := by
  unfold State.resolveDue
  split
  · exact ⟨rfl, rfl⟩
  · rename_i st hst
    split
    · split
      · exact ⟨by rw [State.takeOn_eq hst, State.station?_putStation_ne _ h], s.clip_takeOn k j⟩
      · exact ⟨by rw [State.station?_dropAt, if_neg h], s.clip_dropAt_ne h⟩
    · exact ⟨rfl, rfl⟩

theorem State.length_stretch_resolveDue (s : State) (k : Nat) :
    (s.resolveDue k).stretch.length = s.stretch.length := by
  unfold State.resolveDue
  (repeat' split) <;> simp

/-- A DUE feed at a station that is not READY gives up its clip (R50). -/
theorem State.clip_resolveDue_dropped {s : State} {k : Nat} {st : Station}
    (h : s.station? k = some st) (hk : k < s.stretch.length) (hdue : st.feed = .due)
    (hready : st.state ≠ .ready) : ((s.resolveDue k).clip k).state = .dropMissed := by
  simp only [State.resolveDue, h, if_pos hdue, if_neg hready]
  rw [State.clip_dropAt s h hk, if_pos rfl]

/-- Every DUE feed is resolved (R50). -/
theorem State.station?_resolveDueFeeds {s : State} {k : Nat} {st : Station} (h1 : 1 ≤ k)
    (h72 : k ≤ 72) (hst : s.station? k = some st) (hlength : k < s.stretch.length) :
    s.resolveDueFeeds.station? k = some st.dueResolved ∧
      (st.feed = .due → st.state ≠ .ready → (s.resolveDueFeeds.clip k).state = .dropMissed) :=
  foldl_stations State.resolveDue_ne State.length_stretch_resolveDue
    (fun u j => u.station? j = some st ∧ j < u.stretch.length)
    (fun u j => u.station? j = some st.dueResolved ∧
      (st.feed = .due → st.state ≠ .ready → (u.clip j).state = .dropMissed))
    (fun _ _ _ hstation _ hl h => ⟨hstation.trans h.1, hl ▸ h.2⟩)
    (fun _ _ _ hstation hclip h => ⟨hstation.trans h.1, fun hd hr => hclip ▸ h.2 hd hr⟩)
    (fun _ _ h => ⟨State.station?_resolveDue h.1, State.clip_resolveDue_dropped h.1 h.2⟩)
    stationNumbers nodup_stationNumbers s k ((mem_stationNumbers k).mpr ⟨h1, h72⟩) ⟨hst, hlength⟩

/-! ## The boards while the feeds are resolved -/

/-- What a recall leaves of the boards: which are open, their numbers, places and alignments. -/
structure KeepsPlaces (s t : State) : Prop where
  isOpen : ∀ p : Parity, t.isOpen p = s.isOpen p
  number : ∀ p : Parity, (t.board p).number = (s.board p).number
  tableState : ∀ p : Parity, (t.board p).tableState = (s.board p).tableState
  correction : ∀ p : Parity, (t.board p).correction = (s.board p).correction

theorem KeepsPlaces.of_eq {s t : State} (h : t.boards = s.boards) : KeepsPlaces s t where
  isOpen := State.isOpen_congr h
  number p := by rw [board_congr h]
  tableState p := by rw [board_congr h]
  correction p := by rw [board_congr h]

theorem KeepsPlaces.trans {s t u : State} (h : KeepsPlaces s t) (h' : KeepsPlaces t u) :
    KeepsPlaces s u where
  isOpen p := (h'.isOpen p).trans (h.isOpen p)
  number p := (h'.number p).trans (h.number p)
  tableState p := (h'.tableState p).trans (h.tableState p)
  correction p := (h'.correction p).trans (h.correction p)

theorem KeepsPlaces.request (s : State) (n : Nat) (p : Parity) (f : StatusSlot → StatusSlot)
    (rep : Report) : KeepsPlaces s (s.request n p f rep) := by
  rcases s.request_cases n p f rep with hignored | ⟨r, hs, ho, hc⟩
  · rw [hignored]
    exact .of_eq rfl
  · choose hnumber htable hcorrection _ using s.board_request_keeps hs ho hc f rep
    exact ⟨fun q => s.isOpen_request n p q f rep, hnumber, htable, hcorrection⟩

theorem KeepsPlaces.dropAt (s : State) (k : Nat) : KeepsPlaces s (s.dropAt k) := by
  cases hst : s.station? k with
  | none =>
    simp only [State.dropAt, hst]
    exact .of_eq rfl
  | some st =>
    have hmarked : KeepsPlaces s ((s.putStation k st.dropped).markClip k .dropMissed) :=
      .of_eq (by simp)
    cases hcall : (s.clip k).call with
    | none => rwa [State.dropAt_of_no_call hst hcall]
    | some c =>
      rw [State.dropAt_of_call hst hcall]
      exact hmarked.trans (.request ..)

theorem KeepsPlaces.resolveDue (s : State) (k : Nat) : KeepsPlaces s (s.resolveDue k) := by
  unfold State.resolveDue
  split
  · exact .of_eq rfl
  · split
    · split
      · exact .of_eq (by simp)
      · exact .dropAt s k
    · exact .of_eq rfl

theorem KeepsPlaces.resolveDueFeeds (s : State) : KeepsPlaces s s.resolveDueFeeds := by
  unfold State.resolveDueFeeds
  generalize stationNumbers = l
  induction l generalizing s with
  | nil => exact .of_eq rfl
  | cons k l ih => exact (KeepsPlaces.resolveDue s k).trans (ih _)

/-- The board to load next is found by the records that a recall leaves. -/
theorem KeepsPlaces.nextToLoad {s t : State} (h : KeepsPlaces s t) :
    t.nextToLoad = s.nextToLoad := by
  have hopen : t.isOpen = s.isOpen := funext h.isOpen
  have holder : t.isOlder = s.isOlder := by
    funext p q
    simp only [State.isOlder, hopen, h.number]
  have hplace (p : Parity) :
      decide ((t.board p).tableState = .notLoaded) = decide ((s.board p).tableState = .notLoaded) :=
    by rw [h.tableState]
  unfold State.nextToLoad State.boardsByAge State.openBoards
  rw [hopen, holder, funext hplace]

/-! ## The leg that a waiting exchange begins (R36, R39) -/

theorem SlotPosition.lt_number (pos : SlotPosition) : 78 < pos.number := by cases pos <;> decide

theorem State.clip_computeSlot_of_le (s : State) (p : Parity) {q : Nat} (h : q ≤ 78) :
    (s.computeSlot p).clip q = s.clip q := by
  rcases s.computeSlot_cases p with hleft | ⟨pos, j, hput | hvoid⟩
  · rw [hleft]
  · rw [hput]
    exact clip_congr (by simp) q
  · have hpos := pos.lt_number
    rw [hvoid, State.clip_outOfTravel_ne _ (by omega)]
    exact clip_congr (by simp) q

theorem State.clip_evalPhase (s : State) (p : Parity) (q : Nat) :
    (s.evalPhase p).clip q = s.clip q := clip_congr (by simp) q

theorem State.clip_clampingEnds_of_le (s : State) {q : Nat} (h : q ≤ 78) :
    s.clampingEnds.clip q = s.clip q := by
  unfold State.clampingEnds
  dsimp only
  split
  · rfl
  · rw [State.clip_evalPhase, State.computeAwaiting,
      State.clip_computeSlot_of_le _ _ h, State.clip_computeSlot_of_le _ _ h]
    exact clip_congr (by simp) q

theorem State.clip_beginClamping_of_le (s : State) {q : Nat} (h : q ≤ 78) :
    s.beginClamping.clip q = s.clip q := by
  unfold State.beginClamping
  dsimp only
  split
  · exact State.clip_clampingEnds_of_le _ h
  · rfl

/-- A leg begun at RESUME reaches no clip before the head. -/
theorem State.clip_exchangeContinue_of_le (s : State) (present : Bool) {q : Nat} (h : q ≤ 78) :
    (s.exchangeContinue present).clip q = s.clip q := by
  unfold State.exchangeContinue
  dsimp only
  split
  · split
    · rfl
    · exact State.clip_beginClamping_of_le _ h
    · split
      · exact State.clip_beginClamping_of_le _ h
      · rfl
    · rfl
  · rfl

theorem State.exchange_clampingEnds (s : State) :
    s.clampingEnds.exchange =
      { s.exchange with leg := .idle, leaving := none, incoming := none, clampTimer := none } := by
  unfold State.clampingEnds
  dsimp only
  split <;> simp

/-- The incoming board after the end of CLAMPING (R36). -/
theorem State.board_clampingEnds {s : State} {p : Parity} (h : s.exchange.incoming = some p) :
    (s.clampingEnds.board p).tableState =
        (if s.settings.alignRequired = true then .awaitingAlign else .aligned) ∧
      (s.clampingEnds.board p).correction =
        (if s.settings.alignRequired = true then (s.board p).correction
          else some { dx := 0, dy := 0, scale := 0 }) ∧
      (s.clampingEnds.board p).number = (s.board p).number := by
  simp only [State.clampingEnds, h, State.board_evalPhase, State.board_putBoard, if_true,
    (State.computeAwaiting_keeps _).tableState, (State.computeAwaiting_keeps _).correction,
    (State.computeAwaiting_keeps _).number]
  split <;> exact ⟨rfl, rfl, rfl⟩

/-- CLAMPING as it begins, before CLAMPED is read (R36). -/
def State.clamping (s : State) : State :=
  { s with
    exchange :=
      { s.exchange with
        leg := .clamping, waiting := false, incoming := s.nextToLoad
        clampTimer := some s.settings.clampTimeout }
    outputs := { s.outputs with clamp := true } }

theorem State.beginClamping_unclamped {s : State} (h : s.inputs.levels.clamped = false) :
    s.beginClamping = s.clamping := by
  simp [State.beginClamping, State.clamping, h]

theorem State.beginClamping_clamped {s : State} (h : s.inputs.levels.clamped = true) :
    s.beginClamping = s.clamping.clampingEnds := by
  simp [State.beginClamping, State.clamping, h]

theorem State.outputs_beginClamping (s : State) :
    s.beginClamping.outputs = { s.outputs with clamp := true } := by
  cases h : s.inputs.levels.clamped with
  | false => rw [State.beginClamping_unclamped h]; rfl
  | true => rw [State.beginClamping_clamped h]; simp [State.clamping]

/-- The exchange goes on: it waits no more. -/
def State.resumedExchange (s : State) : State :=
  { s with exchange := { s.exchange with waiting := false } }

theorem State.exchangeContinue_idle {s : State} (h : s.exchange.waiting = false) (present : Bool) :
    s.exchangeContinue present = s := by
  simp [State.exchangeContinue, h]

theorem State.exchangeContinue_transfer {s : State} (hwaiting : s.exchange.waiting = true)
    (hleg : s.exchange.leg = .transfer) (present : Bool) :
    (s.exchangeContinue present).exchange =
        { s.exchange with waiting := false, transferTimer := some s.settings.transferTimeout } ∧
      (s.exchangeContinue present).outputs =
        { s.outputs with
          transferReq := true
          clamp := if s.exchange.kind = .unload then false else s.outputs.clamp } := by
  simp [State.exchangeContinue, State.beginTransfer, hwaiting, hleg]

theorem State.exchangeContinue_presentWait {s : State} (hwaiting : s.exchange.waiting = true)
    (hleg : s.exchange.leg = .presentWait) :
    s.exchangeContinue false = s.resumedExchange := by
  simp [State.exchangeContinue, State.resumedExchange, hwaiting, hleg]

theorem State.exchangeContinue_clamping {s : State} (hwaiting : s.exchange.waiting = true)
    {present : Bool}
    (hleg : s.exchange.leg = .clamping ∨ (s.exchange.leg = .presentWait ∧ present = true)) :
    s.exchangeContinue present = s.resumedExchange.beginClamping := by
  rcases hleg with hleg | ⟨hleg, hpresent⟩
  · simp [State.exchangeContinue, State.resumedExchange, hwaiting, hleg]
  · simp [State.exchangeContinue, State.resumedExchange, hwaiting, hleg, hpresent]

/-- A leg CLAMPING begun at RESUME waits for CLAMPED. -/
theorem State.exchange_resumed_unclamped {s : State} (h : s.inputs.levels.clamped = false) :
    s.resumedExchange.beginClamping.exchange =
      { s.exchange with
        leg := .clamping, waiting := false, incoming := s.nextToLoad
        clampTimer := some s.settings.clampTimeout } := by
  rw [State.beginClamping_unclamped (s := s.resumedExchange) h]
  rfl

/-- A leg CLAMPING begun at RESUME ends at once where CLAMPED is true. -/
theorem State.exchange_resumed_clamped {s : State} (h : s.inputs.levels.clamped = true) :
    s.resumedExchange.beginClamping.exchange =
      { s.exchange with
        leg := .idle, waiting := false, leaving := none, incoming := none
        clampTimer := none } := by
  rw [State.beginClamping_clamped (s := s.resumedExchange) h, State.exchange_clampingEnds]
  rfl

theorem State.board_resumed_clamped {s : State} {p : Parity} (h : s.inputs.levels.clamped = true)
    (hp : s.nextToLoad = some p) :
    (s.resumedExchange.beginClamping.board p).tableState =
        (if s.settings.alignRequired = true then .awaitingAlign else .aligned) ∧
      (s.resumedExchange.beginClamping.board p).correction =
        (if s.settings.alignRequired = true then (s.board p).correction
          else some { dx := 0, dy := 0, scale := 0 }) ∧
      (s.resumedExchange.beginClamping.board p).number = (s.board p).number := by
  rw [State.beginClamping_clamped (s := s.resumedExchange) h]
  exact State.board_clampingEnds (s := s.resumedExchange.clamping) hp

theorem State.waiting_beginClamping (s : State) : s.beginClamping.exchange.waiting = false := by
  cases h : s.inputs.levels.clamped with
  | false => rw [State.beginClamping_unclamped h]; rfl
  | true => rw [State.beginClamping_clamped h, State.exchange_clampingEnds]; rfl

theorem State.waiting_exchangeContinue (s : State) (present : Bool) :
    (s.exchangeContinue present).exchange.waiting = false := by
  unfold State.exchangeContinue
  dsimp only
  split
  · split
    · rfl
    · exact State.waiting_beginClamping _
    · split
      · exact State.waiting_beginClamping _
      · rfl
    · rfl
  · rename_i h
    simpa using h

/-! ## RESUME (R186) -/

/-- The machine in its return state with no feed DUE: what the waiting exchange meets at RESUME. -/
def State.feedsResolved (s : State) (m : MachineState) : State := (s.enter m).resolveDueFeeds

theorem State.feedsResolved_frame (s : State) (m : MachineState) :
    (s.feedsResolved m).exchange = s.exchange ∧ (s.feedsResolved m).outputs = s.outputs ∧
      (s.feedsResolved m).settings = s.settings ∧ (s.feedsResolved m).inputs = s.inputs := by
  simp [State.feedsResolved]

theorem KeepsPlaces.feedsResolved (s : State) (m : MachineState) :
    KeepsPlaces s (s.feedsResolved m) :=
  .trans (t := s.enter m) (.of_eq rfl) (.resolveDueFeeds _)

/-- RESUME before the end of DRAINING is judged. -/
def State.beforeSettle (s : State) (m : MachineState) (present : Bool) : State :=
  ((s.feedsResolved m).exchangeContinue present).headJudge

theorem State.resumeTo_eq (s : State) (m : MachineState) (present : Bool) :
    s.resumeTo m present = (s.beforeSettle m present).settle := rfl

theorem State.machine_beforeSettle (s : State) (m : MachineState) (present : Bool) :
    (s.beforeSettle m present).machine = { state := m, returnState := none } := by
  simp [State.beforeSettle, State.feedsResolved, State.enter]

theorem State.resumeTo_frame (s : State) (m : MachineState) (present : Bool) :
    (s.resumeTo m present).exchange = ((s.feedsResolved m).exchangeContinue present).exchange ∧
      (s.resumeTo m present).outputs = ((s.feedsResolved m).exchangeContinue present).outputs ∧
      (s.resumeTo m present).boards = ((s.feedsResolved m).exchangeContinue present).boards ∧
      (s.resumeTo m present).stretch = ((s.feedsResolved m).exchangeContinue present).stretch ∧
      (s.resumeTo m present).stations = (s.feedsResolved m).stations ∧
      (s.resumeTo m present).alarms = s.alarms ∧ (s.resumeTo m present).head = s.head ∧
      (s.resumeTo m present).settings = s.settings ∧ (s.resumeTo m present).port = s.port ∧
      (s.resumeTo m present).freeCount = s.freeCount := by
  simp [State.resumeTo_eq, State.beforeSettle, State.feedsResolved]

/-- DRAINING ends at the RESUME where its conditions hold (R187). -/
theorem State.machine_resumeTo (s : State) (r : ReturnState) (present : Bool) :
    (s.resumeTo r.machine present).machine =
      { state := match r with
          | .running => .running
          | .draining =>
            if (s.resumeTo r.machine present).drainedOut = true then .stopped else .draining
        returnState := none } := by
  have hmachine := s.machine_beforeSettle r.machine present
  rw [State.resumeTo_eq, State.machine_settle, hmachine]
  cases r with
  | running => simp [ReturnState.machine]
  | draining =>
    rw [State.drainedOut_settle _ (by rw [hmachine]; rfl)]
    cases (s.beforeSettle ReturnState.draining.machine present).drainedOut <;>
      simp [ReturnState.machine]

theorem State.axis_resumeTo (s : State) (r : ReturnState) (present : Bool) (a : Axis) :
    (s.resumeTo r.machine present).axis a =
      if (s.resumeTo r.machine present).machine.state = .stopped then (s.axis a).idled
      else s.axis a := by
  have hmachine := s.machine_beforeSettle r.machine present
  have haxis : (s.beforeSettle r.machine present).axis a = s.axis a :=
    axis_congr (by simp [State.beforeSettle, State.feedsResolved]) a
  have hdraining (h : (s.resumeTo r.machine present).machine.state = .stopped) :
      r.machine = .draining := by
    rw [State.machine_resumeTo] at h
    cases r with
    | running => cases h
    | draining => rfl
  rw [State.resumeTo_eq, State.axis_settle, haxis, AxisRecord.settledIn, ← State.resumeTo_eq,
    hmachine]
  by_cases h : (s.resumeTo r.machine present).machine.state = .stopped
  · rw [if_pos ⟨hdraining h, h⟩, if_pos h]
    rfl
  · rw [if_neg fun hboth => h hboth.2, if_neg h]

/-- A station and its clip after RESUME (R50). -/
theorem State.station?_resumeTo {s : State} (hshape : ShapeHolds s) (m : MachineState)
    (present : Bool) {k : Nat} {st : Station} (h1 : 1 ≤ k) (h72 : k ≤ 72)
    (hst : s.station? k = some st) :
    (s.resumeTo m present).station? k = some st.dueResolved ∧
      (st.feed = .due → st.state ≠ .ready →
        ((s.resumeTo m present).clip k).state = .dropMissed) := by
  obtain ⟨-, -, hlength, -⟩ := hshape
  obtain ⟨-, -, -, hstretch, hstations, -⟩ := s.resumeTo_frame m present
  rw [station?_congr hstations, clip_congr hstretch,
    State.clip_exchangeContinue_of_le _ _ (by omega)]
  exact State.station?_resolveDueFeeds (s := s.enter m) h1 h72 hst (by simp [hlength]; omega)

theorem State.waiting_resumeTo (s : State) (m : MachineState) (present : Bool) :
    (s.resumeTo m present).exchange.waiting = false := by
  obtain ⟨hexchange, -⟩ := s.resumeTo_frame m present
  rw [hexchange, State.waiting_exchangeContinue]

theorem State.resumeTo_transfer {s : State} (m : MachineState) (present : Bool)
    (hwaiting : s.exchange.waiting = true) (hleg : s.exchange.leg = .transfer) :
    (s.resumeTo m present).exchange =
        { s.exchange with waiting := false, transferTimer := some s.settings.transferTimeout } ∧
      (s.resumeTo m present).outputs =
        { s.outputs with
          transferReq := true
          clamp := if s.exchange.kind = .unload then false else s.outputs.clamp } := by
  obtain ⟨hexchange, houtputs, -⟩ := s.resumeTo_frame m present
  obtain ⟨hexchange', houtputs', hsettings', -⟩ := s.feedsResolved_frame m
  rw [← hexchange'] at hwaiting hleg
  rw [hexchange, houtputs, ← hexchange', ← houtputs', ← hsettings']
  exact State.exchangeContinue_transfer hwaiting hleg present

/-- CLAMPING begun at RESUME, and ended at once where CLAMPED is true (R36, R39). -/
theorem State.resumeTo_clamping {s : State} (m : MachineState) {present : Bool}
    (hwaiting : s.exchange.waiting = true)
    (hleg : s.exchange.leg = .clamping ∨ (s.exchange.leg = .presentWait ∧ present = true)) :
    (s.resumeTo m present).outputs = { s.outputs with clamp := true } ∧
      (s.inputs.levels.clamped = false →
        (s.resumeTo m present).exchange =
          { s.exchange with
            leg := .clamping, waiting := false, incoming := s.nextToLoad
            clampTimer := some s.settings.clampTimeout }) ∧
      (s.inputs.levels.clamped = true →
        (s.resumeTo m present).exchange =
            { s.exchange with leg := .idle, waiting := false, leaving := none, incoming := none
                              clampTimer := none } ∧
          ∀ p : Parity, s.nextToLoad = some p →
            ((s.resumeTo m present).board p).tableState =
                (if s.settings.alignRequired = true then .awaitingAlign else .aligned) ∧
              ((s.resumeTo m present).board p).correction =
                (if s.settings.alignRequired = true then (s.board p).correction
                  else some { dx := 0, dy := 0, scale := 0 }) ∧
              ((s.resumeTo m present).board p).number = (s.board p).number) := by
  obtain ⟨hexchange, houtputs, hboards, -⟩ := s.resumeTo_frame m present
  obtain ⟨hexchange', houtputs', hsettings', hinputs'⟩ := s.feedsResolved_frame m
  have hplaces := KeepsPlaces.feedsResolved s m
  generalize s.feedsResolved m = d at *
  rw [← hexchange'] at hwaiting hleg
  rw [State.exchangeContinue_clamping hwaiting hleg] at hexchange houtputs hboards
  rw [hexchange, houtputs, ← hexchange', ← houtputs', ← hsettings', ← hinputs',
    ← hplaces.nextToLoad]
  refine ⟨d.resumedExchange.outputs_beginClamping, State.exchange_resumed_unclamped,
    fun hclamped => ⟨State.exchange_resumed_clamped hclamped, fun p hp => ?_⟩⟩
  rw [board_congr hboards, ← hplaces.correction, ← hplaces.number]
  exact State.board_resumed_clamped hclamped hp

theorem State.resumeTo_presentWait {s : State} (m : MachineState) {present : Bool}
    (hwaiting : s.exchange.waiting = true) (hleg : s.exchange.leg = .presentWait)
    (habsent : present = false) :
    (s.resumeTo m present).exchange = { s.exchange with waiting := false } ∧
      (s.resumeTo m present).outputs = s.outputs := by
  subst habsent
  obtain ⟨hexchange, houtputs, -⟩ := s.resumeTo_frame m false
  obtain ⟨hexchange', houtputs', -⟩ := s.feedsResolved_frame m
  generalize s.feedsResolved m = d at *
  rw [← hexchange'] at hwaiting hleg
  rw [hexchange, houtputs, ← hexchange', ← houtputs',
    State.exchangeContinue_presentWait hwaiting hleg]
  exact ⟨rfl, rfl⟩

theorem State.resumeTo_idle {s : State} (m : MachineState) (present : Bool)
    (hidle : s.exchange.waiting = false) :
    (s.resumeTo m present).exchange = s.exchange ∧
      (s.resumeTo m present).outputs = s.outputs := by
  obtain ⟨hexchange, houtputs, -⟩ := s.resumeTo_frame m present
  obtain ⟨hexchange', houtputs', -⟩ := s.feedsResolved_frame m
  rw [← hexchange'] at hidle
  rw [hexchange, houtputs, State.exchangeContinue_idle hidle]
  exact ⟨hexchange', houtputs'⟩

theorem State.resume_paused {s : State} {r : ReturnState} (hstate : s.machine.state = .paused)
    (hreturn : s.machine.returnState = some r)
    (hclear : ∀ k : AlarmKind, (s.alarm k).reaction ≠ .note → (s.alarm k).state = .clear)
    (present : Bool) : s.resume present = (s.resumeTo r.machine present).ok := by
  simp [State.resume, hstate, hreturn, s.stopAlarm_eq_false_iff.mpr hclear]

theorem State.resume_refused {s : State}
    (h : s.machine.state ≠ .paused ∨
      ¬ ∀ k : AlarmKind, (s.alarm k).reaction ≠ .note → (s.alarm k).state = .clear)
    (present : Bool) : s.resume present = s.reply .refusedState := by
  unfold State.resume
  split
  · rename_i hstate _
    have halarm : s.stopAlarm = true := by
      rw [← Bool.not_eq_false, s.stopAlarm_eq_false_iff]
      exact h.resolve_left (not_not_intro hstate)
    rw [if_pos halarm]
  · rfl

theorem exec_resume {s : State} (ht : Taking s) (present : Bool) :
    exec (.resume present) s =
      .next ((s.resume present).state.replied 17 (s.resume present).code
        (s.resume present).payload) :=
  taken_taking ht 17 fun s => s.resume present

end Sys2Proof.Machine

open Sys2Proof Sys2Proof.Machine

/-- Settles O56: RUN by its plans, and RESUME by the leg that the exchange holds. -/
theorem runAndResumeStartTheMachine : Obligations.RunAndResumeStartTheMachine := by
  intro present s ht
  refine ⟨⟨fun hready => ?run, fun hrefused => ?runRefused⟩,
    fun r hstate hreturn hclear => ?resume, fun hrefused => ?resumeRefused⟩
  case run =>
    rw [exec_run ht, State.run, if_pos (s.mayRun_iff.mpr hready)]
    have hchanges := s.enterRunning_changes present
    have hcounter := s.runCounter_enterRunning present
    have hplans := State.enterRunning_plans (s := s) present
    have hjudged := fun hshape => State.clip_enterRunning_76 (s := s) hshape present
    generalize s.enterRunning present = w at *
    have hport : w.port = s.port := by rw [hchanges]
    have hfree : w.freeCount = s.freeCount := by rw [hchanges]
    refine ⟨w.replied 15 .ok [], rfl, ?frame, hcounter, fun hslots halternation h80 h79 => ?plans,
      hjudged, answered_replied s w hfree hport 15 .ok []⟩
    case frame =>
      refine (congrArg (State.replied · 15 .ok []) hchanges).trans ?_
      simp [State.replied, hport, hfree]
    case plans =>
      obtain ⟨hnext, heven, hodd⟩ := hplans hslots halternation h80 h79
      exact ⟨hnext, s.dumpTargets, dumpTargets_get s, heven, hodd⟩
  case runRefused =>
    rw [exec_run ht, State.run, if_neg (mt s.mayRun_iff.mp hrefused)]
    rfl
  case resume =>
    rw [exec_resume ht, State.resume_paused hstate hreturn hclear]
    have hmachine := s.machine_resumeTo r present
    have hstation := fun hshape k st =>
      State.station?_resumeTo (s := s) hshape r.machine present (k := k) (st := st)
    have hwaits := s.waiting_resumeTo r.machine present
    have htransfer := State.resumeTo_transfer (s := s) r.machine present
    have hclamping := State.resumeTo_clamping (s := s) r.machine (present := present)
    have habsent := State.resumeTo_presentWait (s := s) r.machine (present := present)
    have hidle := State.resumeTo_idle (s := s) r.machine present
    have haxis := s.axis_resumeTo r present
    obtain ⟨-, -, -, -, -, halarms, hhead, hsettings, hport, hfree⟩ :=
      s.resumeTo_frame r.machine present
    generalize s.resumeTo r.machine present = w at *
    refine ⟨w.replied 17 .ok [], rfl, hmachine, fun k st hshape h1 h72 hst => ?_,
      fun _ => hwaits, htransfer, hclamping, habsent, hidle, halarms, hhead, haxis, hsettings,
      answered_replied s w hfree hport 17 .ok []⟩
    obtain ⟨hresolved, hdropped⟩ := hstation hshape k st h1 h72 hst
    refine ⟨fun hdue => ?_, fun hdue hready => ?_, fun hdue hready => ⟨?_, hdropped hdue hready⟩⟩
    · exact hresolved.trans (congrArg some (Station.dueResolved_of_ne hdue))
    · exact hresolved.trans (congrArg some (Station.dueResolved_ready hdue hready))
    · exact hresolved.trans (congrArg some (Station.dueResolved_not_ready hdue hready))
  case resumeRefused =>
    rw [exec_resume ht, State.resume_refused hrefused]
    rfl

end

section
/-! PROOFS. The laws that every step keeps (R1, R8, R25, R26, R91, R98, R103, R147, R181 to R197). Every
operation of the part is shown once to keep all of them (`PartActs`), with what it may do to the
machine state and to the leaving board of an exchange; the laws of one step are read off from that. -/

namespace Sys2Proof.Machine

/-! ## What each law reads -/

theorem ShapeHolds.congr {s t : State} (h : ShapeHolds s)
    (htable : t.table.length = s.table.length) (hstations : t.stations.length = s.stations.length)
    (hstretch : t.stretch.length = s.stretch.length)
    (hconditions : t.conditions.length = s.conditions.length) : ShapeHolds t := by
  rwa [ShapeHolds, htable, hstations, hstretch, hconditions]

theorem TargetsHold.congr {s t : State} (h : TargetsHold s) (hslots : t.slots = s.slots)
    (hsettings : t.settings = s.settings) : TargetsHold t := by
  obtain ⟨hpositions, hinside⟩ := h
  exact ⟨hsettings ▸ hpositions, fun p => by
    rw [moveSlot_congr hslots, hsettings]; exact hinside p⟩

/-- The law of R8 reads the status slots of the open boards and the recall limit. -/
theorem AttemptsHold.congr {s t : State} (h : AttemptsHold s) (htable : t.table = s.table)
    (hopen : ∀ p, t.isOpen p = true → s.isOpen p = true) (hsettings : t.settings = s.settings) :
    AttemptsHold t := by
  intro n p r hr ho
  rw [hsettings]
  exact h n p r ((slot?_congr htable n).symm.trans hr) (hopen p ho)

theorem NumberHolds.congr {s t : State} {p : Parity} (h : NumberHolds s p)
    (hopen : t.isOpen p = true → s.isOpen p = true) (hnumber : (t.board p).number = (s.board p).number)
    (hnext : t.nextNumber = s.nextNumber) : NumberHolds t p := by
  intro ho
  rw [hnumber, hnext]
  exact h (hopen ho)

theorem NumbersHold.congr {s t : State} (h : NumbersHold s)
    (hopen : ∀ p, t.isOpen p = true → s.isOpen p = true)
    (hnumber : ∀ p, (t.board p).number = (s.board p).number)
    (hnext : t.nextNumber = s.nextNumber) : NumbersHold t := by
  obtain ⟨hlt, heven, hodd⟩ := h
  exact ⟨hnext ▸ hlt, heven.congr (hopen _) (hnumber _) hnext, hodd.congr (hopen _) (hnumber _) hnext⟩

theorem ReturnHolds.congr {s t : State} (h : ReturnHolds s) (hmachine : t.machine = s.machine) :
    ReturnHolds t := by
  rwa [ReturnHolds, hmachine]

theorem AlarmsHold.congr {s t : State} (h : AlarmsHold s) (halarms : t.alarms = s.alarms) :
    AlarmsHold t := fun k => by
  rw [alarm_congr halarms]; exact h k

theorem ChainHolds.congr {s t : State} (h : ChainHolds s) (hids : t.clipIds = s.clipIds)
    (hchain : t.chain.Holds) (hidAt : t.chain.idAt = s.chain.idAt) : ChainHolds t := by
  obtain ⟨-, hlength, hid⟩ := h
  have hlengths : t.stretch.length = s.stretch.length := by
    simpa [State.clipIds] using congrArg List.length hids
  refine ⟨hchain, hlengths.trans hlength, fun p c hc => ?_⟩
  have hp : (t.clipIds)[p]? = some c.clipId := by simp [State.clipIds, hc]
  rw [hids, State.clipIds, List.getElem?_map, Option.map_eq_some_iff] at hp
  obtain ⟨d, hd, hcd⟩ := hp
  rw [← hcd, hidAt]
  exact hid p d hd

theorem ChainHolds.congr_eq {s t : State} (h : ChainHolds s) (hids : t.clipIds = s.clipIds)
    (hchain : t.chain = s.chain) : ChainHolds t :=
  h.congr hids (hchain ▸ h.1) (by rw [hchain])

theorem board_number_congr {s t : State} (h : t.boards = s.boards) (p : Parity) :
    (t.board p).number = (s.board p).number := by rw [board_congr h]

/-! ## What the part does of itself -/

/-- A move of the machine state that the part makes without a command to start: it does not enter
RUNNING, and it leaves START, STOPPED and HALTED alone (R182 to R190). -/
def Unprompted (m m' : MachineState) : Prop :=
  (m' = .running → m = .running) ∧ (m = .start ∨ m = .stopped ∨ m = .halted → m' = m)

theorem Unprompted.refl (m : MachineState) : Unprompted m m := ⟨id, fun _ => rfl⟩

theorem Unprompted.trans {a b c : MachineState} (h : Unprompted a b) (h' : Unprompted b c) :
    Unprompted a c :=
  ⟨fun hc => h.1 (h'.1 hc), fun ha => by
    have hb := h.2 ha
    exact (h'.2 (hb ▸ ha)).trans hb⟩

/-- Every law of one state is kept, and the queue stays. -/
structure KeepsLaws (s t : State) : Prop where
  pending : t.pending = s.pending := by simp
  shape : ShapeHolds s → ShapeHolds t := by
    exact fun h => h.congr (by simp) (by simp) (by simp) (by simp)
  targets : TargetsHold s → TargetsHold t := by exact fun h => h.congr (by simp) (by simp)
  attempts : AttemptsHold s → AttemptsHold t := by
    exact fun h => h.congr (by simp) (fun p ho => (State.isOpen_congr (by simp) p).symm.trans ho) (by simp)
  numbers : NumbersHold s → NumbersHold t := by
    exact fun h => h.congr (fun p ho => (State.isOpen_congr (by simp) p).symm.trans ho)
      (board_number_congr (by simp)) (by simp)
  returns : ReturnHolds s → ReturnHolds t := by exact fun h => h.congr (by simp)
  alarms : AlarmsHold s → AlarmsHold t := by exact fun h => h.congr (by simp)
  chain : ChainHolds s → ChainHolds t := by
    exact fun h => h.congr_eq (clipIds_congr (by simp)) (by simp)

/-- What an operation of the part does: it keeps the laws, moves the machine state unprompted, and
names no leaving board. -/
structure PartActs (s t : State) : Prop extends KeepsLaws s t where
  machine : Unprompted s.machine.state t.machine.state := by
    simp [Unprompted.refl]
  leaving : ∀ l : Leaving, t.exchange.leaving = some l → s.exchange.leaving = some l := by simp

theorem KeepsLaws.trans {s t u : State} (h : KeepsLaws s t) (h' : KeepsLaws t u) :
    KeepsLaws s u where
  pending := h'.pending.trans h.pending
  shape := h'.shape ∘ h.shape
  targets := h'.targets ∘ h.targets
  attempts := h'.attempts ∘ h.attempts
  numbers := h'.numbers ∘ h.numbers
  returns := h'.returns ∘ h.returns
  alarms := h'.alarms ∘ h.alarms
  chain := h'.chain ∘ h.chain

theorem PartActs.trans {s t u : State} (h : PartActs s t) (h' : PartActs t u) : PartActs s u where
  toKeepsLaws := h.toKeepsLaws.trans h'.toKeepsLaws
  machine := h.machine.trans h'.machine
  leaving l hl := h.leaving l (h'.leaving l hl)

theorem PartActs.refl (s : State) : PartActs s s where

theorem PartActs.of_eq {s t : State} (h : t = s) : PartActs s t := h ▸ .refl s

/-- A fold of operations of the part is one. -/
theorem PartActs.foldl {α : Type} {f : State → α → State} (h : ∀ s a, PartActs s (f s a))
    (l : List α) (s : State) : PartActs s (l.foldl f s) := by
  induction l generalizing s with
  | nil => exact .refl s
  | cons a l ih => exact (h s a).trans (ih _)

/-! ## Records outside the laws -/

theorem PartActs.putStation (s : State) (k : Nat) (st : Station) : PartActs s (s.putStation k st) where

theorem PartActs.takeOn (s : State) (k : Nat) : PartActs s (s.takeOn k) where
  shape h := h.congr (by simp) (by unfold State.takeOn; split <;> simp) (by simp) (by simp)

theorem PartActs.markClip (s : State) (p : Nat) (c : ClipState) : PartActs s (s.markClip p c) where
  chain h := h.congr_eq (s.clipIds_markClip p c) (by simp)

/-! ## The chain record and the index (R91, R92, R98) -/

theorem Chain.idAt_congr {a b : Chain} (hsync : a.syncState = b.syncState)
    (hcounter : a.counter = b.counter) : a.idAt = b.idAt := by
  funext p
  simp only [Chain.idAt, hsync, hcounter]

/-- The law of the chain when only the index record moves (R91). -/
theorem ChainHolds.indexed {s t : State} (h : ChainHolds s) (hids : t.clipIds = s.clipIds)
    {i : IndexState} {timer : Option Nat} {mark : Bool}
    (hchain : t.chain = { s.chain with indexState := i, indexTimer := timer, markSeen := mark })
    (htimer : timer.isSome = true ↔ i = .indexing) : ChainHolds t := by
  refine h.congr hids ?_ (Chain.idAt_congr (by rw [hchain]) (by rw [hchain]))
  obtain ⟨⟨hcounter, hmiss, htolerance, hcandidate, -, hlocked, hlocking⟩, -, -⟩ := h
  rw [hchain]
  exact ⟨hcounter, hmiss, htolerance, hcandidate, htimer, hlocked, hlocking⟩

theorem ChainHolds.indexTimer_iff {s : State} (h : ChainHolds s) :
    s.chain.indexTimer.isSome = true ↔ s.chain.indexState = .indexing := h.1.2.2.2.2.1

theorem PartActs.requestIndex (s : State) : PartActs s s.requestIndex where
  chain h := by
    unfold State.requestIndex
    split
    next hidle =>
      refine h.indexed rfl (timer := s.chain.indexTimer) rfl ?_
      simpa [hidle] using h.indexTimer_iff
    next => exact h

theorem PartActs.headJudge (s : State) : PartActs s s.headJudge := by
  unfold State.headJudge
  split
  · exact .requestIndex s
  · exact .refl s

theorem PartActs.setHead (s : State) (h : Head) : PartActs s { s with head := h } where

theorem PartActs.homingCheck (s : State) : PartActs s s.homingCheck := by
  unfold State.homingCheck
  split
  · exact (PartActs.setHead s _).trans (.headJudge _)
  · exact .refl s

theorem PartActs.haltIndex (s : State) : PartActs s s.haltIndex where
  chain h := h.indexed rfl rfl (by simp)

/-! ## Alarm records (R192, R193) -/

/-- The end of a condition gives a sound record, whether or not the condition may stand for the
kind. -/
theorem AlarmRecord.holds_ended {k : AlarmKind} {r : AlarmRecord} (interval : Nat)
    (hcondition : r.condition = true → r.state = .active)
    (htimer : r.retryTimer.isSome = true → r.state = .active ∧ r.condition = false)
    (hfixed : fixedReaction k = true → r.reaction = .halt) (hoccurrences : r.occurrences ≤ 255) :
    (r.ended interval).Holds k := by
  unfold AlarmRecord.ended
  split
  next hpresent =>
    have hstopped : r.retryTimer.isSome ≠ true := fun h => by simp [hpresent] at htimer; simp_all
    split
    · exact ⟨by simp, fun h => absurd h hstopped, by simp, hfixed, hoccurrences⟩
    · exact ⟨by simp, fun _ => ⟨hcondition hpresent, rfl⟩, by simp, hfixed, hoccurrences⟩
  next habsent =>
    exact ⟨hcondition, htimer, fun _ => by simpa using habsent, hfixed, hoccurrences⟩

theorem AlarmRecord.Holds.ended {k : AlarmKind} {r : AlarmRecord} (h : r.Holds k)
    (interval : Nat) : (r.ended interval).Holds k := by
  obtain ⟨hcondition, htimer, -, hfixed, hoccurrences⟩ := h
  exact holds_ended interval hcondition htimer hfixed hoccurrences

theorem AlarmRecord.occurrences_raised {r : AlarmRecord} (h : r.occurrences ≤ 255)
    (src : Option Source) : (r.raised src).occurrences ≤ 255 := by
  simp only [AlarmRecord.raised, saturate]
  split <;> omega

theorem AlarmRecord.Holds.raised {k : AlarmKind} {r : AlarmRecord} (h : r.Holds k)
    (hk : isEventKind k = false) (src : Option Source) : (r.raised src).Holds k := by
  obtain ⟨-, -, -, hfixed, hoccurrences⟩ := h
  exact ⟨fun _ => rfl, by simp [AlarmRecord.raised], by simp [hk], hfixed,
    occurrences_raised hoccurrences src⟩

theorem AlarmRecord.Holds.raised_ended {k : AlarmKind} {r : AlarmRecord} (h : r.Holds k)
    (src : Option Source) (interval : Nat) : ((r.raised src).ended interval).Holds k := by
  obtain ⟨-, -, -, hfixed, hoccurrences⟩ := h
  exact holds_ended interval (fun _ => rfl) (by simp [AlarmRecord.raised]) hfixed
    (occurrences_raised hoccurrences src)

theorem AlarmsHold.putAlarm {s : State} (h : AlarmsHold s) {k : AlarmKind} {r : AlarmRecord}
    (hr : r.Holds k) : AlarmsHold (s.putAlarm k r) := fun l => by
  rw [State.alarm_putAlarm]
  split
  next heq => exact heq ▸ hr
  next => exact h l

theorem PartActs.putAlarm {s : State} {k : AlarmKind} {r : AlarmRecord}
    (hr : (s.alarm k).Holds k → r.Holds k) : PartActs s (s.putAlarm k r) where
  alarms h := h.putAlarm (hr (h k))

theorem PartActs.endCondition (s : State) (k : AlarmKind) : PartActs s (s.endCondition k) :=
  .putAlarm fun h => h.ended _

theorem PartActs.raiseRecord (s : State) (k : AlarmKind) (src : Option Source) :
    PartActs s (s.raiseRecord k src) where
  alarms h l := by
    by_cases hl : l = k
    · subst hl
      rw [State.alarm_raiseRecord]
      split
      · exact (h l).raised_ended src _
      · exact (h l).raised (by simpa using ‹¬ isEventKind l = true›) src
    · rw [State.alarm_raiseRecord_ne s hl]
      exact h l

theorem PartActs.endIfNone (s : State) (k : AlarmKind) (holds : Station → Bool) :
    PartActs s (s.endIfNone k holds) := by
  unfold State.endIfNone
  split
  · exact .refl s
  · exact .endCondition s k

theorem PartActs.stationConditions (s : State) : PartActs s s.stationConditions :=
  ((PartActs.endIfNone ..).trans (.endIfNone ..)).trans (.endIfNone ..)

/-! ## Reports and requests (R6 to R13, R29, R31) -/

theorem PartActs.report (s : State) (p : Parity) (rep : Report) : PartActs s (s.report p rep) where
  attempts h := h.congr (by simp) (fun q ho => (s.isOpen_report p q rep).symm.trans ho) (by simp)
  numbers h := h.congr (fun q ho => (s.isOpen_report p q rep).symm.trans ho)
    (fun q => by
      by_cases hq : q = p
      · rw [hq, s.board_report_count]; simp
      · rw [s.board_report_ne hq])
    (by simp)

theorem State.isOpen_evalPhase (s : State) (p q : Parity) :
    (s.evalPhase p).isOpen q = s.isOpen q := by
  by_cases hq : q = p
  · subst hq
    unfold State.isOpen State.evalPhase
    split <;> simp_all [State.phaseFound]
    (repeat' split) <;> simp
  · simp only [State.isOpen, s.board_evalPhase_ne hq]

theorem State.number_evalPhase (s : State) (p q : Parity) :
    ((s.evalPhase p).board q).number = (s.board q).number := by
  by_cases hq : q = p
  · rw [hq, s.board_evalPhase]
  · rw [s.board_evalPhase_ne hq]

theorem PartActs.evalPhase (s : State) (p : Parity) : PartActs s (s.evalPhase p) where
  attempts h := h.congr (by simp) (fun q ho => (s.isOpen_evalPhase p q).symm.trans ho) (by simp)
  numbers h := h.congr (fun q ho => (s.isOpen_evalPhase p q).symm.trans ho) (s.number_evalPhase p)
    (by simp)

theorem State.length_table_modifyStatus (s : State) (n : Nat) (p : Parity)
    (f : StatusSlot → StatusSlot) : (s.modifyStatus n p f).table.length = s.table.length := by
  unfold State.modifyStatus
  split <;> simp

theorem State.length_table_grantHold (s : State) (n : Nat) :
    (s.grantHold n).table.length = s.table.length := by
  unfold State.grantHold
  (repeat' split) <;> simp

theorem State.length_table_request (s : State) (n : Nat) (p : Parity)
    (f : StatusSlot → StatusSlot) (rep : Report) :
    (s.request n p f rep).table.length = s.table.length := by
  unfold State.request
  (repeat' split) <;> simp [State.length_table_grantHold, State.length_table_modifyStatus]

/-- The law of R8 after a change of one status slot that keeps it there. -/
theorem AttemptsHold.modified {s t : State} (h : AttemptsHold s) {n : Nat} {p : Parity}
    {r : Placement} {v : StatusSlot} (hs : s.slot? n = some r)
    (htable : ∀ m u, t.slot? m = some u →
      (∃ w, s.slot? m = some w ∧ w.status = u.status) ∨ (m = n ∧ u.status = r.status.put p v))
    (hopen : ∀ q, t.isOpen q = s.isOpen q) (hsettings : t.settings = s.settings)
    (hv : s.isOpen p = true → (r.status.get p).AttemptsHold s.settings.recallLimit →
      v.AttemptsHold s.settings.recallLimit) : AttemptsHold t := by
  intro m q u hu ho
  rw [hopen] at ho
  rw [hsettings]
  rcases htable m u hu with ⟨w, hw, hstatus⟩ | ⟨rfl, hstatus⟩
  · rw [← hstatus]
    exact h m q w hw ho
  · rw [hstatus, Pair.get_put]
    split
    next hq =>
      subst hq
      exact hv ho (h m q r hs ho)
    next => exact h m q r hs ho

theorem PartActs.request {s : State} {n : Nat} {p : Parity} {f : StatusSlot → StatusSlot}
    (hf : ∀ u, s.isOpen p = true → s.statusOf n p = some u → u.state = .called →
      u.AttemptsHold s.settings.recallLimit → (f u).AttemptsHold s.settings.recallLimit)
    (rep : Report) : PartActs s (s.request n p f rep) where
  shape h := h.congr (s.length_table_request n p f rep) (by simp) (by simp) (by simp)
  attempts h := by
    rcases s.request_cases n p f rep with hignored | ⟨r, hs, ho, hc⟩
    · rwa [hignored]
    · refine h.modified hs (v := f (r.status.get p)) (fun m u hu => ?_)
        (fun q => s.isOpen_request n p q f rep) (by simp)
        fun _ => hf _ ho (State.statusOf_of_slot? hs p) hc
      rw [State.slot?_request s hs ho hc] at hu
      split at hu
      next hm =>
        obtain rfl : _ = u := by simpa using hu
        exact .inr ⟨hm, rfl⟩
      next => exact .inl ⟨u, hu, rfl⟩
  numbers h := h.congr (fun q ho => (s.isOpen_request n p q f rep).symm.trans ho)
    (KeepsPlaces.request s n p f rep).number (by simp)

/-- A request that gives another state than MISSED and leaves the attempts keeps the law of R8. -/
theorem StatusSlot.AttemptsHold.of_called {u v : StatusSlot} {limit : Nat}
    (h : u.AttemptsHold limit) (hu : u.state = .called) (hv : v.state ≠ .missed)
    (ha : v.attempts = u.attempts) : v.AttemptsHold limit := by
  obtain ⟨hle, hiff⟩ := h
  have hne : u.attempts ≠ limit + 1 := fun he => by simp [hu, he] at hiff
  rw [StatusSlot.AttemptsHold, ha]
  exact ⟨hle, by simp [hv, hne]⟩

theorem PartActs.request_resolving {s : State} {n : Nat} {p : Parity} {f : StatusSlot → StatusSlot}
    (hstate : ∀ u, (f u).state ≠ .missed) (hattempts : ∀ u, (f u).attempts = u.attempts)
    (rep : Report) : PartActs s (s.request n p f rep) :=
  .request (fun u _ _ hc h => h.of_called hc (hstate u) (hattempts u)) rep

theorem PartActs.recallUncounted (s : State) (n : Nat) (p : Parity) :
    PartActs s (s.recallUncounted n p) := by
  unfold State.recallUncounted
  exact .request_resolving (by simp) (by simp) _

theorem PartActs.recallDeferral (s : State) (n : Nat) (p : Parity) :
    PartActs s (s.recallDeferral n p) := by
  unfold State.recallDeferral
  exact .request_resolving (by simp) (by simp) _

theorem PartActs.insertionRequest (s : State) (n : Nat) (p : Parity) (peak : Nat) :
    PartActs s (s.insertionRequest n p peak) := by
  unfold State.insertionRequest
  exact .request_resolving (by simp) (by simp) _

theorem PartActs.interruptionRequest (s : State) (n : Nat) (p : Parity) :
    PartActs s (s.interruptionRequest n p) := by
  unfold State.interruptionRequest
  exact .request_resolving (by simp) (by simp) _

theorem PartActs.travelRequest (s : State) (n : Nat) (p : Parity) :
    PartActs s (s.travelRequest n p) := by
  unfold State.travelRequest
  exact .request_resolving (by simp) (by simp) _

theorem State.exceedsLimit_iff {s : State} {n : Nat} {p : Parity} {u : StatusSlot}
    (ho : s.isOpen p = true) (hu : s.statusOf n p = some u) (hc : u.state = .called) :
    s.exceedsLimit n p = true ↔ s.settings.recallLimit < u.attempts + 1 := by
  simp [State.exceedsLimit, ho, hu, hc]

/-- The counted recall counts up to the limit, and the miss stands one above it (R7, R8). -/
theorem PartActs.recallCounted (s : State) (n : Nat) (p : Parity) :
    PartActs s (s.recallCounted n p) := by
  unfold State.recallCounted
  split
  next hexceeds =>
    refine .request (fun u ho hu hc ⟨hle, hiff⟩ => ?_) _
    rw [State.exceedsLimit_iff ho hu hc] at hexceeds
    have hne : u.attempts ≠ s.settings.recallLimit + 1 := fun he => by simp [hc, he] at hiff
    simp only [StatusSlot.AttemptsHold, true_iff]
    omega
  next hwithin =>
    refine .request (fun u ho hu hc _ => ?_) _
    rw [State.exceedsLimit_iff ho hu hc] at hwithin
    simp only [StatusSlot.AttemptsHold, reduceCtorEq, false_iff]
    omega

/-! ## Stations' drops and the HALT (R50, R56, R58, R188) -/

theorem PartActs.dropAt (s : State) (k : Nat) : PartActs s (s.dropAt k) := by
  cases hst : s.station? k with
  | none => exact .of_eq (by simp only [State.dropAt, hst])
  | some st =>
    have hmarked : PartActs s ((s.putStation k st.dropped).markClip k .dropMissed) :=
      (PartActs.putStation ..).trans (.markClip ..)
    cases hcall : (s.clip k).call with
    | none => rwa [State.dropAt_of_no_call hst hcall]
    | some c =>
      rw [State.dropAt_of_call hst hcall]
      exact hmarked.trans (.recallUncounted ..)

theorem PartActs.haltFeed (s : State) (k : Nat) : PartActs s (s.haltFeed k) := by
  unfold State.haltFeed
  split
  · exact .refl s
  · split
    · exact .refl s
    · exact .dropAt s k

theorem PartActs.haltExchange (s : State) : PartActs s s.haltExchange where
  leaving l := by
    rw [State.exchange_haltExchange]
    split <;> simp

theorem PartActs.interrupt (s : State) : PartActs s s.interrupt := by
  unfold State.interrupt
  split
  · have hclip : PartActs s (s.putClip 80 ((s.clip 80).emptied .unknown)) :=
      { chain := fun h => h.congr_eq (s.clipIds_putClip _ _ rfl) (by simp) }
    split
    · exact hclip
    · exact hclip.trans (.interruptionRequest ..)
  · exact .refl s

theorem SlotInside.of_free {g : Settings} {m : MoveSlot} (h : m.state = .free) : SlotInside g m := by
  simp [SlotInside, h]

theorem TargetsHold.of_slots {s t : State} (h : TargetsHold s) (hsettings : t.settings = s.settings)
    (hslots : ∀ p, SlotInside s.settings (t.moveSlot p)) : TargetsHold t :=
  ⟨hsettings ▸ h.1, fun p => hsettings ▸ hslots p⟩

theorem TargetsHold.putMoveSlot {s : State} (h : TargetsHold s) {p : Parity} {m : MoveSlot}
    (hm : SlotInside s.settings m) : TargetsHold (s.putMoveSlot p m) :=
  h.of_slots (by simp) fun q => by
    rw [State.moveSlot_putMoveSlot]
    split
    · exact hm
    · exact h.2 q

theorem PartActs.putMoveSlot {s : State} {p : Parity} {m : MoveSlot}
    (hm : TargetsHold s → SlotInside s.settings m) : PartActs s (s.putMoveSlot p m) where
  targets h := h.putMoveSlot (hm h)

theorem PartActs.releaseSlot (s : State) (p : Parity) : PartActs s (s.releaseSlot p) :=
  .putMoveSlot fun _ => .of_free rfl

theorem PartActs.haltSlot (s : State) : PartActs s s.haltSlot := by
  unfold State.haltSlot
  split
  · exact .releaseSlot ..
  · exact .refl s

theorem PartActs.stopHead (s : State) : PartActs s s.stopHead :=
  (PartActs.haltSlot s).trans { targets := fun h => h.congr rfl rfl }

theorem SlotInside.deactivated {g : Settings} {m : MoveSlot} (h : SlotInside g m) :
    SlotInside g m.deactivated := by
  unfold MoveSlot.deactivated
  split
  next hactive => exact fun _ => h (.inr hactive)
  next => exact h

theorem TargetsHold.deactivated {s t : State} (h : TargetsHold s)
    (hsettings : t.settings = s.settings) (hslots : t.slots = s.slots.map MoveSlot.deactivated) :
    TargetsHold t :=
  h.of_slots hsettings fun p => by
    rw [State.moveSlot, hslots, Pair.get_map]
    exact (h.2 p).deactivated

theorem PartActs.haltAxes (s : State) : PartActs s s.haltAxes where
  targets h := h.deactivated rfl rfl

theorem PartActs.haltBlocks (s : State) : PartActs s s.haltBlocks :=
  ((((PartActs.foldl PartActs.haltFeed stationNumbers s).trans (.haltIndex _)).trans
    (.haltExchange _)).trans ((PartActs.interrupt _).trans (.stopHead _))).trans (.haltAxes _)

theorem PartActs.enterHalted {s : State} (hstart : s.machine.state ≠ .start)
    (hstopped : s.machine.state ≠ .stopped) : PartActs s s.enterHalted :=
  PartActs.trans
    { returns := fun _ => by simp [ReturnHolds]
      machine := ⟨by simp, fun h => by simp_all⟩ }
    (.haltBlocks _)

theorem PartActs.haltIfMoving (s : State) : PartActs s s.haltIfMoving := by
  unfold State.haltIfMoving
  split
  next hmoving =>
    rw [Bool.or_eq_true, State.working_iff, State.pausing_iff] at hmoving
    exact .enterHalted (by rintro h; simp [h] at hmoving) (by rintro h; simp [h] at hmoving)
  next => exact .refl s

/-! ## The ends of PAUSING and DRAINING, and the reactions (R185, R187, R194) -/

theorem PartActs.pausingQuiet (s : State) : PartActs s s.pausingQuiet := by
  unfold State.pausingQuiet
  split
  next hquiet =>
    exact
      { returns := fun h => by simpa [ReturnHolds, hquiet.1] using h
        machine := ⟨by simp, by simp [hquiet.1]⟩ }
  next => exact .refl s

theorem PartActs.drainEnd (s : State) : PartActs s s.drainEnd := by
  unfold State.drainEnd
  split
  next hend =>
    exact
      { targets := fun h => h.deactivated rfl rfl
        returns := fun _ => by simp [ReturnHolds, State.endDraining]
        machine := ⟨by simp [State.endDraining], by simp [hend.1]⟩
        chain := fun h => by
          refine h.indexed (i := if s.chain.indexState = .requested then .idle else s.chain.indexState)
            rfl rfl ?_
          rw [h.indexTimer_iff]
          split <;> simp_all }
  next => exact .refl s

theorem PartActs.settle (s : State) : PartActs s s.settle :=
  (PartActs.pausingQuiet s).trans (.drainEnd _)

theorem PartActs.enterPausing (s : State) : PartActs s s.enterPausing := by
  unfold State.enterPausing
  split
  · exact PartActs.trans { returns := fun _ => by simp [ReturnHolds], machine := ⟨by simp, by simp_all⟩ }
      ((PartActs.homingCheck _).trans (.pausingQuiet _))
  · exact PartActs.trans { returns := fun _ => by simp [ReturnHolds], machine := ⟨by simp, by simp_all⟩ }
      ((PartActs.homingCheck _).trans (.pausingQuiet _))
  · exact .refl s

theorem PartActs.react (s : State) (r : Reaction) : PartActs s (s.react r) := by
  cases r with
  | note => exact .refl s
  | pause => exact .enterPausing s
  | halt => exact .haltIfMoving s

theorem PartActs.raise (s : State) (k : AlarmKind) (src : Option Source) :
    PartActs s (s.raise k src) :=
  (PartActs.raiseRecord s k src).trans (.react ..)

theorem PartActs.reactAll (s : State) (ks : List AlarmKind) : PartActs s (s.reactAll ks) :=
  .foldl (fun _ _ => .react ..) ks s

end Sys2Proof.Machine
end

section
/-! PROOFS. The laws that every step keeps, continued: the table, the boards, their exchange, the axes and their moves, and the stations. -/

namespace Sys2Proof.Machine

/-! ## The move planner (R138 to R151) -/

theorem PartActs.takeSlot {s : State} {m : MoveSlot}
    (hm : TargetsHold s → SlotInside s.settings m) : PartActs s (s.takeSlot m) :=
  (PartActs.putMoveSlot (p := s.slotToTake) hm).trans
    { targets := fun h => h.congr rfl rfl }

theorem State.computed_inside {s : State} {j : Job} {t : Quad Nat} (h : s.computed j = some t)
    (a : Axis) : (s.settings.axis.get a).Inside (t.get a) := by
  unfold State.computed at h
  split at h
  · exact (s.settings.allows_iff t).mp ((axisTargets_eq_some_iff ..).mp h).2.2 a
  · simp at h

theorem SlotInside.planned {s : State} {j : Job} {t : Quad Nat} (h : s.computed j = some t)
    (pos : SlotPosition) : SlotInside s.settings (MoveSlot.planned pos j t) :=
  fun _ => ⟨t, rfl, State.computed_inside h⟩

theorem TargetsHold.dumpTargets {s : State} (h : TargetsHold s) (a : Axis) :
    (s.settings.axis.get a).Inside (s.dumpTargets.get a) := by
  rw [dumpTargets_get]
  exact (h.1 a).2

theorem PartActs.outOfTravel (s : State) (pos : Nat) (j : Job) : PartActs s (s.outOfTravel pos j) :=
  PartActs.trans (t := s.putClip pos { s.clip pos with dump := true })
    { chain := fun h => h.congr_eq (s.clipIds_putClip _ _ rfl) (by simp) }
    (.travelRequest ..)

theorem PartActs.planInsert (s : State) (pos : SlotPosition) (j : Job) :
    PartActs s (s.planInsert pos j) := by
  unfold State.planInsert
  split
  · split
    next hj => exact .takeSlot fun _ => .planned hj pos
    next =>
      exact (PartActs.takeSlot fun _ => by simp [SlotInside, MoveSlot.without]).trans
        (.outOfTravel ..)
  · exact .takeSlot fun _ => by simp [SlotInside, MoveSlot.without]

theorem PartActs.planDump (s : State) (pos : SlotPosition) : PartActs s (s.planDump pos) :=
  .takeSlot fun h _ => ⟨_, rfl, h.dumpTargets⟩

theorem PartActs.computeSlot (s : State) (p : Parity) : PartActs s (s.computeSlot p) := by
  unfold State.computeSlot
  split
  · split
    · split
      next hj => exact .putMoveSlot fun _ => .planned hj _
      next =>
        exact (PartActs.putMoveSlot fun _ => by simp [SlotInside, MoveSlot.without]).trans
          (.outOfTravel ..)
    · exact .refl s
  · exact .refl s

theorem PartActs.computeAwaiting (s : State) : PartActs s s.computeAwaiting :=
  (PartActs.computeSlot s .even).trans (.computeSlot _ .odd)

theorem PartActs.planAtRun (s : State) (pos : SlotPosition) : PartActs s (s.planAtRun pos) := by
  unfold State.planAtRun
  split
  · exact .refl s
  · split
    · exact .planDump s pos
    · split
      · exact .planDump s pos
      · split
        · exact .planInsert ..
        · exact .refl s
    · exact .refl s

theorem PartActs.giveTargets (s : State) (g : Quad Nat) : PartActs s (s.giveTargets g) where

theorem PartActs.activate (s : State) (p : Parity) : PartActs s (s.activate p) := by
  unfold State.activate
  split
  · exact (PartActs.putMoveSlot fun h _ => ⟨_, rfl, h.dumpTargets⟩).trans (.giveTargets ..)
  next hplanned _ =>
    refine .trans ?_ (.giveTargets _ _)
    exact .putMoveSlot fun h _ => h.2 p (.inl hplanned)
  · exact .refl s

theorem PartActs.earlyActivation (s : State) : PartActs s s.earlyActivation := by
  unfold State.earlyActivation
  split
  · exact .refl s
  · split
    · exact .activate ..
    · exact .refl s

/-! ## Boards (R26 to R41) -/

theorem State.isOpen_iff (s : State) (p : Parity) :
    s.isOpen p = true ↔ (s.board p).phase ≠ .free := by
  simp [State.isOpen]

theorem State.isOpen_putBoard {s : State} {p : Parity} {b : BoardRecord}
    (hphase : b.phase ≠ .free → (s.board p).phase ≠ .free) {q : Parity}
    (h : (s.putBoard p b).isOpen q = true) : s.isOpen q = true := by
  rw [State.isOpen_iff, State.board_putBoard] at h
  rw [State.isOpen_iff]
  split at h
  next hq => exact hq ▸ hphase h
  next => exact h

theorem PartActs.putBoard {s : State} {p : Parity} {b : BoardRecord}
    (hphase : b.phase ≠ .free → (s.board p).phase ≠ .free)
    (hnumber : b.number = (s.board p).number) : PartActs s (s.putBoard p b) where
  attempts h := h.congr (by simp) (fun _ => State.isOpen_putBoard hphase) (by simp)
  numbers h := h.congr (fun _ => State.isOpen_putBoard hphase)
    (fun q => by
      rw [State.board_putBoard]
      split
      next hq => exact hq ▸ hnumber
      next => rfl)
    (by simp)

theorem StatusSlot.attemptsHold_of_zero {u : StatusSlot} (hstate : u.state ≠ .missed)
    (hattempts : u.attempts = 0) (limit : Nat) : u.AttemptsHold limit := by
  simp [StatusSlot.AttemptsHold, hattempts, hstate]

theorem State.isOpen_openBoard_ne {s : State} {q : Parity} (h : q ≠ parityOf s.nextNumber) :
    s.openBoard.isOpen q = s.isOpen q := by
  simp only [State.isOpen, State.board_openBoard_ne rfl h]

/-- The numbers of the open boards go on as the next board opens: two of one parity cannot be open
(R25, R26). -/
theorem NumbersHold.openBoard {s : State} (h : NumbersHold s) : NumbersHold s.openBoard := by
  obtain ⟨hlt, heven, hodd⟩ := h
  have hnext : s.openBoard.nextNumber = (s.nextNumber + 1) % 65536 := by
    rw [State.openBoard_changes rfl]
  have hnumber (p : Parity) (hp : NumberHolds s p) : NumberHolds s.openBoard p := by
    intro ho
    rw [hnext]
    by_cases hq : p = parityOf s.nextNumber
    · rw [hq, State.board_openBoard rfl]
      exact ⟨hlt, rfl, .inl rfl⟩
    · rw [State.board_openBoard_ne rfl hq]
      rw [State.isOpen_openBoard_ne hq] at ho
      obtain ⟨hsmall, hparity, hnear⟩ := hp ho
      refine ⟨hsmall, hparity, .inr ?_⟩
      have hodds : (s.board p).number % 2 ≠ s.nextNumber % 2 := fun he =>
        hq (hparity.symm.trans (by rw [parityOf, parityOf, he]))
      omega
  exact ⟨by omega, hnumber _ heven, hnumber _ hodd⟩

theorem AttemptsHold.openBoard {s : State} (h : AttemptsHold s) : AttemptsHold s.openBoard := by
  intro n q r hr ho
  have hsettings : s.openBoard.settings = s.settings := by simp
  rw [slot?_congr (State.table_openBoard rfl), State.slot?_openRequest,
    Option.map_eq_some_iff] at hr
  obtain ⟨u, hu, rfl⟩ := hr
  rw [hsettings, Pair.get_put]
  split
  · exact StatusSlot.attemptsHold_of_zero (by simp [openedSlot]) rfl _
  next hq =>
    rw [State.isOpen_openBoard_ne hq] at ho
    exact h n q u hu ho

theorem PartActs.openIfMay (s : State) : PartActs s s.openIfMay := by
  unfold State.openIfMay
  split
  · exact
      { shape := fun h => h.congr (by rw [State.table_openBoard rfl]; simp [State.openRequest])
          (by simp) (by simp) (by simp)
        attempts := AttemptsHold.openBoard
        numbers := NumbersHold.openBoard }
  · exact .refl s

theorem PartActs.waitWith (s : State) (leg : Leg) : PartActs s (s.waitWith leg) where
  leaving _ h := h

theorem PartActs.beginTransfer (s : State) : PartActs s s.beginTransfer where
  leaving _ h := h

theorem PartActs.setExchange {s : State} {e : Exchange} {o : Outputs}
    (h : e.leaving = s.exchange.leaving ∨ e.leaving = none) :
    PartActs s { s with exchange := e, outputs := o } where
  leaving l hl := by
    rcases h with h | h
    · exact h ▸ hl
    · simp [h] at hl

theorem PartActs.clampingEnds (s : State) : PartActs s s.clampingEnds := by
  have hended : PartActs s
      { s with
        exchange :=
          { s.exchange with leg := .idle, leaving := none, incoming := none, clampTimer := none } } :=
    .setExchange (.inr rfl)
  unfold State.clampingEnds
  split
  · exact hended
  · refine (hended.trans (.putBoard ?_ ?_)).trans ((PartActs.computeAwaiting _).trans (.evalPhase ..))
    · split <;> exact id
    · split <;> rfl

theorem PartActs.beginClamping (s : State) : PartActs s s.beginClamping := by
  unfold State.beginClamping
  split
  · refine .trans ?_ (.clampingEnds _)
    exact .setExchange (.inl rfl)
  · exact .setExchange (.inl rfl)

theorem PartActs.clampNext (s : State) : PartActs s s.clampNext := by
  unfold State.clampNext
  split
  · exact .waitWith ..
  · exact .beginClamping s

theorem PartActs.moveLegEnd (s : State) (present : Bool) : PartActs s (s.moveLegEnd present) := by
  unfold State.moveLegEnd
  split
  · split
    · exact .clampNext s
    · split
      · exact .waitWith ..
      · exact .beginTransfer s
  · exact .refl s

theorem PartActs.transferEnds (s : State) : PartActs s s.transferEnds := by
  have hended : PartActs s
      { s with
        exchange := { s.exchange with transferTimer := none }
        outputs := { s.outputs with transferReq := false } } := .setExchange (.inl rfl)
  unfold State.transferEnds
  split
  · exact hended
  · exact hended.trans (.putBoard (by simp) rfl)

theorem PartActs.afterTransfer (s : State) (present : Bool) :
    PartActs s (s.afterTransfer present) := by
  unfold State.afterTransfer
  split
  · exact .setExchange (.inr rfl)
  · split
    · exact .clampNext s
    · exact .setExchange (.inl rfl)

theorem PartActs.transferDone (s : State) (present openFirst : Bool) :
    PartActs s (s.transferDone present openFirst) := by
  unfold State.transferDone
  split
  · refine (PartActs.transferEnds s).trans
      ((PartActs.trans (t := if openFirst then s.transferEnds.openIfMay else s.transferEnds) ?_
        (.afterTransfer _ present)).trans (.settle _))
    split
    · exact .openIfMay _
    · exact .refl _
  · exact .refl s

theorem PartActs.presentRise (s : State) : PartActs s s.presentRise := by
  unfold State.presentRise
  split
  · exact (PartActs.clampNext s).trans (.settle _)
  · exact .refl s

theorem PartActs.setInputs (s : State) (i : Inputs) : PartActs s { s with inputs := i } where

theorem PartActs.clampedRise (s : State) : PartActs s s.clampedRise := by
  unfold State.clampedRise
  split
  · exact (PartActs.setInputs s _).trans ((PartActs.clampingEnds _).trans (.settle _))
  · exact .setInputs s _

theorem PartActs.clampedFall (s : State) : PartActs s s.clampedFall := by
  unfold State.clampedFall
  split
  · split
    · exact (PartActs.setInputs s _).trans ((PartActs.raise ..).trans (.settle _))
    · exact .setInputs s _
  · exact .setInputs s _

theorem PartActs.abandonExchange (s : State) : PartActs s s.abandonExchange := by
  refine .trans (.trans ?_ (.raise _ _ _)) (.settle _)
  exact .setExchange (.inr rfl)

theorem PartActs.exchangeContinue (s : State) (present : Bool) :
    PartActs s (s.exchangeContinue present) := by
  have hresumed : PartActs s s.resumedExchange := .setExchange (o := s.outputs) (.inl rfl)
  unfold State.exchangeContinue
  split
  · split
    · exact hresumed.trans (.beginTransfer s.resumedExchange)
    · exact hresumed.trans (.beginClamping s.resumedExchange)
    · split
      · exact hresumed.trans (.beginClamping s.resumedExchange)
      · exact hresumed
    · exact hresumed
  · exact .refl s

theorem PartActs.alignBoard (s : State) (p : Parity) (c : Correction) :
    PartActs s (s.alignBoard p c).state := by
  unfold State.alignBoard
  split
  · exact .refl s
  · split
    · rw [State.state_ok]
      refine .trans (.trans ?_ (.computeAwaiting _)) (.evalPhase _ p)
      exact .putBoard id rfl
    · exact .refl s

/-! ## The beginning of an exchange (R33) -/

/-- What an event that may begin an exchange does: it may name as leaving a board that stands on the
table, with its number, where no exchange was in flight. -/
structure EventActs (s t : State) : Prop extends KeepsLaws s t where
  machine : Unprompted s.machine.state t.machine.state
  leaving : ∀ l : Leaving, t.exchange.leaving = some l → s.exchange.leaving = some l ∨
    (s.exchange.leg = .idle ∧ l.number = (s.board l.parity).number)

theorem PartActs.event {s t : State} (h : PartActs s t) : EventActs s t :=
  ⟨h.toKeepsLaws, h.machine, fun l hl => .inl (h.leaving l hl)⟩

theorem EventActs.trans {s u t : State} (h : EventActs s u) (h' : PartActs u t) : EventActs s t :=
  ⟨h.toKeepsLaws.trans h'.toKeepsLaws, h.machine.trans h'.machine,
    fun l hl => h.leaving l (h'.leaving l hl)⟩

/-- Before the exchange begins, the boards and the exchange have not moved. -/
theorem EventActs.after {s u t : State} (h : PartActs s u) (hboards : u.boards = s.boards)
    (hexchange : u.exchange = s.exchange) (h' : EventActs u t) : EventActs s t :=
  ⟨h.toKeepsLaws.trans h'.toKeepsLaws, h.machine.trans h'.machine, fun l hl => by
    have hu := h'.leaving l hl
    rwa [hexchange, board_congr hboards] at hu⟩

theorem EventActs.beginMove {s u : State} (h : PartActs s u) (kind : ExchangeKind)
    {leaving : Option Leaving}
    (hleaving : ∀ l, leaving = some l →
      s.exchange.leg = .idle ∧ l.number = (s.board l.parity).number) :
    EventActs s (u.beginMove kind leaving) :=
  have hmoved : KeepsLaws u
      { u with exchange := { u.exchange with leg := .move, kind := kind, leaving := leaving } } := { }
  have hbegun : KeepsLaws u (u.beginMove kind leaving) :=
    hmoved.trans (PartActs.giveTargets _ _).toKeepsLaws
  ⟨h.toKeepsLaws.trans hbegun, h.machine, fun l hl => .inr (hleaving l hl)⟩

theorem EventActs.exchangeIfMay (s : State) : EventActs s s.exchangeIfMay := by
  unfold State.exchangeIfMay
  split
  next hmay =>
    split
    next p _ =>
      refine .beginMove (.trans ?_ (.evalPhase _ p)) _ ?_
      · exact .putBoard id rfl
      · rintro l ⟨⟩
        exact ⟨hmay.1, rfl⟩
    next =>
      split
      · split
        · exact .beginMove (.refl s) _ (by simp)
        · split
          · exact .beginMove (.refl s) _ (by simp)
          · exact (PartActs.refl s).event
      · exact (PartActs.refl s).event
  next => exact (PartActs.refl s).event

/-! ## Axes (R145 to R154) -/

theorem PartActs.slotActivation (s : State) : PartActs s s.slotActivation := by
  unfold State.slotActivation
  split
  · exact (PartActs.activate ..).trans (.headJudge _)
  · exact .refl s

theorem PartActs.formEnds (s : State) : PartActs s s.formEnds where

theorem PartActs.axesChanged (s : State) (present : Bool) : PartActs s (s.axesChanged present) :=
  ((PartActs.formEnds s).trans (.moveLegEnd ..)).trans (.homingCheck _)

theorem PartActs.putAxis (s : State) (a : Axis) (r : AxisRecord) : PartActs s (s.putAxis a r) where

theorem PartActs.positionSample (s : State) (a : Axis) (count : Nat) (present : Bool) :
    PartActs s (s.positionSample a count present) := by
  have hsampled := (PartActs.putAxis s a ((s.axis a).sampled (s.axisSettings a) count)).trans
    (.axesChanged _ present)
  unfold State.positionSample
  split
  · exact hsampled.trans ((PartActs.raise ..).trans (.settle _))
  · exact hsampled.trans (.settle _)

theorem PartActs.lockTimeout (s : State) (a : Axis) : PartActs s (s.lockTimeout a) := by
  unfold State.lockTimeout
  split
  · exact (PartActs.putAxis ..).trans ((PartActs.raise ..).trans (.settle _))
  · exact .refl s

/-! ## Stations (R44 to R65) -/

theorem PartActs.setStation (s : State) (k : Nat) (st : Station) :
    PartActs s (s.setStation k st) :=
  (PartActs.putStation ..).trans (.stationConditions _)

theorem PartActs.raiseIfLow (s : State) (k : Nat) (wasLow : Bool) :
    PartActs s (s.raiseIfLow k wasLow) := by
  unfold State.raiseIfLow
  split
  · exact .refl s
  · split
    · exact .raise ..
    · exact .refl s

theorem PartActs.raiseIfEmptied (s : State) (k : Nat) (before : StationState) :
    PartActs s (s.raiseIfEmptied k before) := by
  unfold State.raiseIfEmptied
  split
  · exact .refl s
  · split
    · exact .raise ..
    · exact .refl s

theorem PartActs.raiseIfSuspect (s : State) (k : Nat) (before : StationState) :
    PartActs s (s.raiseIfSuspect k before) := by
  unfold State.raiseIfSuspect
  split
  · exact .refl s
  · split
    · exact .raise ..
    · exact .refl s

theorem PartActs.fedOutcome (s : State) (k : Nat) (st : Station) : PartActs s (s.fedOutcome k st) :=
  ((PartActs.markClip ..).trans (.setStation ..)).trans
    ((PartActs.raiseIfLow ..).trans (.raiseIfEmptied ..))

theorem PartActs.missOutcome (s : State) (k : Nat) (st : Station) :
    PartActs s (s.missOutcome k st) := by
  cases hst : (s.dropAt k).station? k with
  | none =>
    simp only [State.missOutcome, hst]
    exact .dropAt s k
  | some st1 =>
    simp only [State.missOutcome, hst]
    exact ((PartActs.dropAt s k).trans (.putStation ..)).trans
      ((PartActs.stationConditions _).trans ((PartActs.raiseIfEmptied ..).trans (.raiseIfSuspect ..)))

theorem PartActs.sprocket (s : State) (k : Nat) (pocket : Bool) :
    PartActs s (s.sprocket k pocket) := by
  unfold State.sprocket
  split
  · exact .refl s
  · split
    · split
      · exact (PartActs.fedOutcome ..).trans (.settle _)
      · split
        · exact .putStation ..
        · exact (PartActs.missOutcome ..).trans (.settle _)
    · exact .refl s

theorem PartActs.jam (s : State) (k : Nat) : PartActs s (s.jam k) := by
  unfold State.jam
  split
  · exact .refl s
  · split
    · exact .refl s
    · cases hst : (s.dropAt k).station? k with
      | none =>
        simp only [hst]
        exact .dropAt s k
      | some st1 =>
        simp only [hst]
        exact ((PartActs.dropAt s k).trans (.putStation ..)).trans
          ((PartActs.stationConditions _).trans ((PartActs.raise ..).trans (.settle _)))

theorem PartActs.loadStation (s : State) (k value : Nat) (st : Station) :
    PartActs s (s.loadStation k value st).state := by
  unfold State.loadStation
  split
  · exact .refl s
  · exact (PartActs.setStation ..).trans ((PartActs.raiseIfLow ..).trans (.raiseIfEmptied ..))

theorem PartActs.stationSetting (s : State) (k item value : Nat) (st : Station) :
    PartActs s (s.stationSetting k item value st).state := by
  unfold State.stationSetting
  split
  · exact .refl s
  · split
    · exact (PartActs.setStation ..).trans (.raiseIfLow ..)
    · exact .putStation ..

theorem PartActs.stationOffline (s : State) (k : Nat) (st : Station) :
    PartActs s (s.stationOffline k st).state :=
  (PartActs.putStation ..).trans (.stationConditions _)

theorem PartActs.stationOnline (s : State) (k : Nat) (st : Station) :
    PartActs s (s.stationOnline k st).state := by
  unfold State.stationOnline
  split
  · split
    · exact (PartActs.putStation ..).trans (.stationConditions _)
    · exact (PartActs.putStation ..).trans ((PartActs.stationConditions _).trans (.raiseIfEmptied ..))
  · exact .refl s
  · exact .refl s

theorem PartActs.clearStation (s : State) (k : Nat) (st : Station) :
    PartActs s (s.clearStation k st).state := by
  unfold State.clearStation
  split
  · exact (PartActs.putStation ..).trans ((PartActs.stationConditions _).trans (.raiseIfEmptied ..))
  · exact .refl s

end Sys2Proof.Machine
end

section
/-! PROOFS. The laws that every step keeps, continued: the chain, the index completion, the call scan, the head and its drive. -/

namespace Sys2Proof.Machine

/-! ## The chain and the index completion (R91 to R120) -/

theorem PartActs.beginIndex (s : State) : PartActs s s.beginIndex := by
  unfold State.beginIndex
  exact { chain := fun h => h.indexed rfl rfl (by simp) }

theorem PartActs.markEdge (s : State) : PartActs s s.markEdge := by
  unfold State.markEdge
  split
  · exact { chain := fun h => h.indexed (i := s.chain.indexState) rfl rfl h.indexTimer_iff }
  · exact .refl s

theorem PartActs.chainJam (s : State) : PartActs s s.chainJam := by
  unfold State.chainJam
  split
  · refine .trans (.trans ?_ (.raise _ _ _)) (.settle _)
    exact { chain := fun h => h.indexed rfl rfl (by simp) }
  · exact .refl s

/-- The judgment of the mark keeps the ranges of the chain record (R98 to R102). -/
theorem Chain.Holds.completed {c : Chain} (h : c.Holds) (nf nb : Nat) :
    (c.completed nf nb).chain.Holds := by
  obtain ⟨-, hmiss, htolerance, hcandidate, -, hlocked, hlocking⟩ := h
  have hrisen : (c.counter + 1) % 200 < 200 := Nat.mod_lt _ (by decide)
  cases hsync : c.syncState <;> simp only [hsync] at hlocked hlocking
  case unlocked =>
    cases hmark : c.markSeen
    · rw [completed_unlocked_unmarked nf nb hsync hmark]
      simp_all [Holds, keeps, risen]
    · rw [completed_unlocked_marked nf nb hsync hmark]
      split <;> simp_all [Holds, locks, keeps, risen]
  case locking =>
    cases hmark : c.markSeen
    · rw [completed_locking_unmarked nf nb hsync hmark]
      split <;> simp_all [Holds, keeps, risen]
    · by_cases hzero : (c.counter + 1) % 200 = 0
      · rw [completed_locking_expected nf nb hsync hmark hzero]
        split <;> simp_all [Holds, locks, keeps, risen, saturate]
      · rw [completed_locking_inserted nf nb hsync hmark hzero]
        simp_all [Holds, keeps, risen]
  case locked =>
    by_cases hzero : (c.counter + 1) % 200 = 0 <;> cases hmark : c.markSeen
    · rw [completed_locked_missed nf nb hsync hmark hzero]
      split <;> simp_all [Holds, keeps, risen, saturate]
    · rw [completed_locked_expected nf nb hsync hmark hzero]
      simp_all [Holds, keeps, risen]
    · rw [completed_locked_between nf nb hsync hmark hzero]
      simp_all [Holds, keeps, risen]
    · rw [completed_locked_inserted nf nb hsync hmark hzero]
      split <;> simp_all [Holds, keeps, risen]

theorem SlotInside.advanced {g : Settings} {m : MoveSlot} (h : SlotInside g m) :
    SlotInside g m.advanced := by
  unfold MoveSlot.advanced
  split <;> exact h

/-- The shift as a change of the chain, the stretch and the slots, and then of the alarm table. -/
theorem PartActs.shift (s : State) : PartActs s s.shift := by
  have hshifted : PartActs s
      { s with
        chain := s.markJudgment.chain
        stretch := shiftedWithIds s.markJudgment s.stretch
        slots := s.slots.map MoveSlot.advanced } :=
    have hlength := s.stretch_shift ▸ s.length_stretch_shift
    { shape := fun h => h.congr rfl rfl hlength rfl
      targets := fun h => h.of_slots rfl fun p => by
        show SlotInside _ ((s.slots.map MoveSlot.advanced).get p)
        rw [Pair.get_map]
        exact (h.2 p).advanced
      chain := fun h => by
        have hids := State.idsHold_shift h
        rw [s.chain_shift, s.stretch_shift] at hids
        exact ⟨h.1.completed _ _, hlength.trans h.2.1, hids⟩ }
  unfold State.shift
  dsimp only
  split
  · exact hshifted.trans (.raiseRecord ..)
  · split
    · exact hshifted.trans (.endCondition ..)
    · exact hshifted

/-- A candidate of the scan meets conditions 1 to 3 of R78, and holds its slot's record. -/
theorem State.mem_candidates {s : State} {p : Parity} {fourth : Placement → Bool} {c : Candidate} :
    c ∈ s.candidates p fourth ↔ s.slot? c.slot = some c.record ∧ s.mayBeCalled c.slot p = true ∧
      fourth c.record = true ∧ c.slot ∈ s.admitted := by
  obtain ⟨n, r⟩ := c
  simp only [State.candidates, List.mem_filterMap]
  constructor
  · rintro ⟨m, hm, h⟩
    split at h
    · simp at h
    next u hu =>
      split at h
      next hmay =>
        simp only [Bool.and_eq_true] at hmay
        obtain ⟨rfl, rfl⟩ : m = n ∧ u = r := by simpa using h
        exact ⟨hu, hmay.1, hmay.2, hm⟩
      next => simp at h
  · rintro ⟨hr, hmay, hfourth, hn⟩
    exact ⟨n, hn, by simp [hr, hmay, hfourth]⟩

theorem leastCandidate_mem {l : List Candidate} {c : Candidate} (h : leastCandidate l = some c) :
    c ∈ l := by
  induction l generalizing c with
  | nil => simp [leastCandidate] at h
  | cons d l ih =>
    unfold leastCandidate at h
    split at h
    · simp_all
    next e he =>
      simp only [Option.some.injEq, lesser] at h
      split at h
      · exact h ▸ List.mem_cons_of_mem d (ih he)
      · exact h ▸ List.mem_cons_self

theorem State.leastPair_mem {s : State} {fourth : Placement → Bool} {p : Parity} {c : Candidate}
    (h : s.leastPair fourth = some (p, c)) :
    p ∈ s.boardsByAge ∧ leastCandidate (s.candidates p fourth) = some c := by
  unfold State.leastPair at h
  obtain ⟨l₁, q, l₂, hl, hq, -⟩ := List.findSome?_eq_some_iff.mp h
  simp only [Option.map_eq_some_iff, Prod.mk.injEq] at hq
  obtain ⟨d, hd, rfl, rfl⟩ := hq
  exact ⟨by simp [hl], hd⟩

theorem State.mayBeCalled_callable {s : State} {n : Nat} {p : Parity} {r : Placement}
    (h : s.mayBeCalled n p = true) (hr : s.slot? n = some r) :
    (r.status.get p).state = .callable := by
  simp only [State.mayBeCalled, hr, Bool.and_eq_true, decide_eq_true_eq] at h
  exact h.2.1.1

/-- The call request of a CALLABLE placement (R6). -/
theorem PartActs.callRequest {s : State} {n : Nat} {p : Parity} {r : Placement}
    (hr : s.slot? n = some r) (hc : (r.status.get p).state = .callable) :
    PartActs s (s.callRequest n p) := by
  unfold State.callRequest
  refine .trans ?_ (.report _ _ _)
  rw [s.modifyStatus_of hr]
  exact
    { attempts := fun h => by
        refine h.modified hr (n := n) (p := p) (v := { r.status.get p with state := .called })
          (fun m u hu => ?_) (fun q => rfl) rfl fun _ ⟨hle, hiff⟩ => ⟨hle, by simpa [hc] using hiff⟩
        by_cases hm : m = n
        · subst hm
          rw [State.slot?_putSlot_self hr] at hu
          obtain rfl : _ = u := by simpa using hu
          exact .inr ⟨rfl, rfl⟩
        · rw [s.slot?_putSlot_ne hm] at hu
          exact .inl ⟨u, hu, rfl⟩ }

theorem PartActs.assign {s : State} {p : Parity} {n : Nat} {r : Placement}
    (hr : s.slot? n = some r) (hc : (r.status.get p).state = .callable) (k : Nat) :
    PartActs s (s.assign p n k) := by
  unfold State.assign
  refine .trans ?_ (.callRequest (r := r) ?_ hc)
  · exact { chain := fun h => h.congr_eq (s.clipIds_putClip _ _ rfl) (by simp) }
  · exact (slot?_congr (s := s) (by simp) n).trans hr

theorem PartActs.scanFrom (s : State) (fuel : Nat) (l : List Nat) :
    PartActs s (s.scanFrom fuel l).1 := by
  induction fuel generalizing l with
  | zero => exact .refl s
  | succ fuel ih =>
    unfold State.scanFrom
    split
    · exact .refl s
    next p c hleast =>
      have hmem := State.mem_candidates.mp (leastCandidate_mem (State.leastPair_mem hleast).2)
      split
      · exact .refl s
      · split
        next t ht =>
          obtain ⟨st, -, -, rfl⟩ := s.commit_eq t ht
          refine (PartActs.putStation ..).trans (.assign (r := c.record) ?_ ?_ _)
          · exact (slot?_congr (s := s) (by simp) _).trans hmem.1
          · exact State.mayBeCalled_callable hmem.2.1 hmem.1
        · exact ih _

theorem PartActs.callScan (s : State) : PartActs s s.callScan.1 := by
  unfold State.callScan
  split
  · have hscan := PartActs.scanFrom s (Config.stationCount + 1) []
    split
    next h =>
      rw [h] at hscan
      dsimp only at hscan ⊢
      exact hscan.trans (.raiseRecord ..)
    next h =>
      rw [h] at hscan
      exact hscan
  · exact .refl s

theorem PartActs.stationReacts (s : State) (k : Nat) : PartActs s (s.stationReacts k) := by
  unfold State.stationReacts
  split
  · split
    · exact .refl s
    · split
      · exact .dropAt s k
      · split
        · exact .takeOn s k
        · exact .putStation ..
  · exact .refl s

theorem State.length_stretch_of_clipIds {s t : State} (h : t.clipIds = s.clipIds) :
    t.stretch.length = s.stretch.length := by
  simpa [State.clipIds] using congrArg List.length h

theorem PartActs.writeJudgment (s : State) (c : ClipState) (j : Judgment) :
    PartActs s (s.writeJudgment c j) where
  shape h := h.congr (by simp) (by simp)
    (State.length_stretch_of_clipIds (s.clipIds_writeJudgment c j)) (by simp)
  chain h := h.congr_eq (s.clipIds_writeJudgment c j) (by simp)

theorem PartActs.judgeUncarried (s : State) (present : Bool) :
    PartActs s (s.judgeUncarried present) := by
  unfold State.judgeUncarried
  split
  · exact .writeJudgment ..
  · exact .writeJudgment ..

theorem PartActs.countedRecallOf (s : State) (c : Option Call) :
    PartActs s (s.countedRecallOf c).1 := by
  unfold State.countedRecallOf
  split
  · exact .refl s
  · split
    · dsimp only
      exact (PartActs.recallCounted ..).trans (.raiseRecord ..)
    · exact .recallCounted ..

theorem PartActs.reportCondition (s : State) (id : Option Nat) (j : Judgment) :
    PartActs s (s.reportCondition id j) where
  shape h := h.congr (by simp) (by simp) (by simp) (by unfold State.reportCondition; split <;> simp)

theorem PartActs.verifyReacts (s : State) (present leads : Bool) :
    PartActs s (s.verifyReacts present leads).1 := by
  unfold State.verifyReacts
  split
  · dsimp only
    split
    · exact (PartActs.reportCondition ..).trans (.writeJudgment ..)
    · exact (PartActs.reportCondition ..).trans ((PartActs.writeJudgment ..).trans (.countedRecallOf ..))
  · exact .judgeUncarried ..
  · exact .judgeUncarried ..
  · exact .judgeUncarried ..
  · exact .refl s

theorem PartActs.eject (s : State) : PartActs s s.eject where

theorem PartActs.gateReacts (s : State) : PartActs s s.gateReacts := by
  unfold State.gateReacts
  split
  · exact (PartActs.eject s).trans (.markClip ..)
  · exact (PartActs.eject s).trans (.markClip ..)
  · split
    · exact .refl s
    · split
      · exact .refl s
      · exact (PartActs.eject s).trans ((PartActs.markClip ..).trans (.recallDeferral ..))
  · exact .refl s

theorem PartActs.plannerReacts (s : State) : PartActs s s.plannerReacts := by
  unfold State.plannerReacts
  split
  · exact .planDump ..
  · split
    · exact .refl s
    · split
      · exact .refl s
      · exact .planInsert ..
  · exact .refl s

theorem PartActs.reacts (s : State) (present leads : Bool) (r : Reactor) :
    PartActs s (s.reacts present leads r).1 := by
  cases r with
  | scan => exact .callScan s
  | station k => exact .stationReacts s k
  | verify => exact .verifyReacts ..
  | gate => exact .gateReacts s
  | planner => exact .plannerReacts s

theorem PartActs.reactInOrder (present leads : Bool) (rs : List Reactor) (s : State) :
    PartActs s (State.reactInOrder present leads rs s).1 := by
  induction rs generalizing s with
  | nil => exact .refl s
  | cons r rs ih => exact (PartActs.reacts s present leads r).trans (ih _)

theorem PartActs.indexCompletion (s : State) (present leads : Bool) (order : List Reactor) :
    PartActs s (s.indexCompletion present leads order) := by
  by_cases hi : s.chain.indexState = .indexing
  · rw [s.indexCompletion_eq hi]
    refine .trans (.trans (.trans ?_ (.headJudge _)) (.reactAll _ _)) (.settle _)
    exact ((PartActs.shift s).trans (.reactInOrder ..)).trans (.homingCheck _)
  · exact .of_eq (by simp only [State.indexCompletion, if_neg hi])

/-! ## The head (R160 to R171) -/

theorem PartActs.startCycle (s : State) (p : Parity) : PartActs s (s.startCycle p) := by
  unfold State.startCycle
  exact { }

theorem PartActs.cycleStart (s : State) (home : Bool) : PartActs s (s.cycleStart home) := by
  unfold State.cycleStart
  split
  · split
    · exact .startCycle ..
    · exact .refl s
  · exact .refl s

theorem PartActs.homingStart (s : State) (home : Bool) : PartActs s (s.homingStart home) := by
  unfold State.homingStart
  split
  · exact .setHead ..
  · exact .refl s

theorem PartActs.formedEdge (s : State) : PartActs s s.formedEdge := by
  unfold State.formedEdge
  split
  · exact (PartActs.setHead ..).trans (.formEnds _)
  · exact .refl s

theorem PartActs.enterStroke (s : State) : PartActs s s.enterStroke where

theorem State.clipIds_enterRetract (s : State) : s.enterRetract.clipIds = s.clipIds :=
  State.clipIds_putClip _ _ _ rfl

theorem PartActs.enterRetract (s : State) : PartActs s s.enterRetract where
  shape h := h.congr (by simp) (by simp)
    (State.length_stretch_of_clipIds s.clipIds_enterRetract) (by simp)
  chain h := h.congr_eq s.clipIds_enterRetract (by simp)

theorem PartActs.downEdge (s : State) : PartActs s s.downEdge := by
  unfold State.downEdge
  split
  · split
    · exact .enterStroke s
    · exact .enterRetract s
    · exact .refl s
  · exact .refl s

theorem PartActs.setDrive (s : State) (d : Drive) : PartActs s { s with drive := d } where

theorem PartActs.clinchEnd (s : State) : PartActs s s.clinchEnd := by
  have hinsertion (t : State) (h : Head) : PartActs t (t.requestInsertion h) := by
    unfold State.requestInsertion
    split
    · exact .refl t
    · exact .insertionRequest ..
  unfold State.clinchEnd
  split
  · exact (PartActs.setDrive ..).trans ((PartActs.enterRetract _).trans (hinsertion ..))
  · exact .refl s

theorem PartActs.stroke (s : State) (d : Drive) (h : Head) :
    PartActs s { s with drive := d, head := h } where

theorem PartActs.stall (s : State) : PartActs s s.stall := by
  unfold State.stall
  refine .trans (.trans ?_ (.raise _ _ _)) (.settle _)
  exact .stroke ..

theorem EventActs.headClear (s : State) (exchangeFirst : Bool) :
    EventActs s (s.headClear exchangeFirst) := by
  unfold State.headClear
  split
  · unfold State.headClearSteps
    dsimp only
    refine .trans (.trans ?_ (.earlyActivation _)) (.requestIndex _)
    have hreleased : PartActs s
        (State.releaseCycleSlot { s with head := { s.head with cleared := true } }) := by
      unfold State.releaseCycleSlot
      split
      · exact (PartActs.setHead ..).trans (.releaseSlot ..)
      · exact .setHead ..
    split
    · exact .after hreleased (by simp) (by simp) (.exchangeIfMay _)
    · exact hreleased.event
  · exact (PartActs.refl s).event

theorem EventActs.retractEnds (s : State) (exchangeFirst : Bool) :
    EventActs s (s.retractEnds exchangeFirst) := by
  unfold State.retractEnds
  refine .trans (.trans (.headClear s exchangeFirst) ?_) (.headJudge _)
  exact .setHead ..

theorem PartActs.homingEnds (s : State) : PartActs s s.homingEnds :=
  (PartActs.setHead ..).trans (.headJudge _)

theorem EventActs.homeRise (s : State) (exchangeFirst : Bool) :
    EventActs s (s.homeRise exchangeFirst) := by
  unfold State.homeRise
  split
  · exact (EventActs.retractEnds ..).trans (.settle _)
  · exact (((PartActs.homingEnds s).trans (.cycleStart _ true)).trans (.settle _)).event
  · exact (PartActs.refl s).event

theorem EventActs.headJam (s : State) (phase : JamPhase) {edge : State → State}
    (hedge : ∀ t, EventActs t (edge t)) : EventActs s (s.headJam phase edge) := by
  unfold State.headJam
  refine .trans (.trans (.after ?_ ?_ ?_ (hedge _)) (.react _ _)) (.settle _)
  · exact (PartActs.setHead ..).trans (.raiseRecord ..)
  · simp
  · simp

theorem EventActs.withEdge {f : State → State} (h : ∀ t, EventActs t (f t)) (edge : Bool)
    (t : State) : EventActs t (withEdge edge f t) := by
  unfold Machine.withEdge
  split
  · exact h t
  · exact (PartActs.refl t).event

theorem EventActs.phaseTimeout (s : State) (edge exchangeFirst : Bool) :
    EventActs s (s.phaseTimeout edge exchangeFirst) := by
  unfold State.phaseTimeout
  split
  · split
    · exact (PartActs.refl s).event
    · exact ((PartActs.homingEnds s).trans ((PartActs.raise ..).trans (.settle _))).event
    · exact .headJam _ _ (.withEdge (fun t => (PartActs.formedEdge t).event) edge)
    · exact .headJam _ _ (.withEdge (fun t => (PartActs.downEdge t).event) edge)
    · exact (PartActs.stall s).event
    · exact .headJam _ _ (.withEdge (fun t => .retractEnds t exchangeFirst) edge)
  · exact (PartActs.refl s).event

/-! ## The clinch drive (R170 to R176) -/

theorem PartActs.tripReached (s : State) (current : Nat) : PartActs s (s.tripReached current) := by
  unfold State.tripReached
  split
  · split
    · exact (PartActs.setDrive ..).trans (.stall _)
    · exact .setDrive ..
  · exact .refl s

theorem PartActs.offTimeExpiry (s : State) : PartActs s s.offTimeExpiry := by
  unfold State.offTimeExpiry
  split
  · exact .setDrive ..
  · exact .refl s

theorem PartActs.clinchSample (s : State) (current : Nat) : PartActs s (s.clinchSample current) := by
  have hopen (t : State) : PartActs t t.openLoad := by
    unfold State.openLoad
    refine .trans (.trans ?_ (.raise _ _ _)) (.settle _)
    exact .stroke ..
  unfold State.clinchSample
  dsimp only
  split
  · split
    · exact (PartActs.stroke ..).trans (hopen _)
    · exact .stroke ..
  · exact .refl s

theorem PartActs.overcurrentRise (s : State) (current : Nat) :
    PartActs s (s.overcurrentRise current) := by
  unfold State.overcurrentRise
  split
  · exact .setDrive ..
  · exact .refl s

theorem PartActs.overcurrentFall (s : State) (current : Nat) :
    PartActs s (s.overcurrentFall current) := by
  unfold State.overcurrentFall
  split
  · exact .refl s
  · exact (PartActs.setDrive ..).trans (.endCondition ..)

theorem PartActs.filterExpiry (s : State) : PartActs s s.filterExpiry := by
  unfold State.filterExpiry
  split
  · refine .trans (.trans ?_ (.raise _ _ _)) (.settle _)
    exact .setDrive ..
  · exact .refl s

theorem PartActs.restroke (s : State) : PartActs s s.restroke := by
  unfold State.restroke
  split
  · exact .enterStroke s
  · exact .refl s

end Sys2Proof.Machine
end

section
/-! PROOFS. The laws that every step keeps, continued: the commands of the host on the table, the alarms, the settings and the machine. -/

namespace Sys2Proof.Machine

/-! ## The commands of the placement table (R15 to R22) -/

/-- A write of one slot of the table keeps the laws where the status slots of the record it writes keep
the law of R8. -/
theorem PartActs.putSlot {s : State} {n : Nat} {v : Option Placement}
    (hv : AttemptsHold s → ∀ r p, v = some r → s.isOpen p = true →
      (r.status.get p).AttemptsHold s.settings.recallLimit) : PartActs s (s.putSlot n v) where
  attempts h := by
    intro m p r hr ho
    rw [State.slot?_putSlot] at hr
    split at hr
    · exact hv h r p hr ho
    · exact h m p r hr ho

/-- A record of the table whose status slots stay is written. -/
theorem PartActs.putSlot_status {s : State} {n : Nat} {r u : Placement} (hr : s.slot? n = some r)
    (hu : u.status = r.status) : PartActs s (s.putSlot n (some u)) :=
  .putSlot fun h w p hw ho => by
    obtain rfl : u = w := by simpa using hw
    exact hu ▸ h n p r hr ho

theorem admittedRecord_status {sequence station x y span trip : Nat} {code : Byte} {r : Placement}
    (h : admittedRecord sequence station x y span trip code = some r) (p : Parity) :
    r.status.get p = StatusSlot.fresh := by
  unfold admittedRecord at h
  split at h
  · split at h
    · obtain rfl := Option.some.inj h
      cases p <;> rfl
    · simp at h
  · simp at h

theorem PartActs.admitRecord {s : State} {record : Option Placement}
    (hr : ∀ r p, record = some r → r.status.get p = StatusSlot.fresh) :
    PartActs s (s.admitRecord record).state := by
  unfold State.admitRecord
  split
  · exact .refl s
  · exact .refl s
  next r n =>
    refine .putSlot fun _ u p hu _ => ?_
    rw [hr u p hu]
    exact StatusSlot.attemptsHold_of_zero (by simp [StatusSlot.fresh]) rfl _

theorem amendedRecord_status {r u : Placement} {field value : Nat}
    (h : amendedRecord r field value = some u) : u.status = r.status := by
  unfold amendedRecord at h
  split at h <;> grind [Option.map_eq_some_iff]

theorem PartActs.amend {s : State} {n : Nat} {r : Placement} (hr : s.slot? n = some r)
    (field value : Nat) : PartActs s (s.amend n field value r).state := by
  unfold State.amend
  split
  · exact .refl s
  next u hu =>
    split
    · exact .refl s
    · split
      · exact .refl s
      · exact .putSlot_status hr (amendedRecord_status hu)

theorem PartActs.retire (s : State) (n : Nat) (r : Placement) : PartActs s (s.retire n r).state := by
  have hreport (t : State) (p : Parity) : PartActs t (t.reportRetirement r p) := by
    unfold State.reportRetirement
    split
    · exact .report ..
    · exact .refl t
  unfold State.retire
  split
  · exact .refl s
  · split
    · exact .refl s
    · rw [State.state_ok]
      refine .trans (.trans ?_ (hreport _ _)) (hreport _ _)
      exact .putSlot (by simp)

theorem State.attemptsHold_markUnordered {s : State} {p : Parity} {u : StatusSlot} {limit : Nat}
    (h : u.AttemptsHold limit) : (s.markUnordered p u).AttemptsHold limit := by
  unfold State.markUnordered
  split <;> exact h

theorem PartActs.holdRecord {s : State} {n : Nat} {r : Placement} (hr : s.slot? n = some r) :
    PartActs s (s.holdRecord n r).state := by
  unfold State.holdRecord
  split
  · exact .refl s
  · exact .refl s
  · dsimp only
    split <;>
    · refine .putSlot fun h u p hu ho => ?_
      obtain rfl := Option.some.inj hu
      cases p
      · exact State.attemptsHold_markUnordered (h n .even r hr ho)
      · exact State.attemptsHold_markUnordered (h n .odd r hr ho)

theorem PartActs.releaseRecord {s : State} {n : Nat} {r : Placement} (hr : s.slot? n = some r) :
    PartActs s (s.releaseRecord n r).state := by
  unfold State.releaseRecord
  split
  · exact .refl s
  · exact .putSlot_status hr rfl

/-- The change of one status slot by the host keeps the law of R8 where the new one keeps it. -/
theorem PartActs.modifyStatus {s : State} {n : Nat} {r : Placement} (hr : s.slot? n = some r)
    {p : Parity} {f : StatusSlot → StatusSlot}
    (hf : (r.status.get p).AttemptsHold s.settings.recallLimit →
      (f (r.status.get p)).AttemptsHold s.settings.recallLimit) :
    PartActs s (s.modifyStatus n p f) := by
  rw [s.modifyStatus_of hr]
  refine .putSlot fun h u q hu ho => ?_
  obtain rfl := Option.some.inj hu
  rw [Pair.get_put]
  split
  next hq => exact hf (h n p r hr (hq ▸ ho))
  next => exact h n q r hr ho

theorem PartActs.skipIn {s : State} {n : Nat} {r : Placement} (hr : s.slot? n = some r)
    (p : Parity) : PartActs s (s.skipIn n r p).state := by
  unfold State.skipIn
  split
  · exact .refl s
  · split
    · exact .refl s
    · split
      · exact .refl s
      next hc =>
        rw [State.state_ok]
        refine .trans (.modifyStatus hr ?_) (.report _ _ _)
        rintro ⟨hle, hiff⟩
        exact ⟨hle, by simpa [not_not.mp hc] using hiff⟩

theorem PartActs.recallIn {s : State} {n : Nat} {r : Placement} (hr : s.slot? n = some r)
    (p : Parity) : PartActs s (s.recallIn n r p).state := by
  unfold State.recallIn
  split
  · exact .refl s
  · exact .refl s
  · split
    · exact .refl s
    · split
      · exact .refl s
      · rw [State.state_ok]
        exact .trans (.modifyStatus hr fun _ =>
          StatusSlot.attemptsHold_of_zero (by simp [recalledSlot]) rfl _) (.report _ _ _)

/-! ## Alarm commands and settings (R193, R195, R207) -/

theorem AlarmRecord.Holds.cleared {k : AlarmKind} {r : AlarmRecord} (h : r.Holds k)
    (hr : r.state = .latched) : ({ r with state := .clear } : AlarmRecord).Holds k := by
  obtain ⟨hcondition, htimer, hevent, hfixed, hoccurrences⟩ := h
  exact ⟨fun hc => absurd (hcondition hc) (by simp [hr]),
    fun ht => absurd (htimer ht).1 (by simp [hr]), hevent, hfixed, hoccurrences⟩

theorem PartActs.liftLockout (s : State) (k : AlarmKind) : PartActs s (s.liftLockout k) := by
  unfold State.liftLockout
  split
  · exact .setDrive ..
  · exact .refl s

theorem PartActs.clearAlarm (s : State) (k : AlarmKind) : PartActs s (s.clearAlarm k).state := by
  unfold State.clearAlarm
  split
  next hlatched => exact (PartActs.putAlarm fun h => h.cleared hlatched).trans (.liftLockout ..)
  · exact .liftLockout ..
  · exact .refl s

theorem AlarmRecord.Holds.expired {k : AlarmKind} {r : AlarmRecord} (h : r.Holds k) :
    r.expired.Holds k := by
  obtain ⟨hcondition, -, hevent, hfixed, hoccurrences⟩ := h
  unfold AlarmRecord.expired
  split
  · exact ⟨hcondition, by simp, hevent, hfixed, hoccurrences⟩
  next habsent => exact ⟨fun hc => absurd hc habsent, by simp, hevent, hfixed, hoccurrences⟩

/-- A change of the settings of other groups than the axes and the recall limit. -/
theorem PartActs.putSettings {s : State} {g : Settings} (haxis : g.axis = s.settings.axis)
    (hlimit : g.recallLimit = s.settings.recallLimit) : PartActs s (s.putSettings g) where
  shape h := h
  targets h := by
    obtain ⟨hpositions, hslots⟩ := h
    refine ⟨fun a => ?_, fun p hp => ?_⟩
    · show (g.axis.get a).Inside (g.axis.get a).loadPosition ∧
        (g.axis.get a).Inside (g.axis.get a).dumpPosition
      rw [haxis]
      exact hpositions a
    · obtain ⟨t, ht, hinside⟩ := hslots p hp
      refine ⟨t, ht, fun a => ?_⟩
      show (g.axis.get a).Inside _
      rw [haxis]
      exact hinside a
  attempts h n p r hr ho := by
    show StatusSlot.AttemptsHold _ g.recallLimit
    rw [hlimit]
    exact h n p r hr ho
  numbers h := h
  returns h := h
  alarms h := h
  chain h := h
  pending := rfl
  machine := .refl _
  leaving _ h := h

/-- A change of the settings of one axis that keeps the load and dump positions and every slot's target
within its limits. -/
theorem PartActs.putAxisSettings {s : State} {a : Axis} {g : AxisSettings}
    (hpositions : TargetsHold s → g.Inside g.loadPosition ∧ g.Inside g.dumpPosition)
    (hslots : ∀ p t, (s.moveSlot p).state = .planned ∨ (s.moveSlot p).state = .active →
      (s.moveSlot p).targets = some t → (s.axisSettings a).Inside (t.get a) → g.Inside (t.get a)) :
    PartActs s (s.putAxisSettings a g) where
  shape h := h
  targets h := by
    obtain ⟨hp, hs⟩ := id h
    refine ⟨fun b => ?_, fun p hmoving => ?_⟩
    · show ((s.settings.axis.put a g).get b).Inside ((s.settings.axis.put a g).get b).loadPosition ∧
        ((s.settings.axis.put a g).get b).Inside ((s.settings.axis.put a g).get b).dumpPosition
      rw [Quad.get_put]
      split
      · exact hpositions h
      · exact hp b
    · obtain ⟨t, ht, hinside⟩ := hs p hmoving
      refine ⟨t, ht, fun b => ?_⟩
      show ((s.settings.axis.put a g).get b).Inside _
      rw [Quad.get_put]
      split
      next hb => exact hb ▸ hslots p t hmoving ht (hinside a)
      next => exact hinside b
  attempts h := h
  numbers h := h
  returns h := h
  alarms h := h
  chain h := h
  pending := rfl
  machine := .refl _
  leaving _ h := h

theorem AxisSettings.between_iff (lo hi v : Nat) : between lo hi v = true ↔ lo ≤ v ∧ v ≤ hi := by
  simp [between]

theorem MoveSlot.inside_of_not_holdsOutside {m : MoveSlot} {a : Axis} {lo hi : Nat} {t : Quad Nat}
    (h : m.holdsOutside a lo hi = false) (hm : m.state = .planned ∨ m.state = .active)
    (ht : m.targets = some t) : lo ≤ t.get a ∧ t.get a ≤ hi := by
  rw [← AxisSettings.between_iff]
  rcases hm with hm | hm <;> simpa [MoveSlot.holdsOutside, hm, ht] using h

theorem State.checkLimits_ok {s : State} {a : Axis} {lo hi : Nat}
    (h : s.checkLimits a lo hi = .ok) :
    (∀ p, (s.moveSlot p).holdsOutside a lo hi = false) ∧
      (lo ≤ (s.axisSettings a).loadPosition ∧ (s.axisSettings a).loadPosition ≤ hi) ∧
      lo ≤ (s.axisSettings a).dumpPosition ∧ (s.axisSettings a).dumpPosition ≤ hi := by
  unfold State.checkLimits at h
  split at h
  · simp at h
  · split at h
    · simp at h
    next hslots =>
      split at h
      · simp at h
      next hpositions =>
        simp only [Bool.or_eq_true, Bool.not_eq_true', not_or, Bool.not_eq_false,
          AxisSettings.between_iff, Bool.not_eq_true] at hslots hpositions
        exact ⟨fun p => by cases p; exacts [hslots.1, hslots.2], hpositions.1, hpositions.2⟩

theorem PartActs.storeLimits {s : State} {a : Axis} {g : AxisSettings}
    (hload : g.loadPosition = (s.axisSettings a).loadPosition)
    (hdump : g.dumpPosition = (s.axisSettings a).dumpPosition)
    (h : s.checkLimits a g.softMin g.softMax = .ok) : PartActs s (s.putAxisSettings a g) := by
  obtain ⟨hslots, hloads, hdumps⟩ := State.checkLimits_ok h
  refine .putAxisSettings (fun _ => ?_) fun p t hp ht _ =>
    MoveSlot.inside_of_not_holdsOutside (hslots p) hp ht
  rw [hload, hdump]
  exact ⟨hloads, hdumps⟩

theorem AlarmRecord.Holds.withReaction {k : AlarmKind} {r : AlarmRecord} (h : r.Holds k)
    (hk : fixedReaction k = false) (reaction : Reaction) :
    ({ r with reaction := reaction } : AlarmRecord).Holds k := by
  obtain ⟨hcondition, htimer, hevent, -, hoccurrences⟩ := h
  exact ⟨hcondition, htimer, hevent, by simp [hk], hoccurrences⟩

/-- SET of an item that has passed its checks keeps the laws (R136, R156, R196, R207). -/
theorem PartActs.storeItem {s : State} {item : SettingItem} {value : Nat}
    (htakes : item.takes value = true) (hopen : s.itemOpen item = true)
    (hcheck : s.checkItem item value = .ok) : PartActs s (s.storeItem item value) := by
  cases item
  case recallLimit =>
    simp only [State.itemOpen, State.boardOpen, Bool.and_eq_true, Bool.not_eq_true',
      Bool.or_eq_false_iff] at hopen
    obtain ⟨-, heven, hodd⟩ := hopen
    exact
      { shape := id, targets := id, numbers := id, returns := id, alarms := id, chain := id
        pending := rfl, machine := .refl _, leaving := fun _ h => h
        attempts := fun _ n p r _ ho => by
          have hclosed : s.isOpen p = false := by cases p; exacts [heven, hodd]
          exact absurd (hclosed.symm.trans ho) (by decide) }
  case softMin a => exact .storeLimits (g := { s.axisSettings a with softMin := value }) rfl rfl hcheck
  case softMax a => exact .storeLimits (g := { s.axisSettings a with softMax := value }) rfl rfl hcheck
  case loadPosition a =>
    have hinside : (s.axisSettings a).Inside value := by
      simpa [State.checkItem, between, AxisSettings.Inside] using hcheck
    exact .putAxisSettings (fun h => ⟨hinside, (h.1 a).2⟩) fun _ _ _ _ ht => ht
  case dumpPosition a =>
    have hinside : (s.axisSettings a).Inside value := by
      simpa [State.checkItem, between, AxisSettings.Inside] using hcheck
    exact .putAxisSettings (fun h => ⟨(h.1 a).1, hinside⟩) fun _ _ _ _ ht => ht
  case settleWindow a => exact .putAxisSettings (fun h => h.1 a) fun _ _ _ _ ht => ht
  case lockWindow a => exact .putAxisSettings (fun h => h.1 a) fun _ _ _ _ ht => ht
  case lockCount a => exact .putAxisSettings (fun h => h.1 a) fun _ _ _ _ ht => ht
  case unlockCount a => exact .putAxisSettings (fun h => h.1 a) fun _ _ _ _ ht => ht
  case lockTimeout a => exact .putAxisSettings (fun h => h.1 a) fun _ _ _ _ ht => ht
  case reaction k =>
    have hk : fixedReaction k = false := by
      simp only [SettingItem.takes, Bool.and_eq_true, Bool.not_eq_true'] at htakes
      exact htakes.2
    unfold State.storeItem
    dsimp only
    split
    · exact .putAlarm fun h => h.withReaction hk _
    · exact .refl s
  case clearMode k =>
    unfold State.storeItem
    dsimp only
    split
    · exact .putAlarm id
    · exact .refl s
  all_goals exact .putSettings rfl rfl

theorem PartActs.setItem (s : State) (item : SettingItem) (value : Nat) :
    PartActs s (s.setItem item value).state := by
  unfold State.setItem
  split
  · exact .refl s
  next htakes =>
    split
    · exact .refl s
    next hopen =>
      split
      next hcheck => exact .storeItem (by simpa using htakes) (by simpa using hopen) hcheck
      next => exact .refl s

/-! ## Machine commands and power (R182 to R190, R208, R209) -/

theorem PartActs.pause (s : State) : PartActs s s.pause.state := by
  unfold State.pause
  split
  · exact .enterPausing s
  · split
    · exact .refl s
    · exact .refl s

theorem PartActs.drain (s : State) : PartActs s s.drain.state := by
  unfold State.drain
  split
  next hrunning =>
    rw [State.state_ok]
    refine .trans (.trans ?_ (.headJudge _)) (.settle _)
    exact { returns := fun _ => by simp [ReturnHolds, State.enter]
            machine := ⟨by simp [State.enter], by simp [hrunning]⟩ }
  next hpausing => exact { returns := fun _ => by simp [ReturnHolds, State.ok, hpausing] }
  next hpaused => exact { returns := fun _ => by simp [ReturnHolds, State.ok, hpaused] }
  · exact .refl s
  · exact .refl s

theorem PartActs.halt (s : State) : PartActs s s.halt.state := by
  unfold State.halt
  split
  · exact .refl s
  next hmoving =>
    rw [State.standing_iff, not_or] at hmoving
    split
    · exact .refl s
    · exact .enterHalted hmoving.1 hmoving.2

/-- A machine state entered by a command to start keeps the laws, with the leaving board. -/
structure HostActs (s t : State) : Prop extends KeepsLaws s t where
  leaving : ∀ l : Leaving, t.exchange.leaving = some l → s.exchange.leaving = some l

theorem PartActs.host {s t : State} (h : PartActs s t) : HostActs s t := ⟨h.toKeepsLaws, h.leaving⟩

theorem HostActs.trans {s u t : State} (h : HostActs s u) (h' : HostActs u t) : HostActs s t :=
  ⟨h.toKeepsLaws.trans h'.toKeepsLaws, fun l hl => h.leaving l (h'.leaving l hl)⟩

theorem HostActs.enter (s : State) {m : MachineState} (hpausing : m ≠ .pausing)
    (hpaused : m ≠ .paused) : HostActs s (s.enter m) where
  returns _ := by simp [ReturnHolds, State.enter, hpausing, hpaused]
  leaving _ h := h

theorem HostActs.enterRunning (s : State) (present : Bool) :
    HostActs s (s.enterRunning present) := by
  have hjudged (t : State) : PartActs t (t.judgeAtRun present) := by
    unfold State.judgeAtRun
    split
    · exact .judgeUncarried ..
    · exact .refl t
  have hcounted : PartActs s { s with runCounter := s.runCounterAtRun } := { }
  exact (hcounted.host.trans (.enter _ (by simp) (by simp))).trans
    ((((hjudged _).trans (.planAtRun ..)).trans (.planAtRun ..)).trans (.headJudge _)).host

theorem PartActs.resolveDue (s : State) (k : Nat) : PartActs s (s.resolveDue k) := by
  unfold State.resolveDue
  split
  · exact .refl s
  · split
    · split
      · exact .takeOn s k
      · exact .dropAt s k
    · exact .refl s

theorem HostActs.resumeTo (s : State) (r : ReturnState) (present : Bool) :
    HostActs s (s.resumeTo r.machine present) :=
  (HostActs.enter s (by cases r <;> simp [ReturnState.machine])
    (by cases r <;> simp [ReturnState.machine])).trans
    (((PartActs.foldl PartActs.resolveDue stationNumbers _).trans (.exchangeContinue ..)).trans
      ((PartActs.headJudge _).trans (.settle _))).host

theorem PartActs.readFaultLines (s : State) : PartActs s s.readFaultLines := by
  have hovertemp : PartActs s (if s.inputs.levels.overtemp then s.raise .overTemp none else s) := by
    split
    · exact .raise ..
    · exact .refl s
  unfold State.readFaultLines
  dsimp only
  split
  · exact hovertemp
  · exact hovertemp.trans (.raise ..)

theorem PartActs.resetHalt (s : State) (late : Bool) : PartActs s (s.resetHalt late) := by
  unfold State.resetHalt
  split
  · exact (((PartActs.haltIndex s).trans (.haltExchange _)).trans (.stopHead _)).trans (.haltAxes _)
  · exact .haltBlocks s

theorem chainHolds_of_powerOn {s : State} (hchain : s.chain = Chain.powerOn)
    (hlength : s.stretch.length = 81) (hclips : ∀ c ∈ s.stretch, c = Clip.unknown) :
    ChainHolds s := by
  refine ⟨by rw [hchain]; simp [Chain.Holds, Chain.powerOn], hlength, fun p c hc => ?_⟩
  rw [hclips c (List.mem_of_getElem? hc), hchain]
  rfl

theorem AlarmRecord.Holds.afterReset {k : AlarmKind} {r : AlarmRecord} (h : r.Holds k) :
    r.afterReset.Holds k :=
  ⟨by simp [AlarmRecord.afterReset, AlarmRecord.fresh],
    by simp [AlarmRecord.afterReset, AlarmRecord.fresh], fun _ => rfl, h.2.2.2.1, Nat.zero_le _⟩

theorem State.isOpen_resetValues (s : State) (p : Parity) : s.resetValues.isOpen p = false := by
  cases p <;> rfl

theorem HostActs.resetValues (s : State) : HostActs s s.resetValues where
  pending := rfl
  shape h := h.congr (by simp [State.resetValues]) (by simp [State.resetValues])
    (by simp [State.resetValues]) rfl
  targets h := h.of_slots rfl fun p => .of_free (by
    show ((s.slots.map MoveSlot.afterReset).get p).state = .free
    rw [Pair.get_map]
    rfl)
  attempts _ n p r _ ho := absurd (s.isOpen_resetValues p) (by simp [ho])
  numbers _ := by
    have hclosed (p : Parity) : NumberHolds s.resetValues p := fun ho =>
      absurd (s.isOpen_resetValues p) (by simp [ho])
    exact ⟨by simp [State.resetValues], hclosed _, hclosed _⟩
  returns _ := by simp [ReturnHolds, State.resetValues]
  alarms h k := by
    show ((s.alarms.map AlarmRecord.afterReset).get k).Holds k
    rw [PerKind.get_map]
    exact (h k).afterReset
  chain h := chainHolds_of_powerOn rfl (by simpa [State.resetValues] using h.2.1)
    (by simp [State.resetValues])
  leaving l hl := by simp [State.resetValues, Exchange.powerOn] at hl

theorem HostActs.resetCommand (s : State) (late : Bool) : HostActs s (s.resetCommand late) :=
  ((PartActs.resetHalt s late).host.trans (.resetValues _)).trans (PartActs.readFaultLines _).host

end Sys2Proof.Machine
end

section
/-! PROOFS. The laws that every step keeps, continued: every command, and the statements. -/

namespace Sys2Proof.Machine

/-! ## Every command -/

/-- The moves of the machine state at a command: those the part makes of itself, and those of the
commands that start, recover or reset it (R182, R183, R186, R190, R208, R209). -/
inductive MachineMoves (m m' : MachineState) : Instr → Prop where
  | unprompted {c : Instr} (h : Unprompted m m') : MachineMoves m m' c
  | acknowledged (h : m = .start) (h' : m' ≠ .running) : MachineMoves m m' .ack
  | ran (h : m = .stopped) (v : Bool) : MachineMoves m m' (.run v)
  | resumed (h : m = .paused) (v : Bool) : MachineMoves m m' (.resume v)
  | recovered (h : m = .halted) (h' : m' ≠ .running) : MachineMoves m m' .recover
  | reset (late : Bool) (h : m' = .start) : MachineMoves m m' (.reset late)
  | poweredOn (l : LineLevels) (b : Bool) (h : m' = .start) : MachineMoves m m' (.powerOn l b)

/-- What one command does to the state. -/
structure CommandActs (c : Instr) (s t : State) : Prop extends KeepsLaws s t where
  machine : MachineMoves s.machine.state t.machine.state c
  leaving : ∀ l : Leaving, t.exchange.leaving = some l → s.exchange.leaving = some l ∨
    (s.exchange.leg = .idle ∧ l.number = (s.board l.parity).number)

theorem EventActs.command {s t : State} (h : EventActs s t) (c : Instr) : CommandActs c s t :=
  ⟨h.toKeepsLaws, .unprompted h.machine, h.leaving⟩

theorem PartActs.command {s t : State} (h : PartActs s t) (c : Instr) : CommandActs c s t :=
  h.event.command c

theorem HostActs.command {c : Instr} {s t : State} (h : HostActs s t)
    (hm : MachineMoves s.machine.state t.machine.state c) :
    CommandActs c s t :=
  ⟨h.toKeepsLaws, hm, fun l hl => .inl (h.leaving l hl)⟩

theorem PartActs.setPort (s : State) (p : Port) (n : Nat) :
    PartActs s { s with port := p, freeCount := n } where

/-- The completed outcomes have the property. -/
def Completes (P : State → Prop) (o : Host.Outcome State Fault Refusal) : Prop :=
  ∀ t : State, o = .next t → P t

theorem completes_next {P : State → Prop} {s : State} (h : P s) : Completes P (.next s) := by
  rintro t ⟨⟩
  exact h

theorem completes_event {P : State → Prop} {s : State} {act : State → State} (h : P s)
    (hact : P (act s)) : Completes P (event s act) := by
  unfold event
  split
  · exact completes_next hact
  · exact completes_next h

theorem completes_frameEnd {P : State → Prop} {s : State} {act : State → State} (h : P s)
    (hrise : P s.csRisen) (hact : P (act s)) : Completes P (frameEnd s act) := by
  refine completes_event h ?_
  split
  · exact hrise
  · exact hact

theorem completes_taken {P : State → Prop} {s : State} {cmd : Byte} {act : State → Answer}
    (h : P s) (hrise : P s.csRisen)
    (hact : P ((act s).state.replied cmd (act s).code (act s).payload)) :
    Completes P (taken cmd s act) :=
  completes_frameEnd h hrise hact

/-- An event on a station line: a number without a line is a fault, which completes nothing
(log 23). -/
theorem completes_stationLine {P : State → Prop} {s : State} {k : Nat} {act : State → State}
    (h : P s) (hact : P (act s)) :
    Completes P
      (if 1 ≤ k ∧ k ≤ Config.stationCount then event s act else .fault (.noSuchStationLine k)) := by
  split
  · exact completes_event h hact
  · simp [Completes]

theorem State.onPlacement_cases {P : State → Prop} {s : State} {kind : Byte} {index : Half}
    {act : Nat → Placement → Answer} (h : P s)
    (hact : ∀ n r, s.slot? n = some r → P (act n r).state) :
    P (s.onPlacement kind index act).state := by
  unfold State.onPlacement
  split
  · split
    · exact h
    next r hr => exact hact _ r hr
  · exact h

theorem State.onStation_cases {P : State → Prop} {s : State} {kind : Byte} {index : Half}
    {act : Nat → Station → Answer} (h : P s)
    (hact : ∀ k st, s.station? k = some st → P (act k st).state) :
    P (s.onStation kind index act).state := by
  unfold State.onStation
  split
  · split
    · exact h
    next st hst => exact hact _ st hst
  · exact h

theorem State.onParity_cases {P : State → Prop} {s : State} {parity : Nat} {act : Parity → Answer}
    (h : P s) (hact : ∀ p, P (act p).state) : P (s.onParity parity act).state := by
  unfold State.onParity
  split
  · exact h
  · exact hact _

section
variable {s : State} {c : Instr}

theorem completes_part {act : State → State} (h : PartActs s (act s)) :
    Completes (CommandActs c s) (event s act) :=
  completes_event ((PartActs.refl s).command c) (h.command c)

theorem completes_host {cmd : Byte} {act : State → Answer}
    (h : CommandActs c s ((act s).state.replied cmd (act s).code (act s).payload)) :
    Completes (CommandActs c s) (taken cmd s act) :=
  completes_taken ((PartActs.refl s).command c) ((PartActs.setPort s _ _).command c) h

theorem completes_answer {cmd : Byte} {act : State → Answer} (h : PartActs s (act s).state) :
    Completes (CommandActs c s) (taken cmd s act) :=
  completes_host ((h.trans (.setPort ..)).command c)

theorem HostActs.replied {t : State} (h : HostActs s t)
    (hm : MachineMoves s.machine.state t.machine.state c) (cmd : Byte) (code : ReplyCode) (payload : List Byte) : CommandActs c s (t.replied cmd code payload) :=
  (h.trans (PartActs.setPort t _ _).host).command hm

theorem State.machine_enterRunning (s : State) (present : Bool) :
    (s.enterRunning present).machine = { state := .running, returnState := none } := by
  rw [s.enterRunning_changes present]

end

theorem CommandActs.refused {c : Instr} (s : State) (cmd : Byte) (r : ReplyCode) :
    CommandActs c s ((s.reply r).state.replied cmd (s.reply r).code (s.reply r).payload) :=
  (PartActs.setPort s _ _).command c

theorem CommandActs.run (s : State) (v : Bool) :
    CommandActs (.run v) s ((s.run v).state.replied 15 (s.run v).code (s.run v).payload) := by
  unfold State.run
  split
  next hmay => exact (HostActs.enterRunning s v).replied (.ran (s.mayRun_iff.mp hmay).1 v) ..
  next => exact .refused s ..

theorem CommandActs.resume (s : State) (v : Bool) :
    CommandActs (.resume v) s
      ((s.resume v).state.replied 17 (s.resume v).code (s.resume v).payload) := by
  have hstate : HostActs s (s.resume v).state ∧
      MachineMoves s.machine.state (s.resume v).state.machine.state (.resume v) := by
    unfold State.resume
    split
    next r hpaused _ =>
      split
      · exact ⟨(PartActs.refl s).host, .unprompted (.refl _)⟩
      · rw [State.state_ok]
        exact ⟨.resumeTo s r v, .resumed hpaused v⟩
    next => exact ⟨(PartActs.refl s).host, .unprompted (.refl _)⟩
  exact hstate.1.replied hstate.2 ..

theorem CommandActs.recover (s : State) :
    CommandActs .recover s (s.recover.state.replied 20 s.recover.code s.recover.payload) := by
  unfold State.recover
  split
  next hmay =>
    simp only [State.mayRecover, Bool.and_eq_true, decide_eq_true_eq] at hmay
    exact (HostActs.enter s (by simp) (by simp)).replied
      (.recovered hmay.1.1 (by simp [State.enter])) ..
  next => exact .refused s ..

theorem CommandActs.ack (s : State) :
    CommandActs .ack s (s.ack.state.replied 14 s.ack.code s.ack.payload) := by
  unfold State.ack
  split
  next hstart =>
    exact (HostActs.enter s (by simp) (by simp)).replied
      (.acknowledged hstart (by simp [State.enter])) ..
  next => exact .refused s ..

/-- In START no reaction changes the part (R194). -/
theorem State.react_of_start {s : State} (h : s.machine.state = .start) (r : Reaction) :
    s.react r = s := by
  cases r with
  | note => rfl
  | pause => simp only [State.react, State.enterPausing, h]
  | halt => exact s.haltIfMoving_standing (.inl h)

theorem State.raise_of_start {s : State} (h : s.machine.state = .start) (k : AlarmKind)
    (src : Option Source) : s.raise k src = s.raiseRecord k src :=
  State.react_of_start (by simpa using h) _

/-- In START the reading of the fault lines writes the two records alone (R208, R209). -/
theorem State.readFaultLines_of_start {s : State} (h : s.machine.state = .start) :
    s.readFaultLines =
      if s.inputs.levels.supplyOk then
        if s.inputs.levels.overtemp then s.raiseRecord .overTemp none else s
      else (if s.inputs.levels.overtemp then s.raiseRecord .overTemp none else s).raiseRecord
        .supplyLow none := by
  have hstart : (if s.inputs.levels.overtemp then s.raiseRecord .overTemp none else s).machine.state =
      .start := by
    split <;> simp [h]
  simp only [State.readFaultLines, State.raise_of_start h, State.raise_of_start hstart]

theorem State.machine_readFaultLines {s : State} (h : s.machine.state = .start) :
    s.readFaultLines.machine = s.machine := by
  rw [State.readFaultLines_of_start h]
  (repeat' split) <;> simp

theorem State.machine_resetCommand (s : State) (late : Bool) :
    (s.resetCommand late).machine = { state := .start, returnState := none } :=
  State.machine_readFaultLines rfl

theorem CommandActs.reset (s : State) (late : Bool) :
    CommandActs (.reset late) s ((s.resetCommand late).replied 21 .ok []) :=
  (HostActs.resetCommand s late).replied (.reset late (by rw [State.machine_resetCommand])) ..

theorem targetsHold_reset : TargetsHold State.reset :=
  ⟨fun a => by cases a <;> exact ⟨⟨by decide, by decide⟩, by decide, by decide⟩,
    fun p => .of_free (by cases p <;> rfl)⟩

theorem alarmsHold_reset : AlarmsHold State.reset := fun k => by
  cases k <;> exact ⟨by decide, by decide, by decide, by decide, by decide⟩

theorem State.isOpen_reset (p : Parity) : State.reset.isOpen p = false := by cases p <;> rfl

theorem shapeHolds_reset : ShapeHolds State.reset :=
  ⟨List.length_replicate, List.length_replicate, List.length_replicate, List.length_replicate⟩

theorem attemptsHold_reset : AttemptsHold State.reset := fun _ p _ _ ho =>
  absurd (State.isOpen_reset p) (by simp [ho])

theorem numbersHold_reset : NumbersHold State.reset :=
  have hclosed (p : Parity) : NumberHolds State.reset p := fun ho =>
    absurd (State.isOpen_reset p) (by simp [ho])
  ⟨by decide, hclosed _, hclosed _⟩

theorem returnHolds_reset : ReturnHolds State.reset := by simp [ReturnHolds, State.reset]

theorem chainHolds_reset : ChainHolds State.reset :=
  chainHolds_of_powerOn rfl List.length_replicate fun _ h => List.eq_of_mem_replicate h

theorem CommandActs.powerOn (s : State) (l : LineLevels) (b : Bool) :
    CommandActs (.powerOn l b) s (s.poweredOn l b) := by
  have hlines := PartActs.readFaultLines
    { State.reset with
      inputs := { porN := true, levels := l }
      port := { Port.powerOn with awaitsRise := b }
      freeCount := s.freeCount + freeBytesPerFrame
      pending := s.pending }
  exact
    { pending := hlines.pending
      shape := fun _ => hlines.shape shapeHolds_reset
      targets := fun _ => hlines.targets targetsHold_reset
      attempts := fun _ => hlines.attempts attemptsHold_reset
      numbers := fun _ => hlines.numbers numbersHold_reset
      returns := fun _ => hlines.returns returnHolds_reset
      alarms := fun _ => hlines.alarms alarmsHold_reset
      chain := fun _ => hlines.chain chainHolds_reset
      machine := .poweredOn l b (congrArg _ (State.machine_readFaultLines rfl))
      leaving := fun l hl => by
        have h := hlines.leaving l hl
        simp [State.reset, Exchange.powerOn] at h }

theorem completes_exec (c : Instr) (s : State) : Completes (CommandActs c s) (exec c s) := by
  unfold exec
  cases c with
  | nop => exact completes_answer (.refl s)
  | lookup kind index part => exact completes_answer (.of_eq (s.state_lookup ..))
  | admitSlot kind sequence station x y span trip code =>
    refine completes_answer ?_
    split
    · exact .admitRecord fun _ p h => admittedRecord_status h p
    · exact .refl s
  | amend kind index field value =>
    exact completes_answer (State.onPlacement_cases (.refl s) fun _ _ hr => .amend hr ..)
  | retire kind index =>
    exact completes_answer (State.onPlacement_cases (.refl s) fun _ _ _ => .retire ..)
  | hold kind index =>
    exact completes_answer (State.onPlacement_cases (.refl s) fun _ _ hr => .holdRecord hr)
  | release kind index =>
    exact completes_answer (State.onPlacement_cases (.refl s) fun _ _ hr => .releaseRecord hr)
  | skip kind index parity =>
    exact completes_answer (State.onPlacement_cases (.refl s) fun _ _ hr =>
      State.onParity_cases (.refl s) fun p => .skipIn hr p)
  | recallSlot kind index parity =>
    exact completes_answer (State.onPlacement_cases (.refl s) fun _ _ hr =>
      State.onParity_cases (.refl s) fun p => .recallIn hr p)
  | align kind index dx dy scale =>
    refine completes_answer ?_
    split
    · exact State.onParity_cases (.refl s) fun p => .alignBoard s p _
    · exact .refl s
  | load kind index remaining =>
    exact completes_answer (State.onStation_cases (.refl s) fun _ _ _ => .loadStation ..)
  | stationSetting kind index item value =>
    exact completes_answer (State.onStation_cases (.refl s) fun _ _ _ => .stationSetting ..)
  | stationState kind index value =>
    refine completes_answer (State.onStation_cases (.refl s) fun k st _ => ?_)
    split
    · exact .stationOffline ..
    · exact .stationOnline ..
    · exact .refl s
  | clearStation kind index =>
    exact completes_answer (State.onStation_cases (.refl s) fun _ _ _ => .clearStation ..)
  | clearClipCondition index =>
    refine completes_answer ?_
    split
    · exact { }
    · exact .refl s
  | clearAlarm index =>
    refine completes_answer ?_
    split
    · exact .clearAlarm ..
    · exact .refl s
  | set kind index value =>
    refine completes_answer ?_
    split
    · split
      · exact .setItem ..
      · exact .refl s
    · exact .refl s
  | ack => exact completes_host (.ack s)
  | run v => exact completes_host (.run s v)
  | pause => exact completes_answer (.pause s)
  | resume v => exact completes_host (.resume s v)
  | drain => exact completes_answer (.drain s)
  | halt => exact completes_answer (.halt s)
  | recover => exact completes_host (.recover s)
  | reset late => exact completes_host (.reset s late)
  | unknownCommand code => exact completes_answer (.refl s)
  | frameDiscard =>
    exact completes_frameEnd ((PartActs.refl s).command _) ((PartActs.setPort ..).command _)
      ((PartActs.setPort ..).command _)
  | powerOn l b => exact completes_next (.powerOn s l b)
  | sprocketEdge k pocket =>
    exact completes_stationLine ((PartActs.refl s).command _) ((PartActs.sprocket ..).command _)
  | advanceTimeout k =>
    exact completes_stationLine ((PartActs.refl s).command _) ((PartActs.jam ..).command _)
  | indexBegin =>
    refine completes_part ?_
    split
    · exact .beginIndex s
    · exact .refl s
  | indexCompletion present leads order => exact completes_part (.indexCompletion ..)
  | indexTimeout => exact completes_part (.chainJam s)
  | homeMarkEdge => exact completes_part (.markEdge s)
  | boardOpen => exact completes_part (.openIfMay s)
  | exchangeBegin =>
    exact completes_event ((PartActs.refl s).command _) ((EventActs.exchangeIfMay s).command _)
  | transferDone present openFirst => exact completes_part (.transferDone ..)
  | boardPresentRise => exact completes_part (.presentRise s)
  | clampedRise => exact completes_part (.clampedRise s)
  | clampedFall => exact completes_part (.clampedFall s)
  | transferTimeout =>
    refine completes_part ?_
    split
    · exact .abandonExchange s
    · exact .refl s
  | clampTimeout =>
    refine completes_part ?_
    split
    · exact .abandonExchange s
    · exact .refl s
  | slotActivation => exact completes_part (.slotActivation s)
  | positionSample a count present => exact completes_part (.positionSample ..)
  | lockTimeout a => exact completes_part (.lockTimeout s a)
  | cycleStart home => exact completes_part (.cycleStart s home)
  | homingStart home => exact completes_part (.homingStart s home)
  | formed => exact completes_part (.formedEdge s)
  | down => exact completes_part (.downEdge s)
  | clinchEnd => exact completes_part (.clinchEnd s)
  | headClear exchangeFirst =>
    exact completes_event ((PartActs.refl s).command _) ((EventActs.headClear ..).command _)
  | homeRise exchangeFirst =>
    exact completes_event ((PartActs.refl s).command _) ((EventActs.homeRise ..).command _)
  | phaseTimeout edge exchangeFirst =>
    exact completes_event ((PartActs.refl s).command _) ((EventActs.phaseTimeout ..).command _)
  | tripReached current => exact completes_part (.tripReached s current)
  | offTimeExpiry => exact completes_part (.offTimeExpiry s)
  | clinchSample current => exact completes_part (.clinchSample s current)
  | overcurrentRise current => exact completes_part (.overcurrentRise s current)
  | overcurrentFall current => exact completes_part (.overcurrentFall s current)
  | overcurrentFilterExpiry => exact completes_part (.filterExpiry s)
  | restroke => exact completes_part (.restroke s)
  | overtempRise =>
    exact completes_part (((PartActs.setInputs ..).trans (.homingCheck _)).trans
      ((PartActs.raise ..).trans (.settle _)))
  | overtempFall => exact completes_part ((PartActs.setInputs ..).trans (.endCondition ..))
  | supplyOkFall =>
    exact completes_part (((PartActs.setInputs ..).trans (.homingCheck _)).trans
      ((PartActs.raise ..).trans (.settle _)))
  | supplyOkRise => exact completes_part ((PartActs.setInputs ..).trans (.endCondition ..))
  | stopNFall => exact completes_part ((PartActs.setInputs ..).trans (.haltIfMoving _))
  | stopNRise => exact completes_part (.setInputs ..)
  | pausingQuiet => exact completes_part (.pausingQuiet s)
  | drainEnd => exact completes_part (.drainEnd s)
  | retryTimeout kind =>
    refine completes_part ?_
    split
    · exact .putAlarm fun h => h.expired
    · exact .refl s
  | porNFall =>
    refine completes_next (PartActs.command ?_ _)
    unfold State.porNFall
    exact { }

/-- A step is a command on the queue's rest, or nothing. -/
theorem step_cases {s t : State} (h : step s = .next t) :
    (∃ c rest, s.pending = c :: rest ∧ exec c { s with pending := rest } = .next t) ∨ t = s := by
  unfold step at h
  split at h
  · exact .inr (by injection h with h; exact h.symm)
  next c rest hq => exact .inl ⟨c, rest, hq, h⟩

/-- What every command keeps without reading the queue, every step keeps. -/
theorem step_keeps {P : State → Prop} (hqueue : ∀ s q, P s → P { s with pending := q })
    (hexec : ∀ c s t, P s → exec c s = .next t → P t) {s t : State} (hs : P s)
    (h : step s = .next t) : P t := by
  rcases step_cases h with ⟨c, rest, -, hc⟩ | rfl
  · exact hexec c _ t (hqueue s rest hs) hc
  · exact hs

end Sys2Proof.Machine

open Sys2Proof Sys2Proof.Machine

/-- Settles O3. -/
theorem stepKeepsShape : Obligations.StepKeepsShape :=
  ⟨fun c s t h => (completes_exec c s t h).pending,
    fun _ _ => step_keeps (fun _ _ h => h) fun c s t hs h => (completes_exec c s t h).shape hs⟩

/-- Settles O5. -/
theorem stepKeepsTargetsWithinLimits : Obligations.StepKeepsTargetsWithinLimits := fun _ _ =>
  step_keeps (fun _ _ h => h) fun c s t hs h => (completes_exec c s t h).targets hs

/-- Settles O6. -/
theorem stepKeepsAttempts : Obligations.StepKeepsAttempts := fun _ _ =>
  step_keeps (fun _ _ h => h) fun c s t hs h => (completes_exec c s t h).attempts hs

/-- Settles O7: two open boards have numbers of the two parities, so one is one before the next number
and the other two before it. -/
theorem stepKeepsBoardNumbers : Obligations.StepKeepsBoardNumbers := by
  refine ⟨fun _ _ => step_keeps (fun _ _ h => h) fun c s t hs h => (completes_exec c s t h).numbers hs,
    fun s ⟨_, heven, hodd⟩ ho he => ?_, fun s t l h hl => ?_⟩
  · obtain ⟨heven, hevenParity, hevenNext⟩ := heven ho
    obtain ⟨hodd, hoddParity, hoddNext⟩ := hodd he
    have h0 : (s.board .even).number % 2 = 0 := by
      by_contra h; simp [parityOf, h] at hevenParity
    have h1 : (s.board .odd).number % 2 ≠ 0 := fun h => by simp [parityOf, h] at hoddParity
    omega
  · rcases step_cases h with ⟨c, rest, -, hc⟩ | rfl
    · exact (completes_exec c _ t hc).leaving l hl
    · exact .inl hl

/-- Settles O9. -/
theorem stepKeepsClipIds : Obligations.StepKeepsClipIds := fun _ _ =>
  step_keeps (fun _ _ h => h) fun c s t hs h => (completes_exec c s t h).chain hs

/-- Settles O10, by the moves that each command makes of the machine state. -/
theorem hostAloneSetsRunning : Obligations.HostAloneSetsRunning := by
  intro c s t h
  cases (completes_exec c s t h).machine with
  | unprompted hmove =>
    obtain ⟨hrunning, hkept⟩ := hmove
    exact ⟨fun ht hs => absurd (hrunning ht) hs,
      fun hs ht => absurd ((hkept (.inr (.inr hs))).trans hs) ht,
      fun hs ht => absurd ((hkept (.inl hs)).trans hs) ht,
      fun hs ht => absurd ((hkept (.inr (.inl hs))).trans hs) ht⟩
  | acknowledged hs ht => simp [hs, ht]
  | ran hs v => simp [hs]
  | resumed hs v => simp [hs]
  | recovered hs ht => simp [hs, ht]
  | reset late ht => simp [ht]
  | poweredOn l b ht => simp [ht]
end

section
/-! PROOFS. No step leaves the machine PAUSING while it is quiet, or DRAINING where its end conditions
hold (R185, R187): an event judges the ends itself, or ends no work, or leaves work in flight. -/

namespace Sys2Proof.Machine

/-! ## What the two ends read -/

theorem settledHolds_of_state {t : State} (hpausing : t.machine.state ≠ .pausing)
    (hdraining : t.machine.state ≠ .draining) : SettledHolds t :=
  ⟨fun h => hpausing h.1, fun h => hdraining h.1⟩

/-- With work in flight neither end may come. -/
theorem settledHolds_of_busy {t : State} (h : t.quiet = false) : SettledHolds t := by
  constructor
  · simp [h]
  · simp [State.drainedOut, h]

theorem State.quiet_of_head {t : State} (h : t.head.inFlight = true) : t.quiet = false := by
  simp [State.quiet, h]

theorem State.quiet_of_axis {t : State} {a : Axis} (h : (t.axis a).lockTimer.isSome = true) :
    t.quiet = false := by
  have hmoving : t.axesMoving ≠ 0 := by
    cases a <;> simp_all [State.axesMoving, State.axis, Quad.get, List.countP_cons]
  simp [State.quiet, hmoving]

theorem State.quiet_giveTargets (s : State) (g : Quad Nat) : (s.giveTargets g).quiet = false :=
  State.quiet_of_axis (a := .x) (by simp [s.axis_giveTargets, AxisRecord.retarget])

theorem State.quiet_of_index {t : State} (h : t.chain.indexState = .indexing) :
    t.quiet = false := by
  simp [State.quiet, State.indexInFlight, h]

theorem State.feedsInFlight_congr {s t : State}
    (h : t.stations.map Station.feed = s.stations.map Station.feed) :
    t.feedsInFlight = s.feedsInFlight := by
  have hcount (u : State) : u.feedsInFlight =
      (u.stations.map Station.feed).countP fun f => decide (f = .advancing) := by
    simp [State.feedsInFlight, List.countP_map, Function.comp_def]
  rw [hcount, hcount, h]

theorem State.map_feed_putStation {s : State} {k : Nat} {st st' : Station}
    (h : s.station? k = some st) (hfeed : st'.feed = st.feed) :
    (s.putStation k st').stations.map Station.feed = s.stations.map Station.feed := by
  unfold State.station? at h
  unfold State.putStation
  split at h
  · simp at h
  next hk =>
    obtain ⟨hlt, rfl⟩ := List.getElem?_eq_some_iff.mp h
    rw [if_neg hk, List.map_set, hfeed]
    refine List.ext_getElem (by simp) fun i h1 h2 => ?_
    rw [List.getElem_set]
    split
    next hi => subst hi; simp
    next => rfl

theorem State.quiet_congr {s t : State} (hindex : t.chain.indexState = s.chain.indexState)
    (hfeeds : t.stations.map Station.feed = s.stations.map Station.feed)
    (hhead : t.head.inFlight = s.head.inFlight) (haxes : t.axes = s.axes) : t.quiet = s.quiet := by
  have hflight : t.indexInFlight = s.indexInFlight := by simp only [State.indexInFlight, hindex]
  have hmoving : t.axesMoving = s.axesMoving := by simp only [State.axesMoving, haxes]
  simp only [State.quiet, hflight, State.feedsInFlight_congr hfeeds, hhead, hmoving]

/-- An operation that leaves the machine state and ends no work. -/
structure KeepsWork (s t : State) : Prop where
  machine : t.machine.state = s.machine.state := by simp
  quiet : t.quiet = true → s.quiet = true := by
    exact fun h => (State.quiet_congr (by simp) (by simp) (by simp) (by simp)).symm.trans h
  drained : t.drainedOut = true → s.drainedOut = true

theorem SettledHolds.work {s t : State} (h : SettledHolds s) (hw : KeepsWork s t) :
    SettledHolds t := by
  obtain ⟨hpausing, hdraining⟩ := h
  rw [SettledHolds, hw.machine]
  exact ⟨fun ht => hpausing ⟨ht.1, hw.quiet ht.2⟩, fun ht => hdraining ⟨ht.1, hw.drained ht.2⟩⟩

/-- Boards stay open, clips carry on and the exchange stays in flight. -/
theorem KeepsWork.of_same {s t : State} (hmachine : t.machine.state = s.machine.state := by simp)
    (hindex : t.chain.indexState = s.chain.indexState := by simp)
    (hfeeds : t.stations.map Station.feed = s.stations.map Station.feed := by simp)
    (hhead : t.head.inFlight = s.head.inFlight := by simp) (haxes : t.axes = s.axes := by simp)
    (hopen : ∀ p, t.isOpen p = s.isOpen p := by exact State.isOpen_congr (by simp))
    (hstretch : t.stretch = s.stretch := by simp)
    (hexchange : t.exchange = s.exchange := by simp) : KeepsWork s t := by
  have hquiet := State.quiet_congr hindex hfeeds hhead haxes
  refine ⟨hmachine, fun h => hquiet.symm.trans h, fun h => ?_⟩
  simpa only [State.drainedOut, State.boardOpen, hopen, State.carryingClips, hstretch, hquiet,
    State.exchangeInFlight, hexchange] using h

theorem SettledHolds.same {s t : State} (h : SettledHolds s)
    (hmachine : t.machine.state = s.machine.state := by simp)
    (hindex : t.chain.indexState = s.chain.indexState := by simp)
    (hfeeds : t.stations.map Station.feed = s.stations.map Station.feed := by simp)
    (hhead : t.head.inFlight = s.head.inFlight := by simp) (haxes : t.axes = s.axes := by simp)
    (hopen : ∀ p, t.isOpen p = s.isOpen p := by exact State.isOpen_congr (by simp))
    (hstretch : t.stretch = s.stretch := by simp)
    (hexchange : t.exchange = s.exchange := by simp) : SettledHolds t :=
  h.work (.of_same hmachine hindex hfeeds hhead haxes hopen hstretch hexchange)

/-! ## Reactions (R194) -/

theorem State.settled_pausingQuiet {s : State} (h : s.machine.state ≠ .draining) :
    SettledHolds s.pausingQuiet := by
  unfold State.pausingQuiet
  split
  · exact settledHolds_of_state (by simp) (by simp)
  next hbusy => exact ⟨hbusy, fun hd => h hd.1⟩

theorem SettledHolds.enterPausing {s : State} (h : SettledHolds s) : SettledHolds s.enterPausing := by
  unfold State.enterPausing
  split
  · exact State.settled_pausingQuiet (by simp)
  · exact State.settled_pausingQuiet (by simp)
  · exact h

theorem settledHolds_enterHalted (s : State) : SettledHolds s.enterHalted :=
  settledHolds_of_state (by simp [s.machine_enterHalted]) (by simp [s.machine_enterHalted])

theorem SettledHolds.haltIfMoving {s : State} (h : SettledHolds s) : SettledHolds s.haltIfMoving := by
  unfold State.haltIfMoving
  split
  · exact settledHolds_enterHalted s
  · exact h

theorem SettledHolds.react {s : State} (h : SettledHolds s) (r : Reaction) :
    SettledHolds (s.react r) := by
  cases r with
  | note => exact h
  | pause => exact h.enterPausing
  | halt => exact h.haltIfMoving

theorem SettledHolds.raise {s : State} (h : SettledHolds s) (k : AlarmKind) (src : Option Source) :
    SettledHolds (s.raise k src) :=
  .react h.same _

/-! ## The host's commands on the table and the boards -/

theorem SettledHolds.admitRecord {s : State} (h : SettledHolds s) (record : Option Placement) :
    SettledHolds (s.admitRecord record).state := by
  unfold State.admitRecord
  split
  · exact h
  · exact h
  · exact h.same

theorem SettledHolds.amend {s : State} (h : SettledHolds s) (n field value : Nat) (r : Placement) :
    SettledHolds (s.amend n field value r).state := by
  unfold State.amend
  (repeat' split)
  · exact h
  · exact h
  · exact h
  · rw [State.state_ok]
    exact h.same

theorem SettledHolds.report {s : State} (h : SettledHolds s) (p : Parity) (rep : Report) :
    SettledHolds (s.report p rep) :=
  h.same (hopen := fun q => s.isOpen_report p q rep)

theorem SettledHolds.reportRetirement {s : State} (h : SettledHolds s) (r : Placement) (p : Parity) :
    SettledHolds (s.reportRetirement r p) := by
  unfold State.reportRetirement
  split
  · exact h.report ..
  · exact h

theorem SettledHolds.retire {s : State} (h : SettledHolds s) (n : Nat) (r : Placement) :
    SettledHolds (s.retire n r).state := by
  unfold State.retire
  split
  · exact h
  · split
    · exact h
    · have hwritten : SettledHolds (s.putSlot n none) := h.same
      exact (hwritten.reportRetirement ..).reportRetirement ..

theorem SettledHolds.holdRecord {s : State} (h : SettledHolds s) (n : Nat) (r : Placement) :
    SettledHolds (s.holdRecord n r).state := by
  unfold State.holdRecord
  split
  · exact h
  · exact h
  · dsimp only
    split <;> exact h.same

theorem SettledHolds.releaseRecord {s : State} (h : SettledHolds s) (n : Nat) (r : Placement) :
    SettledHolds (s.releaseRecord n r).state := by
  unfold State.releaseRecord
  split
  · exact h
  · exact h.same

theorem SettledHolds.modifyStatus {s : State} (h : SettledHolds s) (n : Nat) (p : Parity)
    (f : StatusSlot → StatusSlot) : SettledHolds (s.modifyStatus n p f) := h.same

theorem SettledHolds.skipIn {s : State} (h : SettledHolds s) (n : Nat) (r : Placement) (p : Parity) :
    SettledHolds (s.skipIn n r p).state := by
  unfold State.skipIn
  (repeat' split)
  · exact h
  · exact h
  · exact h
  · exact (h.modifyStatus ..).report ..

theorem SettledHolds.recallIn {s : State} (h : SettledHolds s) (n : Nat) (r : Placement)
    (p : Parity) : SettledHolds (s.recallIn n r p).state := by
  unfold State.recallIn
  split
  · exact h
  · exact h
  · split
    · exact h
    · split
      · exact h
      · exact (h.modifyStatus ..).report ..

/-- ALIGN may mark clips for dump, which then carry nothing, but its board stays open. -/
theorem SettledHolds.alignBoard {s : State} (h : SettledHolds s) (p : Parity) (c : Correction) :
    SettledHolds (s.alignBoard p c).state := by
  unfold State.alignBoard
  split
  · exact h
  · split
    next hwaits =>
      rw [State.state_ok]
      refine h.work { drained := fun hd => ?_ }
      have hopen : ((((s.putBoard p { s.board p with tableState := .aligned, correction := some c }
          ).computeAwaiting).evalPhase p).isOpen p) = true := by
        rw [State.isOpen_evalPhase, (State.computeAwaiting_keeps _).isOpen, State.isOpen_iff,
          State.board_putBoard, if_pos rfl]
        exact (s.isOpen_iff p).mp hwaits.1
      cases p <;> simp [State.drainedOut, State.boardOpen, hopen] at hd
    next => exact h

/-! ## The stations' commands -/

theorem SettledHolds.putStation {s : State} (h : SettledHolds s) {k : Nat} {st st' : Station}
    (hst : s.station? k = some st) (hfeed : st'.feed = st.feed) :
    SettledHolds (s.putStation k st') :=
  h.same (hfeeds := State.map_feed_putStation hst hfeed)

theorem SettledHolds.stationConditions {s : State} (h : SettledHolds s) :
    SettledHolds s.stationConditions := h.same

theorem SettledHolds.raiseIfLow {s : State} (h : SettledHolds s) (k : Nat) (wasLow : Bool) :
    SettledHolds (s.raiseIfLow k wasLow) := by
  unfold State.raiseIfLow
  split
  · exact h
  · split
    · exact h.raise ..
    · exact h

theorem SettledHolds.raiseIfEmptied {s : State} (h : SettledHolds s) (k : Nat)
    (before : StationState) : SettledHolds (s.raiseIfEmptied k before) := by
  unfold State.raiseIfEmptied
  split
  · exact h
  · split
    · exact h.raise ..
    · exact h

theorem Station.feed_loaded (st : Station) (value : Nat) : (st.loaded value).feed = st.feed := by
  unfold Station.loaded
  split
  · split <;> rfl
  · split <;> rfl
  · rfl

theorem SettledHolds.loadStation {s : State} (h : SettledHolds s) {k : Nat} {st : Station}
    (hst : s.station? k = some st) (value : Nat) :
    SettledHolds (s.loadStation k value st).state := by
  unfold State.loadStation
  split
  · exact h
  · refine .raiseIfEmptied (.raiseIfLow (.stationConditions ?_) _ _) _ _
    exact h.putStation hst (st.feed_loaded value)

theorem Station.feed_withSetting {st st' : Station} {item value : Nat}
    (h : st.withSetting item value = some st') : st'.feed = st.feed := by
  unfold Station.withSetting at h
  split at h <;> grind

theorem SettledHolds.stationSetting {s : State} (h : SettledHolds s) {k : Nat} {st : Station}
    (hst : s.station? k = some st) (item value : Nat) :
    SettledHolds (s.stationSetting k item value st).state := by
  unfold State.stationSetting
  split
  · exact h
  next st' hst' =>
    have hfeed := Station.feed_withSetting hst'
    split
    · exact ((h.putStation hst (by exact hfeed)).stationConditions).raiseIfLow ..
    · exact h.putStation hst hfeed

theorem SettledHolds.stationOffline {s : State} (h : SettledHolds s) {k : Nat} {st : Station}
    (hst : s.station? k = some st) : SettledHolds (s.stationOffline k st).state :=
  .stationConditions (h.putStation hst (st' := { st with state := .offline }) rfl)

theorem SettledHolds.stationOnline {s : State} (h : SettledHolds s) {k : Nat} {st : Station}
    (hst : s.station? k = some st) : SettledHolds (s.stationOnline k st).state := by
  unfold State.stationOnline
  split
  · split
    · refine .stationConditions ?_
      exact h.putStation hst rfl
    · refine .raiseIfEmptied (.stationConditions ?_) _ _
      exact h.putStation hst rfl
  · exact h
  · exact h

theorem SettledHolds.clearStation {s : State} (h : SettledHolds s) {k : Nat} {st : Station}
    (hst : s.station? k = some st) : SettledHolds (s.clearStation k st).state := by
  unfold State.clearStation
  split
  · refine .raiseIfEmptied (.stationConditions ?_) _ _
    exact h.putStation hst rfl
  · exact h

/-! ## The events that judge no end -/

theorem SettledHolds.clearAlarm {s : State} (h : SettledHolds s) (k : AlarmKind) :
    SettledHolds (s.clearAlarm k).state := by
  have hlifted (t : State) (ht : SettledHolds t) : SettledHolds (t.liftLockout k) := by
    unfold State.liftLockout
    split
    · exact ht.same
    · exact ht
  unfold State.clearAlarm
  split
  · exact hlifted _ h.same
  · exact hlifted s h
  · exact h

theorem SettledHolds.storeItem {s : State} (h : SettledHolds s) (item : SettingItem) (value : Nat) :
    SettledHolds (s.storeItem item value) := by
  cases item <;> unfold State.storeItem <;> dsimp only
  case reaction => split <;> exact h.same
  case clearMode => split <;> exact h.same
  all_goals exact h

theorem SettledHolds.setItem {s : State} (h : SettledHolds s) (item : SettingItem) (value : Nat) :
    SettledHolds (s.setItem item value).state := by
  unfold State.setItem
  split
  · exact h
  · split
    · exact h
    · split
      · exact h.storeItem ..
      · exact h

theorem SettledHolds.settling {s : State} {P : Prop} [Decidable P] (h : SettledHolds s) (t : State) :
    SettledHolds (if P then t.settle else s) := by
  split
  · exact t.settled_settle
  · exact h

theorem State.quiet_headJudge (s : State) : s.headJudge.quiet = s.quiet := by
  have hindex : s.headJudge.indexInFlight = s.indexInFlight := by
    unfold State.headJudge State.requestIndex
    split
    · split <;> simp_all [State.indexInFlight]
    · rfl
  simp [State.quiet, hindex, State.feedsInFlight, State.axesMoving]

theorem SettledHolds.headJudge {s : State} (h : SettledHolds s) : SettledHolds s.headJudge := by
  refine h.work
    { quiet := fun hq => s.quiet_headJudge.symm.trans hq, drained := fun hd => ?_ }
  simpa [State.drainedOut, State.boardOpen, State.isOpen_congr (s := s) (t := s.headJudge) (by simp),
    State.carryingClips, s.quiet_headJudge, State.exchangeInFlight] using hd

theorem State.activate_cases (s : State) (p : Parity) :
    s.activate p = s ∨ ∃ u g, s.activate p = State.giveTargets u g := by
  unfold State.activate
  split
  · exact .inr ⟨_, _, rfl⟩
  · exact .inr ⟨_, _, rfl⟩
  · exact .inl rfl

theorem SettledHolds.slotActivation {s : State} (h : SettledHolds s) :
    SettledHolds s.slotActivation := by
  unfold State.slotActivation
  split
  next p _ =>
    rcases s.activate_cases p with hkept | ⟨u, g, hgiven⟩
    · rw [hkept]
      exact h.headJudge
    · rw [hgiven]
      exact settledHolds_of_busy ((State.quiet_headJudge _).trans (State.quiet_giveTargets ..))
  next => exact h

theorem SettledHolds.exchangeIfMay {s : State} (h : SettledHolds s) :
    SettledHolds s.exchangeIfMay := by
  unfold State.exchangeIfMay
  (repeat' split)
  · exact settledHolds_of_busy (State.quiet_giveTargets ..)
  · exact settledHolds_of_busy (State.quiet_giveTargets ..)
  · exact settledHolds_of_busy (State.quiet_giveTargets ..)
  · exact h
  · exact h
  · exact h

/-- A board opens in RUNNING alone (R26). -/
theorem SettledHolds.openIfMay {s : State} (h : SettledHolds s) : SettledHolds s.openIfMay := by
  unfold State.openIfMay
  split
  next hmay =>
    have hrunning : s.machine.state = .running :=
      ((State.mayOpen_iff rfl).mp hmay).1
    exact settledHolds_of_state (by simp [hrunning]) (by simp [hrunning])
  next => exact h

theorem SettledHolds.chainJam {s : State} (h : SettledHolds s) : SettledHolds s.chainJam :=
  h.settling _

theorem SettledHolds.markEdge {s : State} (h : SettledHolds s) : SettledHolds s.markEdge := by
  unfold State.markEdge
  split
  · exact h.same
  · exact h

theorem SettledHolds.beginIndex (s : State) : SettledHolds s.beginIndex :=
  settledHolds_of_busy (State.quiet_of_index rfl)

theorem SettledHolds.clampedRise {s : State} (h : SettledHolds s) : SettledHolds s.clampedRise := by
  unfold State.clampedRise
  split
  · exact State.settled_settle _
  · exact h.same

theorem SettledHolds.clampedFall {s : State} (h : SettledHolds s) : SettledHolds s.clampedFall := by
  unfold State.clampedFall
  dsimp only
  split
  · split
    · exact State.settled_settle _
    · exact h.same
  · exact h.same

theorem SettledHolds.sprocket {s : State} (h : SettledHolds s) (k : Nat) (pocket : Bool) :
    SettledHolds (s.sprocket k pocket) := by
  unfold State.sprocket
  split
  · exact h
  next hst =>
    split
    · split
      · exact State.settled_settle _
      · split
        · exact h.putStation hst rfl
        · exact State.settled_settle _
    · exact h

theorem SettledHolds.jam {s : State} (h : SettledHolds s) (k : Nat) : SettledHolds (s.jam k) := by
  cases hst : s.station? k with
  | none => simpa only [State.jam, hst] using h
  | some st =>
    by_cases hstopped : st.advanceTimer = none
    · simpa only [State.jam, hst, hstopped, if_true] using h
    · simp only [State.jam, hst, hstopped, if_false, State.station?_dropAt_self hst]
      exact State.settled_settle _

theorem SettledHolds.positionSample (s : State) (a : Axis) (count : Nat) (present : Bool) :
    SettledHolds (s.positionSample a count present) := by
  unfold State.positionSample
  dsimp only
  split <;> exact State.settled_settle _

/-! ## The head and the drive -/

theorem SettledHolds.cycleStart {s : State} (h : SettledHolds s) (home : Bool) :
    SettledHolds (s.cycleStart home) := by
  unfold State.cycleStart
  split
  · split
    · exact settledHolds_of_busy (State.quiet_of_head rfl)
    · exact h
  · exact h

theorem SettledHolds.homingStart {s : State} (h : SettledHolds s) (home : Bool) :
    SettledHolds (s.homingStart home) := by
  unfold State.homingStart
  split
  · exact settledHolds_of_busy (State.quiet_of_head rfl)
  · exact h

theorem SettledHolds.formedEdge {s : State} (h : SettledHolds s) : SettledHolds s.formedEdge := by
  unfold State.formedEdge
  split
  next hform =>
    refine settledHolds_of_busy (State.quiet_of_head ?_)
    unfold State.formEnds
    split
    · rfl
    · simp [Head.inFlight, hform.1]
  next => exact h

theorem State.quiet_enterRetract (s : State) : s.enterRetract.quiet = false :=
  State.quiet_of_head rfl

theorem SettledHolds.downEdge {s : State} (h : SettledHolds s) : SettledHolds s.downEdge := by
  unfold State.downEdge
  split
  · split
    · exact settledHolds_of_busy (State.quiet_of_head rfl)
    · exact settledHolds_of_busy s.quiet_enterRetract
    · exact h
  · exact h

theorem SettledHolds.clinchEnd {s : State} (h : SettledHolds s) : SettledHolds s.clinchEnd := by
  unfold State.clinchEnd
  split
  · refine settledHolds_of_busy (State.quiet_of_head ?_)
    simp [State.enterRetract, Head.inFlight]
  · exact h

theorem SettledHolds.headClear {s : State} (h : SettledHolds s) (exchangeFirst : Bool) :
    SettledHolds (s.headClear exchangeFirst) := by
  unfold State.headClear
  split
  next hretract =>
    refine settledHolds_of_busy (State.quiet_of_head ?_)
    unfold State.headClearSteps
    dsimp only
    split <;> simp [Head.inFlight, hretract.1]
  next => exact h

theorem SettledHolds.homeRise {s : State} (h : SettledHolds s) (exchangeFirst : Bool) :
    SettledHolds (s.homeRise exchangeFirst) := by
  unfold State.homeRise
  split
  · exact State.settled_settle _
  · exact State.settled_settle _
  · exact h

theorem SettledHolds.phaseTimeout {s : State} (h : SettledHolds s) (edge exchangeFirst : Bool) :
    SettledHolds (s.phaseTimeout edge exchangeFirst) := by
  unfold State.phaseTimeout
  split
  · split
    · exact h
    all_goals exact State.settled_settle _
  · exact h

theorem SettledHolds.tripReached {s : State} (h : SettledHolds s) (current : Nat) :
    SettledHolds (s.tripReached current) := by
  unfold State.tripReached
  split
  · split
    · exact State.settled_settle _
    · exact h.same
  · exact h

theorem SettledHolds.clinchSample {s : State} (h : SettledHolds s) (current : Nat) :
    SettledHolds (s.clinchSample current) := by
  unfold State.clinchSample
  dsimp only
  split
  · split
    · exact State.settled_settle _
    · exact h.same (hhead := rfl)
  · exact h

theorem SettledHolds.overcurrentFall {s : State} (h : SettledHolds s) (current : Nat) :
    SettledHolds (s.overcurrentFall current) := by
  unfold State.overcurrentFall
  split
  · exact h
  · exact h.same

theorem SettledHolds.restroke {s : State} (h : SettledHolds s) : SettledHolds s.restroke := by
  unfold State.restroke
  split
  · exact settledHolds_of_busy (State.quiet_of_head rfl)
  · exact h

/-! ## The machine's commands -/

theorem SettledHolds.pause {s : State} (h : SettledHolds s) : SettledHolds s.pause.state := by
  unfold State.pause
  split
  · exact h.enterPausing
  · split
    · exact h
    · exact h

theorem SettledHolds.drain {s : State} (h : SettledHolds s) : SettledHolds s.drain.state := by
  unfold State.drain
  split
  · exact State.settled_settle _
  · rw [State.state_ok]
    exact h.same
  · rw [State.state_ok]
    exact h.same
  · exact h
  · exact h

theorem SettledHolds.halt {s : State} (h : SettledHolds s) : SettledHolds s.halt.state := by
  unfold State.halt
  split
  · exact h
  · split
    · exact h
    · exact settledHolds_enterHalted s

theorem SettledHolds.ack {s : State} (h : SettledHolds s) : SettledHolds s.ack.state := by
  unfold State.ack
  split
  · exact settledHolds_of_state (by simp [State.enter, State.ok]) (by simp [State.enter, State.ok])
  · exact h

theorem SettledHolds.run {s : State} (h : SettledHolds s) (v : Bool) :
    SettledHolds (s.run v).state := by
  unfold State.run
  split
  · rw [State.state_ok]
    exact settledHolds_of_state (by simp [State.machine_enterRunning])
      (by simp [State.machine_enterRunning])
  · exact h

theorem SettledHolds.resume {s : State} (h : SettledHolds s) (v : Bool) :
    SettledHolds (s.resume v).state := by
  unfold State.resume
  split
  · split
    · exact h
    · rw [State.state_ok]
      exact State.settled_settle _
  · exact h

theorem SettledHolds.recover {s : State} (h : SettledHolds s) : SettledHolds s.recover.state := by
  unfold State.recover
  split
  · exact settledHolds_of_state (by simp [State.enter, State.ok]) (by simp [State.enter, State.ok])
  · exact h

theorem SettledHolds.pausingQuiet {s : State} (h : SettledHolds s) :
    SettledHolds s.pausingQuiet := by
  unfold State.pausingQuiet
  split
  · exact settledHolds_of_state (by simp) (by simp)
  · exact h

theorem SettledHolds.drainEnd {s : State} (h : SettledHolds s) : SettledHolds s.drainEnd := by
  unfold State.drainEnd
  split
  · exact settledHolds_of_state (by simp [State.endDraining]) (by simp [State.endDraining])
  · exact h

/-! ## Every command -/

section
variable {s : State}

theorem SettledHolds.completes_event (h : SettledHolds s) {act : State → State}
    (hact : SettledHolds (act s)) : Completes SettledHolds (event s act) :=
  Machine.completes_event h hact

theorem SettledHolds.replied (h : SettledHolds s) (cmd : Byte) (code : ReplyCode)
    (payload : List Byte) : SettledHolds (s.replied cmd code payload) := h

theorem SettledHolds.completes_answer (h : SettledHolds s) {cmd : Byte} {act : State → Answer}
    (hact : SettledHolds (act s).state) : Completes SettledHolds (taken cmd s act) :=
  completes_taken h h (hact.replied ..)

end

theorem SettledHolds.completes_exec {s : State} (h : SettledHolds s) (c : Instr) :
    Completes SettledHolds (exec c s) := by
  unfold exec
  cases c with
  | nop => exact h.completes_answer h
  | lookup kind index part => exact h.completes_answer (by rwa [State.state_lookup])
  | admitSlot kind sequence station x y span trip code =>
    refine h.completes_answer ?_
    split
    · exact h.admitRecord _
    · exact h
  | amend kind index field value =>
    exact h.completes_answer (State.onPlacement_cases h fun n r _ => h.amend n _ _ r)
  | retire kind index =>
    exact h.completes_answer (State.onPlacement_cases h fun n r _ => h.retire n r)
  | hold kind index =>
    exact h.completes_answer (State.onPlacement_cases h fun n r _ => h.holdRecord n r)
  | release kind index =>
    exact h.completes_answer (State.onPlacement_cases h fun n r _ => h.releaseRecord n r)
  | skip kind index parity =>
    exact h.completes_answer (State.onPlacement_cases h fun n r _ =>
      State.onParity_cases h fun p => h.skipIn n r p)
  | recallSlot kind index parity =>
    exact h.completes_answer (State.onPlacement_cases h fun n r _ =>
      State.onParity_cases h fun p => h.recallIn n r p)
  | align kind index dx dy scale =>
    refine h.completes_answer ?_
    split
    · exact State.onParity_cases h fun p => h.alignBoard p _
    · exact h
  | load kind index remaining =>
    exact h.completes_answer (State.onStation_cases h fun _ _ hst => h.loadStation hst _)
  | stationSetting kind index item value =>
    exact h.completes_answer (State.onStation_cases h fun _ _ hst => h.stationSetting hst ..)
  | stationState kind index value =>
    refine h.completes_answer (State.onStation_cases h fun k st hst => ?_)
    split
    · exact h.stationOffline hst
    · exact h.stationOnline hst
    · exact h
  | clearStation kind index =>
    exact h.completes_answer (State.onStation_cases h fun _ _ hst => h.clearStation hst)
  | clearClipCondition index =>
    refine h.completes_answer ?_
    split
    · exact h.same
    · exact h
  | clearAlarm index =>
    refine h.completes_answer ?_
    split
    · exact h.clearAlarm _
    · exact h
  | set kind index value =>
    refine h.completes_answer ?_
    split
    · split
      · exact h.setItem ..
      · exact h
    · exact h
  | ack => exact h.completes_answer h.ack
  | run v => exact h.completes_answer (h.run v)
  | pause => exact h.completes_answer h.pause
  | resume v => exact h.completes_answer (h.resume v)
  | drain => exact h.completes_answer h.drain
  | halt => exact h.completes_answer h.halt
  | recover => exact h.completes_answer h.recover
  | reset late =>
    have hstart : (s.resetCommand late).machine.state = .start := by
      rw [State.machine_resetCommand]
    exact h.completes_answer (act := fun s => (s.resetCommand late).ok)
      (settledHolds_of_state (by simp [hstart]) (by simp [hstart]))
  | unknownCommand code => exact h.completes_answer h
  | frameDiscard => exact completes_frameEnd h h h
  | powerOn l b =>
    have hstart : (s.poweredOn l b).machine.state = .start :=
      congrArg _ (State.machine_readFaultLines rfl)
    exact completes_next (settledHolds_of_state (by simp [hstart]) (by simp [hstart]))
  | sprocketEdge k pocket => exact completes_stationLine h (h.sprocket k pocket)
  | advanceTimeout k => exact completes_stationLine h (h.jam k)
  | indexBegin =>
    refine h.completes_event ?_
    split
    · exact .beginIndex s
    · exact h
  | indexCompletion present leads order => exact h.completes_event (h.settling _)
  | indexTimeout => exact h.completes_event h.chainJam
  | homeMarkEdge => exact h.completes_event h.markEdge
  | boardOpen => exact h.completes_event h.openIfMay
  | exchangeBegin => exact h.completes_event h.exchangeIfMay
  | transferDone present openFirst => exact h.completes_event (h.settling _)
  | boardPresentRise => exact h.completes_event (h.settling _)
  | clampedRise => exact h.completes_event h.clampedRise
  | clampedFall => exact h.completes_event h.clampedFall
  | transferTimeout => exact h.completes_event (h.settling _)
  | clampTimeout => exact h.completes_event (h.settling _)
  | slotActivation => exact h.completes_event h.slotActivation
  | positionSample a count present => exact h.completes_event (.positionSample ..)
  | lockTimeout a => exact h.completes_event (h.settling _)
  | cycleStart home => exact h.completes_event (h.cycleStart home)
  | homingStart home => exact h.completes_event (h.homingStart home)
  | formed => exact h.completes_event h.formedEdge
  | down => exact h.completes_event h.downEdge
  | clinchEnd => exact h.completes_event h.clinchEnd
  | headClear exchangeFirst => exact h.completes_event (h.headClear exchangeFirst)
  | homeRise exchangeFirst => exact h.completes_event (h.homeRise exchangeFirst)
  | phaseTimeout edge exchangeFirst => exact h.completes_event (h.phaseTimeout ..)
  | tripReached current => exact h.completes_event (h.tripReached current)
  | offTimeExpiry =>
    refine h.completes_event ?_
    unfold State.offTimeExpiry
    split
    · exact h.same
    · exact h
  | clinchSample current => exact h.completes_event (h.clinchSample current)
  | overcurrentRise current =>
    refine h.completes_event ?_
    unfold State.overcurrentRise
    split
    · exact h.same
    · exact h
  | overcurrentFall current => exact h.completes_event (h.overcurrentFall current)
  | overcurrentFilterExpiry => exact h.completes_event (h.settling _)
  | restroke => exact h.completes_event h.restroke
  | overtempRise => exact h.completes_event (State.settled_settle _)
  | overtempFall => exact h.completes_event h.same
  | supplyOkFall => exact h.completes_event (State.settled_settle _)
  | supplyOkRise => exact h.completes_event h.same
  | stopNFall =>
    have hlow : SettledHolds (s.setStopN false) := h
    exact h.completes_event hlow.haltIfMoving
  | stopNRise => exact h.completes_event h
  | pausingQuiet => exact h.completes_event h.pausingQuiet
  | drainEnd => exact h.completes_event h.drainEnd
  | retryTimeout kind =>
    refine h.completes_event ?_
    split
    · exact h.same
    · exact h
  | porNFall => exact completes_next h

end Sys2Proof.Machine

open Sys2Proof Sys2Proof.Machine

/-- Settles O8: the alarm records and the return state by `CommandActs`, the two ends by
`SettledHolds.completes_exec`. -/
theorem stepKeepsAlarmRecords : Obligations.StepKeepsAlarmRecords :=
  ⟨fun _ _ => step_keeps (fun _ _ h => h) fun c s t hs h => (completes_exec c s t h).alarms hs,
    fun _ _ => step_keeps (fun _ _ h => h) fun c s t hs h => (completes_exec c s t h).returns hs,
    fun _ _ => step_keeps (fun _ _ h => h) fun c _ t hs h => hs.completes_exec c t h⟩

end

section
/-! PROOFS. The queue, the control port and its frames, start-up (R199 to R202, R206, R208). -/

namespace Sys2Proof

/-! ## The bytes of a frame (R199) -/

@[simp] theorem joined_bytes (h : Half) : joined (highByte h) (lowByte h) = h := by
  unfold joined highByte lowByte
  ext i hi
  rw [BitVec.getElem_append]
  split
  · simp [BitVec.getLsbD_eq_getElem hi]
  · simp [show 8 + (i - 8) = i by omega, BitVec.getLsbD_eq_getElem hi]

@[simp] theorem joinedThree_bytes (v : Triple) :
    joinedThree (v.extractLsb' 16 8) (v.extractLsb' 8 8) (v.extractLsb' 0 8) = v := by
  unfold joinedThree
  ext i hi
  simp only [BitVec.getElem_append]
  split
  · simp [BitVec.getLsbD_eq_getElem hi]
  · split
    · simp [show 8 + (i - 8) = i by omega, BitVec.getLsbD_eq_getElem hi]
    · simp [show 16 + (i - 8 - 8) = i by omega, BitVec.getLsbD_eq_getElem hi]

theorem decodeFrame_of_discarded (v : Sampled) {bytes : List Byte} {part : Nat}
    (h : bytes.length ≠ 16 ∨ part ≠ 0) : decodeFrame v bytes part = .frameDiscard := by
  unfold decodeFrame
  split
  · simp at h
  · rfl

theorem bareCommand_unknown (v : Sampled) {code : Byte} (h : 22 ≤ code.toNat) :
    bareCommand v code = .unknownCommand code := by
  unfold bareCommand
  split <;> simp_all

/-- The frame of a command that names no record is decoded by its code (R206). -/
theorem decodeFrame_bareFrame (v : Sampled) {code : Byte} (h : code = 0 ∨ 14 ≤ code.toNat) :
    decodeFrame v (bareFrame code) = bareCommand v code := by
  simp only [decodeFrame, bareFrame, frame, twoBytes, List.cons_append, List.nil_append,
    List.length_nil, List.replicate, wholeFrame]
  split <;> rcases h with rfl | h <;> simp_all

theorem clearCommand_station {kind : Byte} {index : Half} (h : (Instr.clearStation kind index).wf = true) :
    clearCommand kind index = .clearStation kind index := by
  simp only [Instr.wf, Bool.and_eq_true, decide_eq_true_eq] at h
  unfold clearCommand
  split
  · exact absurd ‹_› h.1
  · exact absurd ‹_› h.2
  · rfl

theorem stationCommand_setting {kind : Byte} {index : Half} {item : Byte} {value : Half}
    (h : item.toNat ≠ 5) : stationCommand kind index item value = .stationSetting kind index item value := by
  unfold stationCommand
  split
  · exact absurd ‹_› h
  · rfl

theorem decodeFrame_encodeFrame (v : Sampled) (i : Instr) {bytes : List Byte} (hwf : i.wf = true)
    (he : encodeFrame i = some bytes) (hv : i.agrees v = true) : decodeFrame v bytes = i := by
  cases i <;> simp only [encodeFrame, Option.some.injEq, reduceCtorEq] at he <;> subst he
  case nop => rfl
  case lookup => simp [decodeFrame, frame, twoBytes, wholeFrame]
  case admitSlot => simp [decodeFrame, frame, twoBytes, wholeFrame]
  case amend => simp [decodeFrame, frame, twoBytes, wholeFrame]
  case retire => simp [decodeFrame, frame, twoBytes, wholeFrame]
  case hold => simp [decodeFrame, frame, twoBytes, wholeFrame]
  case release => simp [decodeFrame, frame, twoBytes, wholeFrame]
  case skip => simp [decodeFrame, frame, twoBytes, wholeFrame]
  case recallSlot => simp [decodeFrame, frame, twoBytes, wholeFrame]
  case align => simp [decodeFrame, frame, twoBytes, wholeFrame]
  case load => simp [decodeFrame, frame, twoBytes, wholeFrame]
  case stationSetting =>
    simp [decodeFrame, frame, twoBytes, wholeFrame, stationCommand_setting (of_decide_eq_true hwf)]
  case stationState => simp [decodeFrame, frame, twoBytes, wholeFrame, stationCommand]
  case clearStation =>
    simp [decodeFrame, frame, twoBytes, wholeFrame, clearCommand_station hwf]
  case clearClipCondition => simp [decodeFrame, frame, twoBytes, wholeFrame, clearCommand]
  case clearAlarm => simp [decodeFrame, frame, twoBytes, wholeFrame, clearCommand]
  case set => simp [decodeFrame, frame, twoBytes, threeBytes, wholeFrame]
  case ack => rfl
  case run => exact congrArg Instr.run (of_decide_eq_true hv)
  case pause => rfl
  case resume => exact congrArg Instr.resume (of_decide_eq_true hv)
  case drain => rfl
  case halt => rfl
  case recover => rfl
  case reset => exact congrArg Instr.reset (of_decide_eq_true hv)
  case unknownCommand code =>
    have hcode : 22 ≤ code.toNat := of_decide_eq_true hwf
    rw [decodeFrame_bareFrame v (.inr (by omega)), bareCommand_unknown v hcode]
  case frameDiscard => rfl

end Sys2Proof

namespace Sys2Proof.Machine

/-! ## Frames and events while the part waits, or is held (R208) -/

theorem event_of_not_live {s : State} (h : ¬ Live s) (act : State → State) :
    event s act = .next s := by
  simp [event, show s.inputs.porN = false from Bool.eq_false_iff.mpr h]

theorem frameEnd_of_not_live {s : State} (h : ¬ Live s) (act : State → State) :
    frameEnd s act = .next s := event_of_not_live h _

theorem taken_of_not_live {s : State} (h : ¬ Live s) (cmd : Byte) (act : State → Answer) :
    taken cmd s act = .next s := frameEnd_of_not_live h _

theorem taken_waiting {s : State} (h : Live s) (hw : s.port.awaitsRise = true) (cmd : Byte)
    (act : State → Answer) :
    taken cmd s act = .next { s with port := { s.port with awaitsRise := false } } :=
  frameEnd_waiting h hw _

/-- A frame that ends while the part waits for CS_N to rise ends the wait alone (R208). -/
theorem exec_of_waiting {c : Instr} {bytes : List Byte} {s : State}
    (hc : encodeFrame c = some bytes) (h : Live s) (hw : s.port.awaitsRise = true) :
    exec c s = .next { s with port := { s.port with awaitsRise := false } } := by
  cases c <;> simp only [encodeFrame, reduceCtorEq] at hc <;> simp only [exec]
  case frameDiscard => exact frameEnd_waiting h hw _
  all_goals exact taken_waiting h hw _ _

/-- While POR_N is low, POWER_ON and POR_N_FALL alone act (R208). -/
theorem exec_of_not_live {c : Instr} {s : State} (hwf : c.wf = true) (h : ¬ Live s)
    (hp : ∀ l b, c ≠ .powerOn l b) (hf : c ≠ .porNFall) : exec c s = .next s := by
  cases hc : encodeFrame c with
  | some bytes =>
    cases c <;> simp only [encodeFrame, reduceCtorEq] at hc <;> simp only [exec]
    case frameDiscard => exact frameEnd_of_not_live h _
    all_goals exact taken_of_not_live h _ _
  | none =>
    cases c <;> simp only [encodeFrame, reduceCtorEq] at hc <;> simp only [exec]
    case powerOn l b => exact absurd rfl (hp l b)
    case porNFall => exact absurd rfl hf
    case sprocketEdge k pocket =>
      have hk : 1 ≤ k ∧ k ≤ Config.stationCount := by simpa [Instr.wf, stationLine] using hwf
      simp only [execSprocketEdge, if_pos hk, event_of_not_live h]
    case advanceTimeout k =>
      have hk : 1 ≤ k ∧ k ≤ Config.stationCount := by simpa [Instr.wf, stationLine] using hwf
      simp only [execAdvanceTimeout, if_pos hk, event_of_not_live h]
    all_goals exact event_of_not_live h _

/-! ## Start-up (R208, R209) -/

theorem State.raiseRecord_alarms (s : State) (k : AlarmKind) (src : Option Source) :
    s.raiseRecord k src = { s with alarms := (s.raiseRecord k src).alarms } := by
  unfold State.raiseRecord State.endCondition
  split <;> rfl

/-- In START the reading of the fault lines changes the alarm table alone. -/
theorem State.readFaultLines_alarms {s : State} (h : s.machine.state = .start) :
    s.readFaultLines = { s with alarms := s.readFaultLines.alarms } := by
  rw [State.readFaultLines_of_start h]
  split
  · split
    · exact s.raiseRecord_alarms ..
    · rfl
  · split
    · generalize hu : s.raiseRecord .overTemp none = u
      have hs : u = { s with alarms := u.alarms } := hu ▸ s.raiseRecord_alarms ..
      rw [u.raiseRecord_alarms, hs]
    · exact s.raiseRecord_alarms ..

theorem State.raised_raiseRecord (s : State) (k : AlarmKind) (src : Option Source) :
    Raised s (s.raiseRecord k src) k src := raised_of_alarm rfl

theorem State.alarm_readFaultLines_overTemp {s : State} (h : s.machine.state = .start) :
    s.readFaultLines.alarm .overTemp =
      if s.inputs.levels.overtemp then (s.raiseRecord .overTemp none).alarm .overTemp
      else s.alarm .overTemp := by
  rw [State.readFaultLines_of_start h]
  (repeat' split) <;> simp [State.alarm_raiseRecord_ne]

theorem State.alarm_readFaultLines_supplyLow {s : State} (h : s.machine.state = .start) :
    s.readFaultLines.alarm .supplyLow =
      if s.inputs.levels.supplyOk then s.alarm .supplyLow
      else (s.raiseRecord .supplyLow none).alarm .supplyLow := by
  rw [State.readFaultLines_of_start h]
  (repeat' split) <;> simp [State.alarm_raiseRecord_ne, State.alarm_raiseRecord]

theorem State.alarm_readFaultLines_ne {s : State} (h : s.machine.state = .start) {k : AlarmKind}
    (ho : k ≠ .overTemp) (hs : k ≠ .supplyLow) : s.readFaultLines.alarm k = s.alarm k := by
  rw [State.readFaultLines_of_start h]
  (repeat' split) <;> simp [State.alarm_raiseRecord_ne, ho, hs]

/-! ## The status byte and the response frame (R199, R201) -/

theorem State.haltAlarm_iff (s : State) :
    s.haltAlarm = true ↔ ∃ k : AlarmKind, (s.alarm k).state ≠ .clear ∧ (s.alarm k).reaction = .halt := by
  simp [State.haltAlarm, State.anyAlarm_iff]

theorem State.boardWait_iff (s : State) :
    s.boardWait = true ↔ ∃ p : Parity, (s.board p).tableState = .awaitingAlign := by
  simp only [State.boardWait, Bool.or_eq_true, decide_eq_true_eq]
  exact ⟨fun h => h.elim (⟨_, ·⟩) (⟨_, ·⟩), fun ⟨p, hp⟩ => by cases p <;> simp [hp]⟩

theorem MachineState.code_lt (m : MachineState) : m.code < 8 := by cases m <;> decide

theorem bitAt_eq (b : Bool) (i : Nat) : bitAt b i = 2 ^ i * b.toNat := by cases b <;> simp [bitAt]

/-- The fields of a byte laid out as the status byte is. -/
theorem statusFields {a b c d e : Bool} {m : Nat} (hm : m < 8) {v : Byte}
    (hv : v = BitVec.ofNat 8 (bitAt a 7 + bitAt b 6 + bitAt c 5 + 4 * m + bitAt d 1 + bitAt e 0)) :
    v.getLsbD 7 = a ∧ v.getLsbD 6 = b ∧ v.getLsbD 5 = c ∧ v.toNat / 4 % 8 = m ∧ v.getLsbD 1 = d ∧
      v.getLsbD 0 = e := by
  have hle (x : Bool) : x.toNat ≤ 1 := by cases x <;> decide
  have ha := hle a; have hb := hle b; have hc := hle c; have hd := hle d; have he := hle e
  simp only [bitAt_eq] at hv
  have hv' : v.toNat =
      128 * a.toNat + 64 * b.toNat + 32 * c.toNat + 4 * m + 2 * d.toNat + e.toNat := by
    rw [hv, BitVec.toNat_ofNat]; omega
  have hget (i : Nat) (x : Bool) (hx : v.toNat / 2 ^ i % 2 = x.toNat) : v.getLsbD i = x := by
    rw [BitVec.getLsbD, Nat.testBit_eq_decide_div_mod_eq, hx]
    cases x <;> rfl
  exact ⟨hget 7 a (by omega), hget 6 b (by omega), hget 5 c (by omega), by omega, hget 1 d (by omega),
    hget 0 e (by omega)⟩

end Sys2Proof.Machine

open Sys2Proof Sys2Proof.Machine

/-- Settles O1: a step reads the queue. -/
theorem stepRunsFrontCommand : Obligations.StepRunsFrontCommand :=
  ⟨fun c rest s h => by simp [step, h], fun s h => by simp [step, h]⟩

/-- Settles O12: each operand of a frame is read back where `encodeFrame` put it. -/
theorem frameRoundTrip : Obligations.FrameRoundTrip :=
  ⟨fun v i _ hwf he hv => decodeFrame_encodeFrame v i hwf he hv,
    fun v _ _ h => decodeFrame_of_discarded v h⟩

/-- Settles O16: what each of the three leaves of a part that takes frames. -/
theorem portFramesCompleteAlone : Obligations.PortFramesCompleteAlone := fun _ code h _ =>
  ⟨taken_taking h 0 State.ok, taken_taking h code fun s => s.reply .unknownCommand,
    frameEnd_taking h State.discardFrame⟩

/-- Settles O14: while POR_N is low no event and no frame acts. -/
theorem porNLowHoldsThePart : Obligations.PorNLowHoldsThePart := by
  refine ⟨fun s => ⟨s.porNFall, rfl, rfl, ?_, ?_, ?_, ?_, ?_⟩,
    fun c s hwf h hp hf => exec_of_not_live hwf h hp hf⟩
  · simp [State.bridgeOn, State.porNFall]
  · simp [State.indexLine, State.porNFall]
  · simp [State.feedLine, State.porNFall]
  · simp [State.coarseLine, State.targetOutput, State.porNFall]
  · simp [State.alarmN, State.porNFall]

/-- Settles O2: the values of State.reset, and each law of Safety at it. -/
theorem powerOnLeavesTheStartValues : Obligations.PowerOnLeavesTheStartValues := by
  refine ⟨⟨fun n => ?_, fun p => ⟨State.isOpen_reset p, ?_, ?_⟩, fun k hlow hhigh => ?_, fun q hq => ?_,
    fun a => ?_, rfl, rfl, rfl, fun k => ?_, rfl⟩, shapeHolds_reset, driveHolds_of_powerOn rfl rfl,
    targetsHold_reset, attemptsHold_reset, numbersHold_reset, returnHolds_reset, alarmsHold_reset,
    chainHolds_reset, settledHolds_of_state (by decide) (by decide)⟩
  · have hfree : (List.replicate 384 (none : Option Placement))[n]?.join = none := by
      rw [List.getElem?_replicate]; split <;> rfl
    exact hfree
  · cases p <;> rfl
  · cases p <;> rfl
  · refine ⟨Station.powerOn, ?_, rfl, rfl, rfl⟩
    simp only [State.station?, State.reset, Config.stationCount]
    rw [if_neg (by omega), List.getElem?_replicate_of_lt (by omega)]
  · exact List.getElem?_replicate_of_lt (Nat.lt_succ_of_le hq)
  · cases a <;> exact ⟨rfl, rfl⟩
  · cases k <;> rfl

/-- Settles O18: the status byte as a sum of bits, and the frame as a list. -/
theorem responseFrameShowsStatusAndReply : Obligations.ResponseFrameShowsStatusAndReply := by
  refine ⟨fun s => ?_, fun s hlen => ⟨?_, rfl, rfl, rfl, fun i hi => ?_⟩⟩
  · obtain ⟨halarm, hhalt, herror, hmachine, hboard, hstarve⟩ :=
      statusFields (v := s.statusByte) s.machine.state.code_lt rfl
    refine ⟨?_, ?_, by rw [herror], hmachine, ?_, ?_⟩
    · rw [halarm, State.anyAlarm_iff]; simp
    · rw [hhalt, State.haltAlarm_iff]
    · rw [hboard, State.boardWait_iff]
    · rw [hstarve, decide_eq_true_iff]
  · simp [State.responseFrame, State.padding]; omega
  · simp [State.responseFrame, Nat.add_comm 3 i, List.getElem?_append_left hi]

/-- Settles O13: in START the fault lines change the alarm table alone, and a frame that ends while
the part waits ends the wait. -/
theorem powerOnStartsThePart : Obligations.PowerOnStartsThePart := by
  refine ⟨fun l csLow s => ⟨s.poweredOn l csLow, rfl, State.readFaultLines_alarms rfl,
    fun k ho hs => State.alarm_readFaultLines_ne rfl ho hs, ?_, ?_⟩,
    fun c bytes s hc h hw => exec_of_waiting hc h hw⟩
  · split
    next hl =>
      exact raised_congr rfl rfl
        (raised_of_alarm ((State.alarm_readFaultLines_overTemp rfl).trans (if_pos hl)))
    next hl => exact (State.alarm_readFaultLines_overTemp rfl).trans (if_neg hl)
  · split
    next hl => exact (State.alarm_readFaultLines_supplyLow rfl).trans (if_pos hl)
    next hl =>
      exact raised_congr rfl rfl
        (raised_of_alarm ((State.alarm_readFaultLines_supplyLow rfl).trans (if_neg hl)))

end

section
/-! PROOFS. RESET (R209): what the HALT steps of every block leave alike for the values of step 2. -/

namespace Sys2Proof.Machine

/-! ## The HALT steps, as the RESET values read them (R23, R43, R66, R157) -/

/-- A board record without what a HALT may change in it (R10, R58). -/
def BoardRecord.uncut (b : BoardRecord) : BoardRecord :=
  { b with phase := .free, tableState := .notLoaded, recalls := 0, interrupted := 0 }

/-- `t` differs from `s` in nothing that the RESET values of the records keep. -/
structure ResetsAlike (s t : State) : Prop where
  table : t.table.map (Option.map Placement.afterReset) = s.table.map (Option.map Placement.afterReset) := by
    simp
  boards : t.boards.map BoardRecord.uncut = s.boards.map BoardRecord.uncut := by simp
  stations : t.stations.map Station.afterReset = s.stations.map Station.afterReset := by simp
  slots : t.slots.map MoveSlot.afterReset = s.slots.map MoveSlot.afterReset := by simp
  axes : t.axes.map AxisRecord.idled = s.axes.map AxisRecord.idled := by simp
  stretch : t.stretch.length = s.stretch.length := by simp

variable {s t u : State}

theorem ResetsAlike.trans (h : ResetsAlike s t) (h' : ResetsAlike t u) : ResetsAlike s u where
  table := h'.table.trans h.table
  boards := h'.boards.trans h.boards
  stations := h'.stations.trans h.stations
  slots := h'.slots.trans h.slots
  axes := h'.axes.trans h.axes
  stretch := h'.stretch.trans h.stretch

theorem ResetsAlike.refl (s : State) : ResetsAlike s s := ⟨rfl, rfl, rfl, rfl, rfl, rfl⟩

theorem ResetsAlike.foldl {α : Type} {f : State → α → State} (h : ∀ s a, ResetsAlike s (f s a))
    (l : List α) (s : State) : ResetsAlike s (l.foldl f s) := by
  induction l generalizing s with
  | nil => exact .refl s
  | cons a l ih => exact (h s a).trans (ih (f s a))

/-- An entry may take the place of another that `f` does not tell from it. -/
theorem map_set_of_eq {α β : Type} {f : α → β} {l : List α} {n : Nat} {a b : α} (hl : l[n]? = some a)
    (h : f b = f a) : (l.set n b).map f = l.map f := by
  obtain ⟨hlt, rfl⟩ := List.getElem?_eq_some_iff.mp hl
  rw [List.map_set, h, ← List.map_set, List.set_getElem_self]

theorem ResetsAlike.putSlot {n : Nat} {r r' : Placement} (hs : s.slot? n = some r)
    (h : r'.afterReset = r.afterReset) : ResetsAlike s (s.putSlot n (some r')) where
  table := map_set_of_eq (Option.join_eq_some_iff.mp hs) (congrArg some h)

theorem ResetsAlike.grantHold (s : State) (n : Nat) : ResetsAlike s (s.grantHold n) := by
  unfold State.grantHold
  split
  · exact .refl s
  · next r hr =>
    split
    · next h => exact .putSlot hr (by simp [Placement.afterReset, h.1])
    · exact .refl s

theorem ResetsAlike.report {p : Parity} {rep : Report}
    (h : ∀ b : BoardRecord, (b.count rep).uncut = b.uncut) : ResetsAlike s (s.report p rep) where
  boards := by
    have hboard (q : Parity) : ((s.report p rep).board q).uncut = (s.board q).uncut := by
      by_cases hq : q = p
      · subst hq; rw [State.board_report]; exact h (s.board q)
      · rw [State.board_report_ne _ hq]
    exact congrArg₂ Pair.mk (hboard .even) (hboard .odd)

theorem ResetsAlike.request (n : Nat) (p : Parity) (f : StatusSlot → StatusSlot) {rep : Report}
    (h : ∀ b : BoardRecord, (b.count rep).uncut = b.uncut) : ResetsAlike s (s.request n p f rep) := by
  rcases s.request_cases n p f rep with hsame | ⟨r, hr, ho, hc⟩
  · rw [hsame]; exact .refl s
  · have hput : ResetsAlike s
        (s.putSlot n (some { r with status := r.status.put p (f (r.status.get p)) })) :=
      .putSlot hr rfl
    rw [s.request_applied hr ho hc]
    exact (hput.trans (.grantHold ..)).trans (.report h)

theorem State.map_stations_putStation {β : Type} {f : Station → β} {k : Nat} {st st' : Station}
    (hst : s.station? k = some st) (h : f st' = f st) :
    (s.putStation k st').stations.map f = s.stations.map f := by
  unfold State.station? at hst
  unfold State.putStation
  split
  · rfl
  · next hk => exact map_set_of_eq (by rwa [if_neg hk] at hst) h

theorem ResetsAlike.dropAt (s : State) (k : Nat) : ResetsAlike s (s.dropAt k) := by
  cases hst : s.station? k with
  | none => simp only [State.dropAt, hst]; exact .refl s
  | some st =>
    have hmarked : ResetsAlike s ((s.putStation k st.dropped).markClip k .dropMissed) :=
      { stations := by
          have hput := State.map_stations_putStation (f := Station.afterReset) hst (st' := st.dropped) rfl
          simpa using hput
        stretch := by simp [State.markClip, State.putClip] }
    cases hcall : (s.clip k).call with
    | none => rwa [State.dropAt_of_no_call hst hcall]
    | some c =>
      rw [State.dropAt_of_call hst hcall]
      exact hmarked.trans (.request _ _ _ fun _ => rfl)

theorem ResetsAlike.haltFeeds (s : State) : ResetsAlike s s.haltFeeds :=
  .foldl (fun s k => by
    unfold State.haltFeed
    split
    · exact .refl s
    · split
      · exact .refl s
      · exact .dropAt s k) stationNumbers s

theorem ResetsAlike.interrupt (s : State) : ResetsAlike s s.interrupt := by
  have hcut : ResetsAlike s (s.putClip 80 ((s.clip 80).emptied .unknown)) :=
    { stretch := by simp [State.putClip] }
  unfold State.interrupt
  split
  · dsimp only
    split
    · exact hcut
    · exact hcut.trans (.request _ _ _ fun _ => rfl)
  · exact .refl s

theorem Pair.map_eq_map {α β : Type} {f : α → β} {v w : Pair α}
    (h : ∀ p, f (v.get p) = f (w.get p)) : v.map f = w.map f :=
  congrArg₂ Pair.mk (h .even) (h .odd)

theorem ResetsAlike.stopHead (s : State) : ResetsAlike s s.stopHead where
  slots := by
    have hslots : s.stopHead.slots = s.haltSlot.slots := rfl
    rw [hslots, State.slots_haltSlot]
    split
    · next q _ _ =>
      refine Pair.map_eq_map fun p => ?_
      rw [Pair.get_put]
      split
      · next h => subst h; rfl
      · rfl
    · rfl

theorem ResetsAlike.haltAxes (s : State) : ResetsAlike s s.haltAxes where
  slots := Pair.map_eq_map fun p => by
    simp only [State.haltAxes, Pair.get_map, MoveSlot.deactivated]
    split <;> rfl
  axes := rfl

theorem ResetsAlike.resetHalt (s : State) (late : Bool) : ResetsAlike s (s.resetHalt late) := by
  have hstopped (u : State) : ResetsAlike u u.stopHead.haltAxes := (ResetsAlike.stopHead u).trans (.haltAxes _)
  have hblocks (u : State) : ResetsAlike u u.haltIndex.haltExchange := { }
  unfold State.resetHalt
  split
  · exact (hblocks s).trans (hstopped _)
  · exact (((ResetsAlike.haltFeeds s).trans (hblocks _)).trans (.interrupt _)).trans (hstopped _)

/-! ## What RESET leaves (R209) -/

theorem BoardRecord.eq_of_uncut {a b c : BoardRecord} (h : a.uncut = b.uncut)
    (hc : c = a.afterReset) :
    c =
      { b with phase := .free, tableState := .notLoaded, recalls := c.recalls
               interrupted := c.interrupted } := by
  subst hc
  cases a; cases b
  simp only [BoardRecord.uncut, BoardRecord.mk.injEq] at h
  simp [BoardRecord.afterReset, h]

theorem Placement.afterReset_eq (r : Placement) :
    r.afterReset =
      { r with hold := if r.hold = .free then .free else .held
               status := { even := StatusSlot.fresh, odd := StatusSlot.fresh } } := by
  unfold Placement.afterReset
  cases r.hold <;> rfl

theorem State.boards_resetHalt_late (s : State) : (s.resetHalt true).boards = s.boards := by
  simp [State.resetHalt]

theorem State.alarms_resetHalt (s : State) (late : Bool) : (s.resetHalt late).alarms = s.alarms := by
  cases late <;> simp [State.resetHalt]

theorem State.inputs_resetHalt (s : State) (late : Bool) : (s.resetHalt late).inputs = s.inputs := by
  cases late <;> simp [State.resetHalt]

theorem State.settings_resetHalt (s : State) (late : Bool) :
    (s.resetHalt late).settings = s.settings := by
  cases late <;> simp [State.resetHalt]

theorem State.conditions_resetHalt (s : State) (late : Bool) :
    (s.resetHalt late).conditions = s.conditions := by
  cases late <;> simp [State.resetHalt]

theorem State.port_resetHalt (s : State) (late : Bool) :
    (s.resetHalt late).port = s.port ∧ (s.resetHalt late).freeCount = s.freeCount := by
  cases late <;> simp [State.resetHalt]

theorem State.outputs_resetHalt (s : State) (late : Bool) :
    (s.resetHalt late).outputs.afterReset =
      { s.outputs with
        rejectGate := false, former := false, headDrive := false, transferReq := false
        clamp := if s.exchange.leg = .clamping then false else s.outputs.clamp } := by
  cases late <;> by_cases hleg : s.exchange.leg = .idle <;>
    simp [State.resetHalt, State.haltBlocks, State.haltHead, State.stopHead, Outputs.afterReset,
      State.outputs_haltExchange, hleg]

theorem State.resetCommand_alarms (s : State) (late : Bool) :
    ∃ a, s.resetCommand late = { (s.resetHalt late).resetValues with alarms := a } :=
  ⟨_, State.readFaultLines_alarms rfl⟩

theorem AlarmRecord.afterReset_raised (r : AlarmRecord) :
    r.afterReset.raised none =
      { state := .active, reaction := r.reaction, clearMode := r.clearMode, condition := true
        retryTimer := none, firstSource := none, lastSource := none, occurrences := 1 } := rfl

theorem State.alarm_resetValues (s : State) (late : Bool) (k : AlarmKind) :
    (s.resetHalt late).resetValues.alarm k = (s.alarm k).afterReset := by
  simp [State.resetValues, State.alarm, State.alarms_resetHalt]

/-- A line at its fault level raises its alarm; every other record is CLEAR (R198, R209). -/
theorem State.alarm_resetCommand (s : State) (late : Bool) (k : AlarmKind) :
    (s.resetCommand late).alarm k =
      if (k = .overTemp ∧ s.inputs.levels.overtemp = true) ∨
          (k = .supplyLow ∧ s.inputs.levels.supplyOk = false) then
        (s.alarm k).afterReset.raised none
      else (s.alarm k).afterReset := by
  have hinputs : (s.resetHalt late).resetValues.inputs = s.inputs := s.inputs_resetHalt late
  have hstart : (s.resetHalt late).resetValues.machine.state = .start := rfl
  by_cases ho : k = .overTemp
  · subst ho
    refine (State.alarm_readFaultLines_overTemp hstart).trans ?_
    rw [hinputs, State.alarm_raiseRecord, State.alarm_resetValues]
    simp [isEventKind]
  by_cases hl : k = .supplyLow
  · subst hl
    refine (State.alarm_readFaultLines_supplyLow hstart).trans ?_
    rw [hinputs, State.alarm_raiseRecord, State.alarm_resetValues]
    cases s.inputs.levels.supplyOk <;> simp [isEventKind]
  · refine (State.alarm_readFaultLines_ne hstart ho hl).trans ?_
    rw [State.alarm_resetValues]
    simp [ho, hl]

end Sys2Proof.Machine

open Sys2Proof Sys2Proof.Machine

/-- Settles O15: what the HALT steps leave alike (`ResetsAlike`), the RESET values, and the reading of
the fault lines, which changes the alarm table alone. -/
theorem resetCommandReturnsToStart : Obligations.ResetCommandReturnsToStart := by
  intro late s h
  have hcut := ResetsAlike.resetHalt s late
  have halarm := s.alarm_resetCommand late
  obtain ⟨a, ha⟩ := s.resetCommand_alarms late
  rw [ha] at halarm
  refine ⟨(s.resetCommand late).replied 21 .ok [], taken_taking h 21 fun s => (s.resetCommand late).ok, ?_⟩
  rw [ha]
  refine ⟨rfl, fun n => ?slot, fun p => ⟨?board, fun hlate => ?late⟩, rfl, rfl,
    ⟨rfl, rfl, rfl, rfl, rfl, rfl⟩, fun k st hst => ?station, ?clips, ?length, rfl,
    s.conditions_resetHalt late, s.settings_resetHalt late, rfl, fun p => ?moveSlot, fun a => ?axis,
    rfl, rfl, ?bridge, fun k => ?alarm, s.inputs_resetHalt late, s.outputs_resetHalt late, ?port⟩
  case slot =>
    refine (congrArg (fun l => (l[n]?).join) hcut.table).trans ?_
    rw [← funext Placement.afterReset_eq, State.slot?, List.getElem?_map]
    cases s.table[n]? <;> rfl
  case board =>
    have hboard : ((s.resetHalt late).board p).uncut = (s.board p).uncut :=
      (Pair.get_map ..).symm.trans ((congrArg (Pair.get · p) hcut.boards).trans (Pair.get_map ..))
    exact BoardRecord.eq_of_uncut hboard (Pair.get_map ..)
  case late =>
    subst hlate
    have hget : ((s.resetHalt true).boards.map BoardRecord.afterReset).get p =
        (s.board p).afterReset := by rw [State.boards_resetHalt_late, Pair.get_map]; rfl
    have hrecalls := congrArg BoardRecord.recalls hget
    have hinterrupted := congrArg BoardRecord.interrupted hget
    exact ⟨hrecalls, hinterrupted⟩
  case station =>
    have hk : (s.resetHalt late).resetValues.stations = s.stations.map Station.afterReset := hcut.stations
    refine (station?_congr (s := { s with stations := s.stations.map Station.afterReset }) hk k).trans ?_
    simp only [State.station?] at hst ⊢
    split at hst
    · exact absurd hst (by simp)
    · next hk => rw [if_neg hk, List.getElem?_map, hst]; rfl
  case clips => exact fun c hc => by obtain ⟨_, _, rfl⟩ := List.mem_map.mp hc; rfl
  case length => exact (List.length_map _).trans hcut.stretch
  case moveSlot =>
    exact (congrArg (Pair.get · p) hcut.slots).trans (Pair.get_map ..)
  case axis => exact (congrArg (Quad.get · a) hcut.axes).trans (Quad.get_map ..)
  case bridge =>
    simp [State.bridgeOn, State.replied, State.resetValues, Drive.powerOn]
  case alarm =>
    split
    next hfault => exact (halarm k).trans (if_pos hfault)
    next hsound => exact (halarm k).trans (if_neg hsound)
  case port =>
    obtain ⟨hport, hfree⟩ := s.port_resetHalt late
    exact answered_replied s { (s.resetHalt late).resetValues with alarms := a } hfree hport 21 .ok []
end

section
/-! PROOFS. Commands of the host that name a placement or an alarm record: their refusals, AMEND, CLEAR
and the retry timer (R1, R16, R17, R193, R195, R202). -/

namespace Sys2Proof.Machine

/-! ## The first checks of a command that names a placement (R1, R202) -/

theorem State.onPlacement_absent {s : State} {index : Half}
    (h : index.toNat < 384 → s.slot? index.toNat = none) (act : Nat → Placement → Answer) :
    s.onPlacement 0 index act = s.reply (if index.toNat < 384 then .noRecord else .refusedRange) := by
  unfold State.onPlacement
  by_cases hi : index.toNat < 384
  · simp [kindPlacement, Config.slotCount, hi, h hi]
  · simp [kindPlacement, Config.slotCount, hi]

theorem State.onPlacement_otherKind (s : State) {kind : Byte} (h : kind ≠ 0) (index : Half)
    (act : Nat → Placement → Answer) : s.onPlacement kind index act = s.reply .refusedRange :=
  if_neg fun hk => h hk.1

theorem taken_absent {s : State} {index : Half} (h : Taking s)
    (hfree : index.toNat < 384 → s.slot? index.toNat = none) (cmd : Byte)
    (act : State → Nat → Placement → Answer) :
    taken cmd s (fun s => s.onPlacement 0 index (act s)) =
      .next (s.replied cmd (if index.toNat < 384 then .noRecord else .refusedRange) []) := by
  rw [taken_taking h, State.onPlacement_absent hfree]
  rfl

theorem taken_otherKind {s : State} (h : Taking s) {kind : Byte} (hk : kind ≠ 0) (index : Half)
    (cmd : Byte) (act : State → Nat → Placement → Answer) :
    taken cmd s (fun s => s.onPlacement kind index (act s)) =
      .next (s.replied cmd .refusedRange []) := by
  rw [taken_taking h, State.onPlacement_otherKind s hk]
  rfl

/-! ## AMEND (R16, R17) -/

/-- A program field with the value in its range (R2, R206). -/
theorem amendedRecord_inRange {r r' : Placement} {field : Byte} {v : Nat}
    (h : (field = 0 ∧ r' = { r with sequence := v }) ∨
      (field = 1 ∧ 1 ≤ v ∧ v ≤ 72 ∧ r' = { r with station := v }) ∨
      (field = 2 ∧ v ≤ 1 ∧ r' = { r with substitute := decide (v = 1) }) ∨
      (field = 3 ∧ v ≤ 60000 ∧ r' = { r with x := v }) ∨
      (field = 4 ∧ v ≤ 45000 ∧ r' = { r with y := v }) ∨
      (field = 5 ∧ r'.orientation.quadrant = v ∧ r' = { r with orientation := r'.orientation }) ∨
      (field = 6 ∧ 50 ≤ v ∧ v ≤ 254 ∧ r' = { r with span := v }) ∨
      (field = 7 ∧ v ≤ 3 ∧ r' = { r with tier := v }) ∨
      (field = 8 ∧ r'.clinch.code = v ∧ r' = { r with clinch := r'.clinch }) ∨
      (field = 9 ∧ v ≤ 7 ∧ r' = { r with trip := v })) :
    amendedRecord r field.toNat v = some r' := by
  rcases h with ⟨rfl, rfl⟩ | ⟨rfl, h1, h2, rfl⟩ | ⟨rfl, h1, rfl⟩ | ⟨rfl, h1, rfl⟩ | ⟨rfl, h1, rfl⟩ |
    ⟨rfl, rfl, h1⟩ | ⟨rfl, h1, h2, rfl⟩ | ⟨rfl, h1, rfl⟩ | ⟨rfl, rfl, h1⟩ | ⟨rfl, h1, rfl⟩
  · rfl
  · exact if_pos ⟨h1, h2⟩
  · obtain rfl | rfl : v = 0 ∨ v = 1 := by omega
    · rfl
    · rfl
  · exact if_pos h1
  · exact if_pos h1
  · exact (congrArg (Option.map _) (orientationOfCode_quadrant _)).trans (congrArg some h1.symm)
  · exact if_pos ⟨h1, h2⟩
  · exact if_pos h1
  · exact (congrArg (Option.map _) (profileOfCode_code _)).trans (congrArg some h1.symm)
  · exact if_pos h1

theorem boolOfCode_outOfRange {v : Nat} (h : 1 < v) : boolOfCode v = none := by
  match v, h with
  | _ + 2, _ => rfl

theorem orientationOfCode_outOfRange {v : Nat} (h : 3 < v) : orientationOfCode v = none := by
  match v, h with
  | _ + 4, _ => rfl

theorem profileOfCode_outOfRange {v : Nat} (h : 2 < v) : profileOfCode v = none := by
  match v, h with
  | _ + 3, _ => rfl

theorem amendedRecord_outOfRange {field : Byte} {v : Nat}
    (h : (field = 1 ∧ (v = 0 ∨ 72 < v)) ∨ (field = 2 ∧ 1 < v) ∨ (field = 3 ∧ 60000 < v) ∨
      (field = 4 ∧ 45000 < v) ∨ (field = 5 ∧ 3 < v) ∨ (field = 6 ∧ (v < 50 ∨ 254 < v)) ∨
      (field = 7 ∧ 3 < v) ∨ (field = 8 ∧ 2 < v) ∨ (field = 9 ∧ 7 < v) ∨ 10 ≤ field.toNat)
    (r : Placement) : amendedRecord r field.toNat v = none := by
  rcases h with ⟨rfl, h⟩ | ⟨rfl, h⟩ | ⟨rfl, h⟩ | ⟨rfl, h⟩ | ⟨rfl, h⟩ | ⟨rfl, h⟩ | ⟨rfl, h⟩ | ⟨rfl, h⟩ |
    ⟨rfl, h⟩ | h
  · exact if_neg (by omega)
  · exact congrArg (Option.map _) (boolOfCode_outOfRange h)
  · exact if_neg (by omega)
  · exact if_neg (by omega)
  · exact congrArg (Option.map _) (orientationOfCode_outOfRange h)
  · exact if_neg (by omega)
  · exact if_neg (by omega)
  · exact congrArg (Option.map _) (profileOfCode_outOfRange h)
  · exact if_neg (by omega)
  · obtain ⟨n, hn⟩ := Nat.exists_eq_add_of_le' h
    rw [hn]; rfl

theorem State.amend_inRange {r r' : Placement} {field v : Nat} (h : amendedRecord r field v = some r')
    (s : State) (n : Nat) :
    s.amend n field v r =
      if !s.standing && decide (r.hold ≠ .held) then s.reply .notHeld
      else if decide (field = 7) && !(s.putSlot n (some r')).gateLaw then s.reply .refusedState
      else (s.putSlot n (some r')).ok := by
  simp only [State.amend, h]

theorem exec_amend {s : State} {index : Half} {r : Placement} (h : Taking s) (hi : index.toNat < 384)
    (hr : s.slot? index.toNat = some r) (field : Byte) (value : Half) :
    exec (.amend 0 index field value) s =
      .next ((s.amend index.toNat field.toNat value.toNat r).state.replied 3
        (s.amend index.toNat field.toNat value.toNat r).code
        (s.amend index.toNat field.toNat value.toNat r).payload) :=
  taken_onPlacement h hi hr 3 fun s n r => s.amend n field.toNat value.toNat r

end Sys2Proof.Machine

open Sys2Proof Sys2Proof.Machine

/-- Settles O19: the first checks come before the command's own. -/
theorem freeSlotsAreRefused : Obligations.FreeSlotsAreRefused := by
  refine ⟨fun index value b s h => ?_, fun kind index value x y b station span trip code s h hk => ?_⟩
  · intro code hfree
    exact ⟨taken_absent h hfree 3 fun s n r => s.amend n b.toNat value.toNat r,
      taken_absent h hfree 4 State.retire, taken_absent h hfree 5 State.holdRecord,
      taken_absent h hfree 6 State.releaseRecord,
      taken_absent h hfree 7 fun s n r => s.onParity b.toNat fun p => s.skipIn n r p,
      taken_absent h hfree 8 fun s n r => s.onParity b.toNat fun p => s.recallIn n r p⟩
  · refine ⟨?filling, taken_otherKind h hk index 3 fun s n r => s.amend n b.toNat value.toNat r,
      taken_otherKind h hk index 4 State.retire, taken_otherKind h hk index 5 State.holdRecord,
      taken_otherKind h hk index 6 State.releaseRecord,
      taken_otherKind h hk index 7 fun s n r => s.onParity b.toNat fun p => s.skipIn n r p,
      taken_otherKind h hk index 8 fun s n r => s.onParity b.toNat fun p => s.recallIn n r p⟩
    case filling =>
      have hkind : ¬ kind = kindPlacement := hk
      rw [exec, execAdmit, taken_taking h]
      simp only [if_neg hkind]
      rfl

/-- Settles O21: `State.amend` by the record it would write, the claim on it and the law of R118. -/
theorem amendWritesOneField : Obligations.AmendWritesOneField := by
  intro index value field s r h hi hr v claimed
  rw [exec_amend h hi hr]
  refine ⟨fun r' hr' => ?_, fun hv => ?_⟩
  · intro after
    have hfield : decide (field.toNat = 7) = decide (field = 7) :=
      decide_eq_decide.mpr ⟨fun h7 => BitVec.eq_of_toNat_eq h7, fun h7 => congrArg BitVec.toNat h7⟩
    have hclaimed : (!s.standing && decide (r.hold ≠ .held)) = true ↔ ¬ claimed := by
      simp only [claimed, Bool.and_eq_true, Bool.not_eq_true', Bool.eq_false_iff, ne_eq,
        State.standing_iff, decide_eq_true_eq]
      tauto
    have hput : s.putSlot index.toNat (some r') = after := rfl
    rw [State.amend_inRange (amendedRecord_inRange hr'), hfield, hput]
    refine ⟨fun hc hlaw => ?_, fun hc h7 hlaw => ?_, fun hc => ?_⟩
    · rw [if_neg (hclaimed.not.mpr (not_not.mpr hc)), if_neg (by simpa [← imp_iff_not_or] using hlaw)]
      rfl
    · rw [if_neg (hclaimed.not.mpr (not_not.mpr hc)), if_pos (by simp [h7, hlaw])]
      rfl
    · rw [if_pos (hclaimed.mpr hc)]
      rfl
  · unfold State.amend
    rw [amendedRecord_outOfRange hv]
    rfl

/-! ## CLEAR and the retry timer -/

namespace Sys2Proof.Machine

/-- CLEAR lifts the lockout with the record of CLINCH_STALL (R173). -/
theorem State.liftLockout_eq (s : State) (k : AlarmKind) :
    s.liftLockout k =
      { s with drive := if k = .clinchStall then { s.drive with lockout := false } else s.drive } := by
  cases k <;> rfl

theorem exec_clearAlarm {s : State} {index : Half} {k : AlarmKind} (h : Taking s)
    (hk : kindOfCode index.toNat = some k) :
    exec (.clearAlarm index) s =
      .next ((s.clearAlarm k).state.replied 12 (s.clearAlarm k).code (s.clearAlarm k).payload) := by
  rw [exec, execClearAlarm, taken_taking h]
  simp only [hk]

end Sys2Proof.Machine

open Sys2Proof Sys2Proof.Machine

/-- Settles O58: CLEAR by the state of the record, and the expiry of a retry timer that runs. -/
theorem clearAndRetryClearTheRecord : Obligations.ClearAndRetryClearTheRecord := by
  refine ⟨fun index k s h hk => ?_, fun index s h hi => ?_, fun k s h => ⟨fun hr hc => ?_, fun hr => ?_⟩⟩
  · intro d
    have hlift (t : State) (ht : t.drive = s.drive) : t.liftLockout k = { t with drive := d } := by
      rw [State.liftLockout_eq, ht]
    rw [exec_clearAlarm h hk]
    refine ⟨fun hs => ?_, fun hs => ?_, fun hs => ?_⟩
    · simp only [State.clearAlarm, hs]
      rw [hlift (s.putAlarm k _) rfl]
      refine ⟨_, rfl, rfl, ?_, fun l hl => ?_, answered_replied s _ rfl rfl ..⟩
      · exact (PerKind.get_put ..).trans (if_pos rfl)
      · exact (PerKind.get_put ..).trans (if_neg hl)
    · simp only [State.clearAlarm, hs]
      rw [hlift s rfl]
      rfl
    · simp only [State.clearAlarm, hs]
      rfl
  · have hnone : kindOfCode index.toNat = none := by
      unfold kindOfCode
      split <;> simp_all
    rw [exec, execClearAlarm, taken_taking h]
    simp only [hnone]
    rfl
  · refine ⟨s.putAlarm k (s.alarm k).expired, ?_, rfl, ?_, fun l hl => ?_⟩
    · rw [exec, execRetryTimeout, event_live h, if_pos hr]
    · simp [AlarmRecord.expired, hc]
    · rw [State.alarm_putAlarm, if_neg hl]
  · rw [exec, execRetryTimeout, event_live h]
    simp [hr]
end

section
/-! PROOFS. SET and the setting items (R203, R206, R207). -/

namespace Sys2Proof.Machine

/-! ## The numbers of the items (R203) -/

/-- The position of an alarm kind in the list of R191. -/
def kindCode : AlarmKind → Nat
  | .stationLow => 0
  | .stationEmpty => 1
  | .stationJam => 2
  | .stationSuspect => 3
  | .starve => 4
  | .chainJam => 5
  | .chainSync => 6
  | .placementMissed => 7
  | .headJam => 8
  | .clinchStall => 9
  | .clinchOvercurrent => 10
  | .clinchOpen => 11
  | .axisFollow => 12
  | .boardTransfer => 13
  | .supplyLow => 14
  | .overTemp => 15

theorem kindOfCode_kindCode (k : AlarmKind) : kindOfCode (kindCode k) = some k := by cases k <;> rfl

theorem kindCode_lt (k : AlarmKind) : kindCode k < 16 := by cases k <;> decide

theorem axisOfCode_axisCode (a : Axis) : axisOfCode (axisCode a) = some a := by cases a <;> rfl

theorem axisCode_lt (a : Axis) : axisCode a < 4 := by cases a <;> decide

/-- The number of an item (R203). -/
def SettingItem.number : SettingItem → Nat
  | .runLength => 0
  | .alignRequired => 1
  | .transferTimeout => 2
  | .clampTimeout => 3
  | .forwardProtection => 4
  | .backwardProtection => 5
  | .indexTimeout => 6
  | .badThreshold => 7
  | .recallLimit => 8
  | .centreX => 9
  | .centreY => 10
  | .homeX => 11
  | .homeY => 12
  | .homeS => 13
  | .homeR => 14
  | .quarter => 15
  | .softMin a => 16 + axisCode a
  | .softMax a => 20 + axisCode a
  | .settleWindow a => 24 + axisCode a
  | .lockWindow a => 28 + axisCode a
  | .lockCount a => 32 + axisCode a
  | .unlockCount a => 36 + axisCode a
  | .lockTimeout a => 40 + axisCode a
  | .loadPosition a => 44 + axisCode a
  | .dumpPosition a => 48 + axisCode a
  | .formTimeout => 52
  | .driveTimeout => 53
  | .clinchTimeout => 54
  | .retractTimeout => 55
  | .offTime => 56
  | .stallLimit => 57
  | .overcurrentThreshold => 58
  | .filterTime => 59
  | .openThreshold => 60
  | .openSamples => 61
  | .reaction k => 62 + kindCode k
  | .clearMode k => 78 + kindCode k
  | .retryInterval => 94

theorem itemOfNumber_number (item : SettingItem) : itemOfNumber item.number = some item := by
  cases item
  case reaction k => cases k <;> rfl
  case clearMode k => cases k <;> rfl
  case softMin a | softMax a | settleWindow a | lockWindow a | lockCount a | unlockCount a | lockTimeout a |
      loadPosition a | dumpPosition a => cases a <;> rfl
  all_goals rfl

theorem number_of_lt : ∀ n : Fin 95, (itemOfNumber n).map SettingItem.number = some n.val := by decide

theorem itemOfNumber_of_lt {n : Nat} (h : 94 < n) : itemOfNumber n = none := by
  unfold itemOfNumber
  rw [if_neg (by omega), if_neg (by omega), if_neg (by omega), if_neg (by omega), if_neg (by omega),
    if_neg (by omega)]

/-- The numbers of R203 name each item once. -/
theorem itemOfNumber_eq_some_iff {n : Nat} {item : SettingItem} :
    itemOfNumber n = some item ↔ n = item.number := by
  constructor
  · intro h
    by_cases hn : 94 < n
    · simp [itemOfNumber_of_lt hn] at h
    · have hnumber := number_of_lt ⟨n, by omega⟩
      rw [h] at hnumber
      exact (Option.some.inj hnumber).symm
  · rintro rfl
    exact itemOfNumber_number item

theorem kindOfCode_eq_some_iff {n : Nat} {k : AlarmKind} : kindOfCode n = some k ↔ n = kindCode k := by
  constructor
  · intro h
    unfold kindOfCode at h
    split at h <;> simp at h <;> subst h <;> rfl
  · rintro rfl
    exact kindOfCode_kindCode k

/-- A value is that of the item with its number (R203). -/
theorem itemHolds_of {s : State} {n v : Nat} (h : ∀ item, n = SettingItem.number item → v = s.itemValue item) :
    ItemHolds s n v :=
  ⟨h .runLength, h .alignRequired, h .transferTimeout, h .clampTimeout, h .forwardProtection,
    h .backwardProtection, h .indexTimeout, h .badThreshold, h .recallLimit, h .centreX, h .centreY,
    h .homeX, h .homeY, h .homeS, h .homeR, h .quarter,
    fun a => ⟨h (.softMin a), h (.softMax a), h (.settleWindow a), h (.lockWindow a), h (.lockCount a),
      h (.unlockCount a), h (.lockTimeout a), h (.loadPosition a), h (.dumpPosition a)⟩,
    h .formTimeout, h .driveTimeout, h .clinchTimeout, h .retractTimeout, h .offTime, h .stallLimit,
    h .overcurrentThreshold, h .filterTime, h .openThreshold, h .openSamples,
    fun k => ⟨fun hn hk => h (.reaction k) (by
        have := kindOfCode_eq_some_iff.mp hk; simp only [SettingItem.number]; omega),
      fun hn hk => h (.clearMode k) (by
        have := kindOfCode_eq_some_iff.mp hk; simp only [SettingItem.number]; omega)⟩,
    h .retryInterval⟩

theorem itemHolds_itemValue {s : State} {n : Nat} {item : SettingItem}
    (h : itemOfNumber n = some item) : ItemHolds s n (s.itemValue item) :=
  itemHolds_of fun other hn => by
    rw [itemOfNumber_eq_some_iff.mpr hn] at h
    rw [Option.some.inj h]

/-! ## What SET stores (R207) -/

theorem State.axisSettings_putAxisSettings (s : State) (a b : Axis) (g : AxisSettings) :
    (s.putAxisSettings a g).axisSettings b = if b = a then g else s.axisSettings b := Quad.get_put ..

theorem State.itemValue_storeItem_self {s : State} {item : SettingItem} {v : Nat}
    (h : item.takes v = true) : (s.storeItem item v).itemValue item = v := by
  cases item
  case alignRequired =>
    obtain rfl | rfl : v = 0 ∨ v = 1 := by simp [SettingItem.takes, between] at h; omega
    · rfl
    · rfl
  case reaction k =>
    obtain rfl | rfl | rfl : v = 0 ∨ v = 1 ∨ v = 2 := by simp [SettingItem.takes, between] at h; omega
    all_goals simp [State.storeItem, State.itemValue, reactionOfCode, Reaction.code]
  case clearMode k =>
    obtain rfl | rfl : v = 0 ∨ v = 1 := by simp [SettingItem.takes, between] at h; omega
    all_goals simp [State.storeItem, State.itemValue, clearModeOfCode, ClearMode.code]
  case softMin | softMax | settleWindow | lockWindow | lockCount | unlockCount | lockTimeout |
      loadPosition | dumpPosition =>
    simp [State.storeItem, State.itemValue, State.axisSettings_putAxisSettings]
  all_goals rfl

theorem State.storeItem_eq (s : State) (item : SettingItem) (v : Nat) :
    s.storeItem item v =
      { s with settings := (s.storeItem item v).settings, alarms := (s.storeItem item v).alarms } := by
  cases item
  case reaction k =>
    simp only [State.storeItem]
    split <;> rfl
  case clearMode k =>
    simp only [State.storeItem]
    split <;> rfl
  all_goals rfl

theorem State.storeItem_replied (s : State) (item : SettingItem) (v : Nat) :
    let t := (s.storeItem item v).replied 13 .ok []
    t = { s with settings := t.settings, alarms := t.alarms, port := t.port, freeCount := t.freeCount } ∧
      Answered s t 13 .ok [] := by
  rw [s.storeItem_eq]
  exact ⟨rfl, answered_replied s _ rfl rfl ..⟩

theorem State.alarm_storeItem (s : State) (item : SettingItem) (v : Nat) (k : AlarmKind) :
    (s.storeItem item v).alarm k =
      { s.alarm k with
        reaction := ((s.storeItem item v).alarm k).reaction
        clearMode := ((s.storeItem item v).alarm k).clearMode } := by
  have hput (l : AlarmKind) (r : AlarmRecord) (h : r = { s.alarm l with reaction := r.reaction, clearMode := r.clearMode }) :
      (s.putAlarm l r).alarm k =
        { s.alarm k with
          reaction := ((s.putAlarm l r).alarm k).reaction
          clearMode := ((s.putAlarm l r).alarm k).clearMode } := by
    rw [State.alarm_putAlarm]
    split
    next hk => subst hk; exact h
    next => rfl
  cases item
  case reaction l =>
    simp only [State.storeItem]
    split
    · exact hput l _ rfl
    · rfl
  case clearMode l =>
    simp only [State.storeItem]
    split
    · exact hput l _ rfl
    · rfl
  all_goals rfl

theorem State.itemValue_putAlarm_reaction (s : State) {k : AlarmKind} {other : SettingItem}
    (h : other ≠ .reaction k) (r : Reaction) :
    (s.putAlarm k { s.alarm k with reaction := r }).itemValue other = s.itemValue other := by
  cases other
  case reaction l =>
    have hl : l ≠ k := fun hl => h (congrArg _ hl)
    simp [State.itemValue, hl]
  case clearMode l =>
    by_cases hl : l = k
    · subst hl; simp [State.itemValue]
    · simp [State.itemValue, hl]
  all_goals rfl

theorem State.itemValue_putAlarm_clearMode (s : State) {k : AlarmKind} {other : SettingItem}
    (h : other ≠ .clearMode k) (m : ClearMode) :
    (s.putAlarm k { s.alarm k with clearMode := m }).itemValue other = s.itemValue other := by
  cases other
  case clearMode l =>
    have hl : l ≠ k := fun hl => h (congrArg _ hl)
    simp [State.itemValue, hl]
  case reaction l =>
    by_cases hl : l = k
    · subst hl; simp [State.itemValue]
    · simp [State.itemValue, hl]
  all_goals rfl

/-- The axis and the field of an item that is held once for each axis. -/
def SettingItem.axisField : SettingItem → Option (Axis × (AxisSettings → Nat))
  | .softMin a => some (a, AxisSettings.softMin)
  | .softMax a => some (a, AxisSettings.softMax)
  | .settleWindow a => some (a, AxisSettings.settleWindow)
  | .lockWindow a => some (a, AxisSettings.lockWindow)
  | .lockCount a => some (a, AxisSettings.lockCount)
  | .unlockCount a => some (a, AxisSettings.unlockCount)
  | .lockTimeout a => some (a, AxisSettings.lockTimeout)
  | .loadPosition a => some (a, AxisSettings.loadPosition)
  | .dumpPosition a => some (a, AxisSettings.dumpPosition)
  | _ => none

theorem State.itemValue_of_axisField (s : State) {item : SettingItem} {a : Axis}
    {read : AxisSettings → Nat} (h : item.axisField = some (a, read)) :
    s.itemValue item = read (s.axisSettings a) := by
  cases item <;> simp only [SettingItem.axisField, reduceCtorEq, Option.some.injEq, Prod.mk.injEq] at h <;>
    obtain ⟨rfl, rfl⟩ := h <;> rfl

/-- The settings of one axis hold the items of that axis alone. -/
theorem State.itemValue_putAxisSettings (s : State) {a : Axis} {g : AxisSettings} {item : SettingItem}
    (h : ∀ read, item.axisField = some (a, read) → read g = read (s.axisSettings a)) :
    (s.putAxisSettings a g).itemValue item = s.itemValue item := by
  cases hitem : item.axisField with
  | none =>
    cases item
    case softMin | softMax | settleWindow | lockWindow | lockCount | unlockCount | lockTimeout | loadPosition |
        dumpPosition => simp [SettingItem.axisField] at hitem
    all_goals rfl
  | some field =>
    obtain ⟨b, read⟩ := field
    rw [State.itemValue_of_axisField _ hitem, State.itemValue_of_axisField _ hitem,
      State.axisSettings_putAxisSettings]
    split
    next hb => subst hb; exact h read hitem
    next => rfl

/-- SET changes the value of no other item (R207). -/
theorem State.itemValue_storeItem_ne (s : State) {item other : SettingItem} (h : other ≠ item) (v : Nat) :
    (s.storeItem item v).itemValue other = s.itemValue other := by
  cases item
  case softMin | softMax | settleWindow | lockWindow | lockCount | unlockCount | lockTimeout |
      loadPosition | dumpPosition =>
    refine s.itemValue_putAxisSettings fun read hread => ?_
    cases other <;>
      simp only [SettingItem.axisField, reduceCtorEq, Option.some.injEq, Prod.mk.injEq] at hread <;>
      obtain ⟨rfl, rfl⟩ := hread <;> simp at h ⊢
  case reaction k =>
    simp only [State.storeItem]
    split
    · exact s.itemValue_putAlarm_reaction h _
    · rfl
  case clearMode k =>
    simp only [State.storeItem]
    split
    · exact s.itemValue_putAlarm_clearMode h _
    · rfl
  all_goals cases other <;> simp at h <;> rfl

/-! ## The checks of SET (R207) -/

theorem fixedReaction_eq_false_iff (k : AlarmKind) :
    fixedReaction k = false ↔
      k ≠ .chainJam ∧ k ≠ .headJam ∧ k ≠ .clinchOvercurrent ∧ k ≠ .supplyLow ∧ k ≠ .overTemp := by
  cases k <;> decide

theorem State.itemOpen_iff (s : State) (item : SettingItem) :
    s.itemOpen item = true ↔
      62 ≤ item.number ∨ ((s.machine.state = .start ∨ s.machine.state = .stopped) ∧
        (item.number = 8 → s.isOpen .even = false ∧ s.isOpen .odd = false)) := by
  rw [← State.standing_iff]
  cases item
  case recallLimit => simp [State.itemOpen, SettingItem.number, State.boardOpen]
  case reaction k => simp [State.itemOpen, SettingItem.number]
  case clearMode k => exact iff_of_true rfl (.inl (by simp only [SettingItem.number]; omega))
  case retryInterval => simp [State.itemOpen, SettingItem.number]
  case softMin a | softMax a | settleWindow a | lockWindow a | lockCount a | unlockCount a |
      lockTimeout a | loadPosition a | dumpPosition a =>
    have ha := axisCode_lt a
    simp only [State.itemOpen, SettingItem.number]
    constructor
    · exact fun h => .inr ⟨h, fun _ => by omega⟩
    · exact fun h => h.elim (fun _ => by omega) And.left
  all_goals simp [State.itemOpen, SettingItem.number]

theorem MoveSlot.holdsOutside_iff (m : MoveSlot) (a : Axis) (lo hi : Nat) :
    m.holdsOutside a lo hi = true ↔
      (m.state = .planned ∨ m.state = .active) ∧
        ∃ t : Quad Nat, m.targets = some t ∧ (t.get a < lo ∨ hi < t.get a) := by
  unfold MoveSlot.holdsOutside
  cases m.targets with
  | none => simp
  | some t => simp [between]

/-- A slot in PLANNED or ACTIVE holds a target of the axis outside the limits (R136). -/
def State.TargetOutside (s : State) (a : Axis) (lo hi : Nat) : Prop :=
  ∃ p : Parity, ((s.moveSlot p).state = .planned ∨ (s.moveSlot p).state = .active) ∧
    ∃ t : Quad Nat, (s.moveSlot p).targets = some t ∧ (t.get a < lo ∨ hi < t.get a)

theorem State.targetOutside_iff (s : State) (a : Axis) (lo hi : Nat) :
    s.TargetOutside a lo hi ↔
      ((s.moveSlot .even).holdsOutside a lo hi || (s.moveSlot .odd).holdsOutside a lo hi) = true := by
  simp only [State.TargetOutside, ← MoveSlot.holdsOutside_iff, Bool.or_eq_true]
  exact ⟨fun ⟨p, hp⟩ => by cases p; exacts [.inl hp, .inr hp], fun hp => hp.elim (⟨_, ·⟩) (⟨_, ·⟩)⟩

theorem State.checkLimits_crossed (s : State) (a : Axis) {lo hi : Nat} (h : hi < lo) :
    s.checkLimits a lo hi = .refusedRange := if_pos h

theorem State.checkLimits_outside {s : State} {a : Axis} {lo hi : Nat} (h : lo ≤ hi)
    (ho : s.TargetOutside a lo hi) : s.checkLimits a lo hi = .refusedState := by
  rw [State.checkLimits, if_neg (Nat.not_lt.mpr h), if_pos ((s.targetOutside_iff ..).mp ho)]

theorem State.checkLimits_inside {s : State} {a : Axis} {lo hi : Nat} (h : lo ≤ hi)
    (ho : ¬ s.TargetOutside a lo hi) :
    s.checkLimits a lo hi =
      if lo ≤ (s.axisSettings a).loadPosition ∧ (s.axisSettings a).loadPosition ≤ hi ∧
        lo ≤ (s.axisSettings a).dumpPosition ∧ (s.axisSettings a).dumpPosition ≤ hi then .ok
      else .refusedRange := by
  rw [State.checkLimits, if_neg (Nat.not_lt.mpr h), if_neg ((s.targetOutside_iff ..).not.mp ho)]
  by_cases hload : lo ≤ (s.axisSettings a).loadPosition ∧ (s.axisSettings a).loadPosition ≤ hi
  · by_cases hdump : lo ≤ (s.axisSettings a).dumpPosition ∧ (s.axisSettings a).dumpPosition ≤ hi
    · simp [between, hload, hdump]
    · simp [between, hload, ← Bool.decide_and, hdump]
  · simp [between, ← Bool.decide_and, hload, ← and_assoc]

theorem State.checkItem_ok_of_number (s : State) {item : SettingItem}
    (h : item.number < 16 ∨ (32 ≤ item.number ∧ item.number < 44) ∨ 52 ≤ item.number) (v : Nat) :
    s.checkItem item v = .ok := by
  cases item
  case softMin a | softMax a | settleWindow a | lockWindow a | loadPosition a | dumpPosition a =>
    have ha := axisCode_lt a
    simp only [SettingItem.number] at h
    omega
  all_goals rfl

/-- The ranges of the items by their numbers (R42, R104, R114, R135, R156, R179, R196); `free` says that
the item is not a fixed reaction. -/
def ItemRange (n v : Nat) (free : Prop) : Prop :=
  (n = 0 ∧ v ≤ 65535) ∨ (n = 1 ∧ v ≤ 1) ∨ (n = 2 ∧ 100 ≤ v ∧ v ≤ 10000) ∨
  (n = 3 ∧ 10 ≤ v ∧ v ≤ 1000) ∨ ((n = 4 ∨ n = 5) ∧ 1 ≤ v ∧ v ≤ 7) ∨
  (n = 6 ∧ 50 ≤ v ∧ v ≤ 1000) ∨ (n = 7 ∧ 1 ≤ v ∧ v ≤ 7) ∨ (n = 8 ∧ v ≤ 3) ∨
  ((n = 9 ∨ n = 10) ∧ v ≤ 60000) ∨ (11 ≤ n ∧ n ≤ 14 ∧ v ≤ 65535) ∨
  (n = 15 ∧ 1 ≤ v ∧ v ≤ 16383) ∨ (16 ≤ n ∧ n ≤ 23 ∧ v ≤ 262143) ∨
  (24 ≤ n ∧ n ≤ 27 ∧ 1 ≤ v ∧ v ≤ 4095) ∨ (28 ≤ n ∧ n ≤ 31 ∧ 1 ≤ v ∧ v ≤ 255) ∨
  (32 ≤ n ∧ n ≤ 39 ∧ 1 ≤ v ∧ v ≤ 15) ∨ (40 ≤ n ∧ n ≤ 43 ∧ 10 ≤ v ∧ v ≤ 2000) ∨
  (44 ≤ n ∧ n ≤ 51 ∧ v ≤ 262143) ∨ (52 ≤ n ∧ n ≤ 55 ∧ 10 ≤ v ∧ v ≤ 500) ∨
  (n = 56 ∧ (v = 25 ∨ v = 50 ∨ v = 75 ∨ v = 100)) ∨ (n = 57 ∧ 8 ≤ v ∧ v ≤ 255) ∨
  (n = 58 ∧ (v = 110 ∨ v = 120 ∨ v = 130 ∨ v = 140 ∨ v = 150 ∨ v = 160)) ∨
  (n = 59 ∧ (v = 1 ∨ v = 2)) ∨ (n = 60 ∧ 1 ≤ v ∧ v ≤ 20) ∨ (n = 61 ∧ (v = 16 ∨ v = 128)) ∨
  (62 ≤ n ∧ n ≤ 77 ∧ v ≤ 2 ∧ free) ∨
  (78 ≤ n ∧ n ≤ 93 ∧ v ≤ 1) ∨ (n = 94 ∧ 50 ≤ v ∧ v ≤ 5000)

/-- A number that lies past all others of its line of the table. -/
theorem itemRange_reaction {c v : Nat} (hc : c < 16) (free : Prop) :
    ItemRange (62 + c) v free ↔ v ≤ 2 ∧ free := by
  unfold ItemRange
  by_cases hfree : free <;> simp only [hfree, and_true, and_false, false_or, iff_false] <;> omega

theorem itemRange_clearMode {c v : Nat} (hc : c < 16) (free : Prop) :
    ItemRange (78 + c) v free ↔ v ≤ 1 := by
  unfold ItemRange
  by_cases hfree : free <;> simp only [hfree, and_true, and_false, false_or] <;> omega

theorem SettingItem.takes_iff_axis {item : SettingItem} {a : Axis} {read : AxisSettings → Nat}
    (h : item.axisField = some (a, read)) (v : Nat) (free : Prop) :
    item.takes v = true ↔ ItemRange item.number v free := by
  cases item <;> simp only [SettingItem.axisField, reduceCtorEq, Option.some.injEq, Prod.mk.injEq] at h <;>
    obtain ⟨rfl, rfl⟩ := h <;> rename_i a <;> cases a <;>
    simp [SettingItem.takes, between, ItemRange, SettingItem.number, axisCode]

theorem SettingItem.takes_iff (item : SettingItem) (v : Nat) (free : Prop)
    (hfree : ∀ k, item = .reaction k → (fixedReaction k = false ↔ free)) :
    item.takes v = true ↔ ItemRange item.number v free := by
  cases item
  case reaction k =>
    rw [SettingItem.number, itemRange_reaction (kindCode_lt k), ← hfree k rfl]
    simp [SettingItem.takes, between]
  case clearMode k =>
    rw [SettingItem.number, itemRange_clearMode (kindCode_lt k)]
    simp [SettingItem.takes, between]
  case softMin | softMax | settleWindow | lockWindow | lockCount | unlockCount | lockTimeout |
      loadPosition | dumpPosition => exact SettingItem.takes_iff_axis rfl v free
  case overcurrentThreshold =>
    simp [SettingItem.takes, between, ItemRange, SettingItem.number]
    omega
  case filterTime =>
    simp [SettingItem.takes, between, ItemRange, SettingItem.number]
    omega
  all_goals simp [SettingItem.takes, between, ItemRange, SettingItem.number]

theorem exec_set {s : State} {index : Half} {item : SettingItem} (h : Taking s)
    (hitem : itemOfNumber index.toNat = some item) (value : Triple) :
    exec (.set 12 index value) s =
      .next ((s.setItem item value.toNat).state.replied 13 (s.setItem item value.toNat).code
        (s.setItem item value.toNat).payload) := by
  rw [exec, execSet, taken_taking h]
  simp only [kindSetting, if_true, hitem]

theorem State.setItem_takes_not {item : SettingItem} {v : Nat} (h : item.takes v = false) (s : State) :
    s.setItem item v = s.reply .refusedRange := by
  simp [State.setItem, h]

theorem State.setItem_closed {s : State} {item : SettingItem} {v : Nat} (h : item.takes v = true)
    (ho : s.itemOpen item = false) : s.setItem item v = s.reply .refusedState := by
  simp [State.setItem, h, ho]

theorem State.setItem_checked {s : State} {item : SettingItem} {v : Nat} (h : item.takes v = true)
    (ho : s.itemOpen item = true) :
    s.setItem item v =
      if s.checkItem item v = .ok then (s.storeItem item v).ok else s.reply (s.checkItem item v) := by
  simp only [State.setItem, h, ho]
  cases s.checkItem item v <;> rfl

end Sys2Proof.Machine

open Sys2Proof Sys2Proof.Machine

/-- Settles O59: the stored value by the items' readings, the refusals by the order of the checks, and
ranges, states and consistency checks by the items' numbers. -/
theorem setStoresOneItem : Obligations.SetStoresOneItem := by
  intro index value s h
  refine ⟨fun item hitem => ?_, fun hi => ?_, fun kind hk => ?_, fun item hitem => ?_⟩
  · rw [exec_set h hitem]
    refine ⟨fun ht ho hc => ?_, fun ht => ?_, fun ht ho => ?_, fun code ht ho hc hne => ?_⟩
    · rw [State.setItem_checked ht ho, if_pos hc]
      obtain ⟨hframe, hport⟩ := s.storeItem_replied item value.toNat
      have hvalue := State.itemValue_storeItem_self (s := s) ht
      have hholds := itemHolds_itemValue (s := s.storeItem item value.toNat) hitem
      rw [hvalue] at hholds
      exact ⟨_, rfl, hframe, hvalue, hholds, fun other hne => s.itemValue_storeItem_ne hne _,
        fun k => s.alarm_storeItem item _ k, hport⟩
    · rw [State.setItem_takes_not ht]; rfl
    · rw [State.setItem_closed ht ho]; rfl
    · rw [State.setItem_checked ht ho, if_neg (hc ▸ hne), hc]; rfl
  · rw [exec, execSet, taken_taking h]
    simp only [kindSetting, if_true, itemOfNumber_of_lt hi]
    rfl
  · have hkind : ¬ kind = kindSetting := hk
    rw [exec, execSet, taken_taking h]
    simp only [if_neg hkind]
    rfl
  · have hnumber := itemOfNumber_eq_some_iff.mp hitem
    have hnamed {other : SettingItem} (ho : index.toNat = other.number) : item = other :=
      Option.some.inj (hitem.symm.trans (itemOfNumber_eq_some_iff.mpr ho))
    intro n v
    refine ⟨?_, ?_, fun a lo hi => ?_, fun a => ⟨?_, ?_, ?_⟩, ?_⟩
    · have hrange := item.takes_iff v (∀ k : AlarmKind, kindOfCode (n - 62) = some k →
          k ≠ .chainJam ∧ k ≠ .headJam ∧ k ≠ .clinchOvercurrent ∧ k ≠ .supplyLow ∧ k ≠ .overTemp)
        (by
          rintro k rfl
          have hk : n - 62 = kindCode k := by simp only [n, hnumber, SettingItem.number]; omega
          simp only [hk, kindOfCode_kindCode, Option.some.injEq, forall_eq', fixedReaction_eq_false_iff])
      rw [← hnumber] at hrange
      exact hrange
    · have hopen := s.itemOpen_iff item
      rw [← hnumber] at hopen
      exact hopen
    · intro g outside hlimits
      have hcheck : s.checkItem item v = s.checkLimits a lo hi := by
        rcases hlimits with ⟨hn, rfl, rfl⟩ | ⟨hn, rfl, rfl⟩
        · rw [hnamed (other := .softMin a) hn]; rfl
        · rw [hnamed (other := .softMax a) hn]; rfl
      rw [hcheck]
      exact ⟨s.checkLimits_crossed a, State.checkLimits_outside, State.checkLimits_inside⟩
    · intro hn
      rw [hnamed (other := .settleWindow a) hn]; rfl
    · intro hn
      rw [hnamed (other := .lockWindow a) hn]; rfl
    · have hbetween : (if between (s.axisSettings a).softMin (s.axisSettings a).softMax v then ReplyCode.ok
          else .refusedRange) =
          if (s.axisSettings a).softMin ≤ v ∧ v ≤ (s.axisSettings a).softMax then .ok else .refusedRange := by
        simp only [AxisSettings.between_iff]
      rintro (hn | hn)
      · rw [hnamed (other := .loadPosition a) hn]; exact hbetween
      · rw [hnamed (other := .dumpPosition a) hn]; exact hbetween
    · intro hn
      exact s.checkItem_ok_of_number (hnumber ▸ hn) v
end

section
/-! PROOFS. LOOKUP (R203, R204): what each part sends, and which records there are. -/

namespace Sys2Proof.Machine

/-! ## The fields of a part (R199, R204) -/

theorem half_eq_sentTwo (n : Nat) : half n = sentTwo n := rfl

theorem three_eq_sentThree (n : Nat) : three n = sentThree n := rfl

theorem Free.field_sent (f : Free) (i b width : Nat) {α : Type} (o : Option α) (g : α → Nat) :
    ∃ n : Nat, ((∀ v, g v < 2 ^ width) → n < 2 ^ width) ∧ (∀ v, o = some v → n = g v) ∧
      f.field i b width (o.map g) = 2 ^ b * n := by
  cases o with
  | none => exact ⟨_, fun _ => Nat.mod_lt _ (Nat.two_pow_pos width), by simp, Nat.mul_comm ..⟩
  | some v => exact ⟨g v, fun h => h v, by simp, Nat.mul_comm ..⟩

theorem Free.byte_sent_self (f : Free) (i : Nat) (o : Option Nat) :
    OptionalBytes o 1 (fun v => [Machine.byte v]) (f.byte i o) := by
  have h := f.byte_sent i o fun v => v
  rwa [Option.map_id'] at h

theorem StatusSlot.sent_statusBytes (f : Free) (i : Nat) (u : StatusSlot) : u.Sent (statusBytes f i u) := by
  obtain ⟨reason, hreason, hbit⟩ :=
    f.bit_sent i 2 u.skipReason fun r => decide (r = .outOfTravel)
  exact ⟨reason, _, hreason, f.byte_sent_self (i + 2) u.clinchPeak, by
    simp only [statusBytes, hbit, bitAt_eq, Nat.reducePow]⟩

theorem BoardRecord.sent_boardPart0 (f : Free) (b : BoardRecord) : b.Sent (boardPart0 f b) := by
  refine ⟨correctionBytes f b.correction, ⟨?_, fun c hc => by rw [hc]; rfl⟩, ?_⟩
  · cases b.correction <;> rfl
  · simp only [boardPart0, half_eq_sentTwo, bitAt_eq, Nat.reducePow, Nat.one_mul]

theorem runSent_runPart (f : Free) (s : State) : RunSent s (runPart f s) := by
  obtain ⟨leaving, hleaving, hbit⟩ := f.bit_sent 5 4 s.exchange.leaving fun l => isOdd l.parity
  obtain ⟨incoming, hincoming, hbit'⟩ := f.bit_sent 5 2 s.exchange.incoming isOdd
  refine ⟨leaving, incoming, hleaving, hincoming, ?_⟩
  simp only [runPart, half_eq_sentTwo, hbit, hbit', bitAt_eq, Nat.reducePow]

theorem Station.windowSent_stationPart1 (st : Station) : st.WindowSent (stationPart1 st) := by
  have hlen : (st.missWindow.take 16).length ≤ 15 + 1 := by simp
  have hlt := windowBits_lt hlen
  refine ⟨BitVec.ofNat 16 (windowBits (st.missWindow.take 16) 15), fun i hi => ?_, ?_⟩
  · have hbit := windowBits_testBit hlen (i := i) (by omega)
    rw [BitVec.getLsbD_ofNat, hbit, List.getElem?_take_of_lt hi]
    simp; omega
  · rw [BitVec.toNat_ofNat, Nat.mod_eq_of_lt hlt]
    rfl

theorem Judgment.code_lt (j : Judgment) : j.code < 4 := by cases j <;> decide

theorem Clip.sent_clipPart (f : Free) (c : Clip) : c.Sent (clipPart f c) := by
  obtain ⟨verify, hlt, hverify, hfield⟩ := f.field_sent 1 4 2 c.verify Judgment.code
  exact ⟨verify, _, _, _, _, hlt Judgment.code_lt, hverify, f.half_sent 2 c.call Call.board,
    f.half_sent 4 c.call Call.placement, f.byte_sent 6 c.call Call.station, f.byte_sent_self 7 c.clipId, by
    simp only [clipPart, hfield, bitAt_eq, Nat.reducePow]⟩

theorem MoveSlot.sent_slotPart0 (f : Free) (m : MoveSlot) (alternation : Parity) :
    m.Sent alternation (slotPart0 f m alternation) := by
  obtain ⟨at80, hat80, hbit⟩ := f.bit_sent 1 6 m.position fun p => decide (p = .p80)
  obtain ⟨dump, hdump, hbit'⟩ := f.bit_sent 1 4 m.kind isDump
  refine ⟨at80, dump, _, _, hat80, hdump, f.half_sent 2 m.job Job.board,
    f.half_sent 4 m.job Job.placement, ?_⟩
  simp only [slotPart0, hbit, hbit', bitAt_eq, isOdd, Nat.reducePow, Nat.one_mul]

theorem MoveSlot.targetsSent_slotPart1 (f : Free) (m : MoveSlot) : m.TargetsSent (slotPart1 f m) := by
  unfold MoveSlot.TargetsSent slotPart1
  cases m.targets with
  | none => exact ⟨f.bytes 1 12, ⟨rfl, by simp⟩, rfl⟩
  | some t => exact ⟨_, ⟨rfl, by rintro _ ⟨⟩; rfl⟩, rfl⟩

theorem AxisRecord.sent_axisPart (f : Free) (a : AxisRecord) : a.Sent (axisPart f a) :=
  ⟨_, f.three_sent 4 a.lastPosition, by
    simp only [axisPart, three_eq_sentThree, bitAt_eq, Nat.reducePow]⟩

theorem Chain.sent_chainPart (c : Chain) : c.Sent (chainPart c) := by
  simp only [Chain.Sent, chainPart, bitAt_eq, Nat.reducePow]

theorem Head.sent_headPart0 (f : Free) (h : Head) : h.Sent (headPart0 f h) := by
  obtain ⟨dump, hdump, hbit⟩ := f.bit_sent 1 6 h.kind isDump
  obtain ⟨odd, hodd, hbit'⟩ := f.bit_sent 1 4 h.slot isOdd
  obtain ⟨profile, -, hprofile, hfield⟩ := f.field_sent 6 6 2 h.plan fun p => p.profile.code
  obtain ⟨trip, -, htrip, hfield'⟩ := f.field_sent 6 0 3 h.plan StrokePlan.trip
  refine ⟨dump, odd, _, _, profile, trip, hdump, hodd, f.half_sent 2 h.job Job.board,
    f.half_sent 4 h.job Job.placement, fun pl hpl => ⟨hprofile pl hpl, htrip pl hpl⟩, ?_⟩
  simp only [headPart0, hbit, hbit', hfield, hfield', bitAt_eq, Nat.reducePow, Nat.one_mul]

theorem driveSent_headPart1 (s : State) : DriveSent s (headPart1 s) := by
  simp only [DriveSent, headPart1, bitAt_eq, Nat.reducePow]

theorem machineSent_machinePart (f : Free) (s : State) : MachineSent s (machinePart f s) := by
  obtain ⟨draining, hdraining, hbit⟩ :=
    f.bit_sent 1 6 s.machine.returnState fun r => decide (r = .draining)
  exact ⟨draining, hdraining, by simp only [machinePart, hbit, bitAt_eq, Nat.reducePow]⟩

theorem AlarmRecord.sent_alarmPart (f : Free) (r : AlarmRecord) : r.Sent (alarmPart f r) :=
  ⟨_, _, f.half_sent 2 r.firstSource Source.code, f.half_sent 4 r.lastSource Source.code, by
    simp only [alarmPart, bitAt_eq, Nat.reducePow]⟩

/-! ## The lengths of the parts -/

@[simp] theorem length_half (n : Nat) : (half n).length = 2 := rfl

@[simp] theorem length_three (n : Nat) : (three n).length = 3 := rfl

@[simp] theorem Free.length_byte (f : Free) (i : Nat) (o : Option Nat) : (f.byte i o).length = 1 := by
  cases o <;> rfl

@[simp] theorem Free.length_half (f : Free) (i : Nat) (o : Option Nat) : (f.half i o).length = 2 := by
  cases o <;> rfl

@[simp] theorem Free.length_three (f : Free) (i : Nat) (o : Option Nat) : (f.three i o).length = 3 := by
  cases o <;> rfl

theorem length_fill {l : List Byte} (h : l.length ≤ 13) : (fill l).length = 13 := by
  simp [fill]; omega

theorem length_statusBytes (f : Free) (i : Nat) (u : StatusSlot) : (statusBytes f i u).length = 3 := by
  simp [statusBytes]

theorem length_correctionBytes (f : Free) (c : Option Correction) : (correctionBytes f c).length = 6 := by
  cases c <;> rfl

theorem length_placementPart1 (f : Free) (r : Placement) : (placementPart1 f r).length ≤ 13 := by
  simp [placementPart1, length_statusBytes]

theorem length_boardPart0 (f : Free) (b : BoardRecord) : (boardPart0 f b).length ≤ 13 := by
  simp [boardPart0, length_correctionBytes]

theorem length_runPart (f : Free) (s : State) : (runPart f s).length ≤ 13 := by simp [runPart]

theorem length_clipPart (f : Free) (c : Clip) : (clipPart f c).length ≤ 13 := by simp [clipPart]

theorem length_slotPart0 (f : Free) (m : MoveSlot) (a : Parity) : (slotPart0 f m a).length ≤ 13 := by
  simp [slotPart0]

theorem length_slotPart1 (f : Free) (m : MoveSlot) : (slotPart1 f m).length ≤ 13 := by
  unfold slotPart1
  split <;> simp [Free.bytes]

theorem length_axisPart (f : Free) (a : AxisRecord) : (axisPart f a).length ≤ 13 := by simp [axisPart]

theorem length_headPart0 (f : Free) (h : Head) : (headPart0 f h).length ≤ 13 := by simp [headPart0]

theorem length_alarmPart (f : Free) (r : AlarmRecord) : (alarmPart f r).length ≤ 13 := by
  simp [alarmPart]

/-! ## The answers (R203) -/

/-- The answer to LOOKUP of a record that there is, or a refusal: never that there is no record. -/
def Answer.Finds (a : Answer) (part : Nat) : Prop :=
  (a.code = .ok ∧ a.payload.length = 13 ∧ part < 2) ∨ (a.code = .refusedRange ∧ a.payload = [])

theorem State.finds_refused (s : State) (part : Nat) : (s.reply .refusedRange).Finds part := .inr ⟨rfl, rfl⟩

theorem State.finds_onePart (s : State) (part : Nat) {bytes : List Byte} (h : bytes.length ≤ 13) :
    (s.onePart part bytes).Finds part := by
  unfold State.onePart
  split
  · exact .inl ⟨rfl, length_fill h, by decide⟩
  · exact s.finds_refused _

theorem State.finds_twoParts (s : State) (part : Nat) {first second : List Byte}
    (h : first.length ≤ 13) (h' : second.length ≤ 13) : (s.twoParts part first second).Finds part := by
  unfold State.twoParts
  split
  · exact .inl ⟨rfl, length_fill h, by decide⟩
  · exact .inl ⟨rfl, length_fill h', by decide⟩
  · exact s.finds_refused _

theorem State.finds_lookupSingle (s : State) (index : Nat) {part : Nat} {a : Answer} (h : a.Finds part) :
    (s.lookupSingle index a).Finds part := by
  unfold State.lookupSingle
  split
  · exact h
  · exact s.finds_refused _

theorem State.finds_lookup {s : State} {kind index : Nat} (part : Nat)
    (h : ¬ (kind = 0 ∧ index < 384 ∧ s.slot? index = none)) : (s.lookup kind index part).Finds part := by
  unfold State.lookup
  split
  · unfold State.lookupPlacement
    split
    next hi =>
      split
      · exact s.finds_twoParts part (Nat.le_of_ble_eq_true rfl) (length_placementPart1 ..)
      next hs => exact absurd ⟨rfl, hi, hs⟩ h
    · exact s.finds_refused _
  · unfold State.lookupBoard
    split
    · exact s.finds_twoParts part (length_boardPart0 ..) (Nat.le_of_ble_eq_true rfl)
    · exact s.finds_refused _
  · exact s.finds_lookupSingle index (s.finds_onePart part (length_runPart ..))
  · unfold State.lookupStation
    split
    · exact s.finds_twoParts part (Nat.le_of_ble_eq_true rfl) (Nat.le_of_ble_eq_true rfl)
    · exact s.finds_refused _
  · unfold State.lookupClip
    split
    · exact s.finds_onePart part (length_clipPart ..)
    · exact s.finds_refused _
  · unfold State.lookupCondition
    split
    · exact s.finds_onePart part (Nat.le_of_ble_eq_true rfl)
    · exact s.finds_refused _
  · unfold State.lookupSlot
    split
    · exact s.finds_twoParts part (length_slotPart0 ..) (length_slotPart1 ..)
    · exact s.finds_refused _
  · unfold State.lookupAxis
    split
    · exact s.finds_onePart part (length_axisPart ..)
    · exact s.finds_refused _
  · exact s.finds_lookupSingle index (s.finds_onePart part (Nat.le_of_ble_eq_true rfl))
  · exact s.finds_lookupSingle index (s.finds_twoParts part (length_headPart0 ..) (Nat.le_of_ble_eq_true rfl))
  · exact s.finds_lookupSingle index (s.finds_onePart part (Nat.le_of_ble_eq_true rfl))
  · unfold State.lookupAlarm
    split
    · exact s.finds_onePart part (length_alarmPart ..)
    · exact s.finds_refused _
  · unfold State.lookupSetting
    split
    · exact s.finds_onePart part (Nat.le_of_ble_eq_true rfl)
    · exact s.finds_refused _
  · exact s.finds_refused _

theorem State.lookup_otherKind (s : State) {kind : Nat} (h : 13 ≤ kind) (index part : Nat) :
    s.lookup kind index part = s.reply .refusedRange := by
  unfold State.lookup
  split <;> simp_all

theorem State.onePart_of_ne (s : State) {part : Nat} (h : part ≠ 0) (bytes : List Byte) :
    s.onePart part bytes = s.reply .refusedRange := by
  match part, h with
  | _ + 1, _ => rfl

theorem exec_lookup {s : State} (h : Taking s) (kind : Byte) (index : Half) (part : Byte) :
    exec (.lookup kind index part) s =
      .next (s.replied 1 (s.lookup kind.toNat index.toNat part.toNat).code
        (s.lookup kind.toNat index.toNat part.toNat).payload) := by
  rw [exec, execLookup, taken_taking h, State.state_lookup]

/-- The record that LOOKUP names does not exist (R203). -/
def LookupRefused (kind : Byte) (index : Half) (part : Byte) : Prop :=
  (kind = 0 ∧ 384 ≤ index.toNat) ∨ ((kind = 1 ∨ kind = 6) ∧ 2 ≤ index.toNat) ∨
    ((kind = 2 ∨ kind = 8 ∨ kind = 9 ∨ kind = 10) ∧ index.toNat ≠ 0) ∨
    (kind = 3 ∧ (index.toNat = 0 ∨ 72 < index.toNat)) ∨ (kind = 4 ∧ 80 < index.toNat) ∨
    (kind = 5 ∧ 199 < index.toNat) ∨ (kind = 7 ∧ 3 < index.toNat) ∨
    (kind = 11 ∧ 15 < index.toNat) ∨ (kind = 12 ∧ 94 < index.toNat) ∨
    ((kind = 2 ∨ kind = 4 ∨ kind = 5 ∨ kind = 7 ∨ kind = 8 ∨ kind = 10 ∨ kind = 11 ∨ kind = 12) ∧
      part ≠ 0) ∨ (kind ≠ 0 ∧ 2 ≤ part.toNat)

theorem parityOfCode_of_lt {n : Nat} (h : 2 ≤ n) : parityOfCode n = none := by
  match n, h with
  | _ + 2, _ => rfl

theorem parityOfCode_parityCode (p : Parity) : parityOfCode (parityCode p) = some p := by
  cases p <;> rfl

theorem itemOfNumber_isSome {n : Nat} (h : n ≤ 94) : (itemOfNumber n).isSome = true := by
  have hnumber := number_of_lt ⟨n, by omega⟩
  rw [← Option.isSome_map (f := SettingItem.number), hnumber]
  rfl

theorem axisOfCode_of_lt {n : Nat} (h : 3 < n) : axisOfCode n = none := by
  match n, h with
  | _ + 4, _ => rfl

theorem kindOfCode_of_lt {n : Nat} (h : 15 < n) : kindOfCode n = none := by
  match n, h with
  | _ + 16, _ => rfl

theorem State.station?_eq_none {s : State} (h : ShapeHolds s) {k : Nat} (hk : k = 0 ∨ 72 < k) :
    s.station? k = none := by
  obtain ⟨-, hstations, -, -⟩ := h
  unfold State.station?
  split
  · rfl
  · exact List.getElem?_eq_none (by omega)

theorem State.lookupSingle_of_ne (s : State) {index : Nat} (h : index ≠ 0) (a : Answer) :
    s.lookupSingle index a = s.reply .refusedRange := if_neg h

theorem State.lookupSingle_refused (s : State) (index : Nat) {a : Answer}
    (h : a = s.reply .refusedRange) : s.lookupSingle index a = s.reply .refusedRange := by
  unfold State.lookupSingle
  split
  · exact h
  · rfl

theorem State.lookup_refused {s : State} (hshape : ShapeHolds s) {kind : Byte} {index : Half} {part : Byte}
    (h : LookupRefused kind index part) :
    s.lookup kind.toNat index.toNat part.toNat = s.reply .refusedRange := by
  rcases h with ⟨rfl, hi⟩ | ⟨rfl | rfl, hi⟩ | ⟨rfl | rfl | rfl | rfl, hi⟩ | ⟨rfl, hi⟩ | ⟨rfl, hi⟩ |
    ⟨rfl, hi⟩ | ⟨rfl, hi⟩ | ⟨rfl, hi⟩ | ⟨rfl, hi⟩ | ⟨hkind, hp⟩ | ⟨hk, hp⟩
  · exact if_neg (Nat.not_lt.mpr hi)
  · change s.lookupBoard _ _ = _
    rw [State.lookupBoard, parityOfCode_of_lt hi]
  · change s.lookupSlot _ _ = _
    rw [State.lookupSlot, parityOfCode_of_lt hi]
  · exact s.lookupSingle_of_ne hi _
  · exact s.lookupSingle_of_ne hi _
  · exact s.lookupSingle_of_ne hi _
  · exact s.lookupSingle_of_ne hi _
  · change s.lookupStation _ _ = _
    rw [State.lookupStation, State.station?_eq_none hshape hi]
  · exact if_neg (Nat.not_lt.mpr hi)
  · exact if_neg (Nat.not_lt.mpr hi)
  · change s.lookupAxis _ _ = _
    rw [State.lookupAxis, axisOfCode_of_lt hi]
  · change s.lookupAlarm _ _ = _
    rw [State.lookupAlarm, kindOfCode_of_lt hi]
  · change s.lookupSetting _ _ = _
    rw [State.lookupSetting, itemOfNumber_of_lt hi]
  · have hone := s.onePart_of_ne fun h0 => hp (BitVec.eq_of_toNat_eq h0)
    rcases hkind with rfl | rfl | rfl | rfl | rfl | rfl | rfl | rfl
    · exact s.lookupSingle_refused _ (hone _)
    · change s.lookupClip _ _ = _
      unfold State.lookupClip
      split
      · exact hone _
      · rfl
    · change s.lookupCondition _ _ = _
      unfold State.lookupCondition
      split
      · exact hone _
      · rfl
    · change s.lookupAxis _ _ = _
      unfold State.lookupAxis
      split
      · exact hone _
      · rfl
    · exact s.lookupSingle_refused _ (hone _)
    · exact s.lookupSingle_refused _ (hone _)
    · change s.lookupAlarm _ _ = _
      unfold State.lookupAlarm
      split
      · exact hone _
      · rfl
    · change s.lookupSetting _ _ = _
      unfold State.lookupSetting
      split
      · exact hone _
      · rfl
  · have hkind : kind.toNat ≠ 0 := fun h0 => hk (BitVec.eq_of_toNat_eq h0)
    have hfinds := State.finds_lookup (s := s) (kind := kind.toNat) (index := index.toNat) part.toNat
      fun h0 => hkind h0.1
    rcases hfinds with ⟨-, -, hlt⟩ | ⟨hcode, hpayload⟩
    · omega
    · have hstate := s.state_lookup kind.toNat index.toNat part.toNat
      generalize s.lookup kind.toNat index.toNat part.toNat = a at *
      cases a
      simp_all [State.reply]

end Sys2Proof.Machine

open Sys2Proof Sys2Proof.Machine

/-- Settles O17: the answers by the record there is (`Answer.Finds`), and each part as it is sent. -/
theorem lookupReadsARecord : Obligations.LookupReadsARecord := by
  refine ⟨fun kind index part s h => ?_, ⟨fun index s r h hi hr => ?_, fun index s st h hst => ?_⟩,
    fun kind index part s h hshape hrefused => ?_, fun index s h =>
    ⟨fun r hi hr => ?_, fun p hp => ⟨?_, ?_, ?_, ?_⟩, fun st hst => ?_, fun hi => ?_, fun hi => ?_,
      fun a ha => ?_, fun hi => ⟨?_, ?_, ?_, ?_, ?_⟩, fun k hk => ?_, fun hi => ?_⟩⟩
  · refine ⟨_, _, exec_lookup h kind index part, ?_⟩
    have hzero : kind = 0 ↔ kind.toNat = 0 :=
      ⟨fun h0 => congrArg BitVec.toNat h0, fun h0 => BitVec.eq_of_toNat_eq h0⟩
    rw [hzero]
    by_cases hnone : kind.toNat = 0 ∧ index.toNat < 384 ∧ s.slot? index.toNat = none
    · obtain ⟨hk, hi, hs⟩ := hnone
      have hlookup : s.lookup kind.toNat index.toNat part.toNat = s.reply .noRecord := by
        rw [hk]
        exact (if_pos hi).trans (by rw [hs])
      rw [hlookup]
      exact ⟨.inr ⟨.inr rfl, rfl⟩, iff_of_true rfl ⟨hk, hi, hs⟩, fun h13 => by omega,
        fun _ => by simp [State.reply]⟩
    · have hother (h13 : 13 ≤ kind.toNat) := s.lookup_otherKind h13 index.toNat part.toNat
      rcases State.finds_lookup part.toNat hnone with ⟨hcode, hlen, hlt⟩ | ⟨hcode, hpayload⟩
      · exact ⟨.inl ⟨hcode, hlen⟩, iff_of_false (by simp [hcode]) hnone,
          fun h13 => by rw [hother h13]; rfl, fun h2 => by omega⟩
      · exact ⟨.inr ⟨.inl hcode, hpayload⟩, iff_of_false (by simp [hcode]) hnone, fun _ => hcode,
          fun _ => by simp [hcode]⟩
  · have hlookup : s.lookup (0 : Byte).toNat index.toNat (0 : Byte).toNat =
        { state := s, code := .ok, payload := fill (placementPart0 r) } :=
      (if_pos hi).trans (by rw [hr]; rfl)
    rw [exec_lookup h, hlookup]
    simp [placementPart0, fill, half, Placement.codeByte, bitAt]
  · have hlookup : s.lookup (3 : Byte).toNat index.toNat (0 : Byte).toNat =
        { state := s, code := .ok, payload := fill (stationPart0 st) } := by
      change s.lookupStation _ _ = _
      rw [State.lookupStation, hst]
      rfl
    rw [exec_lookup h, hlookup]
    simp [stationPart0, fill, half, bitAt]
  · rw [exec_lookup h, State.lookup_refused hshape hrefused]
    rfl
  · exact reads_of_lookup h (placementPart1 s.free r) (length_placementPart1 ..)
      ⟨_, _, StatusSlot.sent_statusBytes .., StatusSlot.sent_statusBytes .., rfl⟩
      ((if_pos hi).trans (by rw [hr]; rfl))
  · refine reads_of_lookup h _ (length_boardPart0 ..) (BoardRecord.sent_boardPart0 s.free _) ?_
    change s.lookupBoard _ _ = _
    rw [State.lookupBoard, hp, parityOfCode_parityCode]
    rfl
  · refine reads_of_lookup h (boardPart1 (s.board p)) (Nat.le_of_ble_eq_true rfl) rfl ?_
    change s.lookupBoard _ _ = _
    rw [State.lookupBoard, hp, parityOfCode_parityCode]
    rfl
  · refine reads_of_lookup h _ (length_slotPart0 ..) (MoveSlot.sent_slotPart0 s.free _ _) ?_
    change s.lookupSlot _ _ = _
    rw [State.lookupSlot, hp, parityOfCode_parityCode]
    rfl
  · refine reads_of_lookup h _ (length_slotPart1 ..) (MoveSlot.targetsSent_slotPart1 s.free _) ?_
    change s.lookupSlot _ _ = _
    rw [State.lookupSlot, hp, parityOfCode_parityCode]
    rfl
  · refine reads_of_lookup h (stationPart1 st) (Nat.le_of_ble_eq_true rfl)
      st.windowSent_stationPart1 ?_
    change s.lookupStation _ _ = _
    rw [State.lookupStation, hst]
    rfl
  · exact reads_of_lookup h _ (length_clipPart ..) (Clip.sent_clipPart s.free _)
      (if_pos (Nat.lt_succ_of_le hi))
  · exact reads_of_lookup h (conditionPart (s.condition index.toNat)) (Nat.le_of_ble_eq_true rfl) rfl
      (if_pos (Nat.lt_succ_of_le hi))
  · refine reads_of_lookup h _ (length_axisPart ..) (AxisRecord.sent_axisPart s.free _) ?_
    change s.lookupAxis _ _ = _
    rw [State.lookupAxis, ha, axisOfCode_axisCode]
    rfl
  · exact reads_of_lookup h _ (length_runPart ..) (runSent_runPart s.free s) (if_pos hi)
  · exact reads_of_lookup h (chainPart s.chain) (Nat.le_of_ble_eq_true rfl) s.chain.sent_chainPart
      (if_pos hi)
  · exact reads_of_lookup h _ (length_headPart0 ..) (Head.sent_headPart0 s.free _) (if_pos hi)
  · exact reads_of_lookup h (headPart1 s) (Nat.le_of_ble_eq_true rfl) (driveSent_headPart1 s) (if_pos hi)
  · exact reads_of_lookup h (machinePart s.free s) (Nat.le_of_ble_eq_true rfl)
      (machineSent_machinePart s.free s) (if_pos hi)
  · refine reads_of_lookup h _ (length_alarmPart ..) (AlarmRecord.sent_alarmPart s.free _) ?_
    change s.lookupAlarm _ _ = _
    rw [State.lookupAlarm, hk]
    rfl
  · have hitem := itemOfNumber_isSome hi
    obtain ⟨item, hitem⟩ := Option.isSome_iff_exists.mp hitem
    refine reads_of_lookup h (three (s.itemValue item)) (Nat.le_of_ble_eq_true rfl)
      ⟨_, itemHolds_itemValue hitem, rfl⟩ ?_
    change s.lookupSetting _ _ = _
    rw [State.lookupSetting, hitem]
    rfl
end

section
/-! PROOFS. The table and board exchange (R32 to R40): its beginning, its legs and its abandonment. -/

namespace Sys2Proof.Machine

/-! ## The boards on the table and the next to load (R32, R36) -/

theorem State.onTable_iff (s : State) (p : Parity) :
    s.onTable p = true ↔ s.isOpen p = true ∧ (s.board p).tableState ≠ .notLoaded := by
  simp [State.onTable]

theorem State.tableEmpty_iff (s : State) : s.tableEmpty = true ↔ ∀ p, s.onTable p = false := by
  simp only [State.tableEmpty, Bool.and_eq_true, Bool.not_eq_true']
  exact ⟨fun h p => by cases p; exacts [h.1, h.2], fun h => ⟨h _, h _⟩⟩

theorem State.noneActive_iff (s : State) :
    s.noneActive = true ↔ ∀ p, (s.moveSlot p).state ≠ .active := by
  simp only [State.noneActive, Bool.and_eq_true, decide_eq_true_eq]
  exact ⟨fun h p => by cases p; exacts [h.1, h.2], fun h => ⟨h _, h _⟩⟩

/-- The older of two open boards is not the younger. -/
theorem State.isOlder_asymm {s : State} {p q : Parity} (h : s.isOlder p q = true) : s.isOlder q p = false := by
  simp only [State.isOlder, Bool.and_eq_true, decide_eq_true_eq, Bool.and_eq_false_iff,
    decide_eq_false_iff_not] at h ⊢
  omega

theorem State.mem_boardsByAge (s : State) (p : Parity) : p ∈ s.boardsByAge ↔ s.isOpen p = true := by
  unfold State.boardsByAge State.openBoards
  split <;> cases p <;> simp

theorem State.nextToLoad_eq_none_iff (s : State) :
    s.nextToLoad = none ↔ ∀ p, s.isOpen p = true → (s.board p).tableState ≠ .notLoaded := by
  simp [State.nextToLoad, State.mem_boardsByAge]

theorem State.nextToLoad_of_some {s : State} {p : Parity} (h : s.nextToLoad = some p) :
    s.isOpen p = true ∧ (s.board p).tableState = .notLoaded :=
  ⟨(s.mem_boardsByAge p).mp (List.mem_of_find?_eq_some h), by
    simpa using List.find?_some h⟩

/-- The open board NOT_LOADED that no older one precedes (R36). -/
theorem State.nextToLoad_eq_some {s : State} {p : Parity} (ho : s.isOpen p = true)
    (hp : (s.board p).tableState = .notLoaded)
    (h : s.isOlder p (otherParity p) = true ∨ s.isOpen (otherParity p) = false ∨
      (s.board (otherParity p)).tableState ≠ .notLoaded) : s.nextToLoad = some p := by
  cases hnext : s.nextToLoad with
  | none => exact absurd hp ((s.nextToLoad_eq_none_iff).mp hnext p ho)
  | some q =>
    obtain ⟨hoq, hq⟩ := State.nextToLoad_of_some hnext
    rcases eq_or_eq_otherParity p q with rfl | rfl
    · rfl
    · have holder : s.isOlder p (otherParity p) = true := by
        rcases h with h | h | h
        · exact h
        · simp [hoq] at h
        · exact absurd hq h
      have hfirst : s.boardsByAge = [p, otherParity p] := by
        have hyounger := State.isOlder_asymm holder
        cases p <;> simp_all [State.boardsByAge, State.openBoards, otherParity]
      simp [State.nextToLoad, hfirst, hp] at hnext

theorem State.nextToLoad_isSome {s : State} {p : Parity} (ho : s.isOpen p = true)
    (hp : (s.board p).tableState = .notLoaded) : ∃ q, s.nextToLoad = some q := by
  cases hnext : s.nextToLoad with
  | none => exact absurd hp ((s.nextToLoad_eq_none_iff).mp hnext p ho)
  | some q => exact ⟨q, rfl⟩

/-! ## EXCHANGE_BEGIN (R33, R34) -/

theorem State.evalPhase_complete {s : State} {p : Parity} (h : (s.board p).phase = .complete) :
    s.evalPhase p = s := by
  simp only [State.evalPhase, h]

theorem State.completeOnTable_eq_some {s : State} {p : Parity} (hp : s.onTable p = true)
    (hc : (s.board p).phase = .complete) (hq : ∀ q, q ≠ p → s.onTable q = false) :
    s.completeOnTable = some p := by
  have hother := hq _ (otherParity_ne p)
  cases p <;> simp_all [State.completeOnTable, otherParity]

theorem State.completeOnTable_eq_none_iff (s : State) :
    s.completeOnTable = none ↔ ∀ p, s.onTable p = true → (s.board p).phase ≠ .complete := by
  have hmem (p : Parity) : p ∈ [Parity.even, Parity.odd] := by cases p <;> decide
  simp [State.completeOnTable, hmem]

/-- The legs that begin take the load-position targets (R34). -/
theorem State.newTarget_beginMove (s : State) (kind : ExchangeKind) (leaving : Option Leaving) (a : Axis) :
    NewTarget s (s.beginMove kind leaving) a (s.axisSettings a).loadPosition := by
  have h := State.newTarget_giveTargets
    { s with exchange := { s.exchange with leg := .move, kind := kind, leaving := leaving } } s.loadTargets a
  rw [loadTargets_get] at h
  exact h

theorem State.beginMove_eq (s : State) (kind : ExchangeKind) (leaving : Option Leaving) :
    s.beginMove kind leaving =
      { s with
        exchange := { s.exchange with leg := .move, kind := kind, leaving := leaving }
        axes := (s.beginMove kind leaving).axes } := rfl

theorem State.exchangeReady {s : State} (hrun : s.machine.state = .running ∨ s.machine.state = .draining)
    (hleg : s.exchange.leg = .idle) (hactive : ∀ p, (s.moveSlot p).state ≠ .active) :
    s.exchange.leg = .idle ∧ s.working = true ∧ s.noneActive = true :=
  ⟨hleg, (s.working_iff).mpr hrun, (s.noneActive_iff).mpr hactive⟩

theorem State.exchangeIfMay_unloads {s : State}
    (hrun : s.machine.state = .running ∨ s.machine.state = .draining)
    (hleg : s.exchange.leg = .idle) (hactive : ∀ p, (s.moveSlot p).state ≠ .active) {p : Parity}
    (hp : s.onTable p = true) (hc : (s.board p).phase = .complete) (hq : ∀ q, q ≠ p → s.onTable q = false) :
    s.exchangeIfMay =
      (s.putBoard p { s.board p with tableState := .unloading }).beginMove .unload
        (some { parity := p, number := (s.board p).number }) := by
  have hcomplete : ((s.putBoard p { s.board p with tableState := .unloading }).board p).phase =
      .complete := by simpa using hc
  rw [State.exchangeIfMay, if_pos (State.exchangeReady hrun hleg hactive), State.completeOnTable_eq_some hp hc hq]
  dsimp only
  rw [State.evalPhase_complete hcomplete]

theorem State.exchangeIfMay_emptyTable {s : State}
    (hrun : s.machine.state = .running ∨ s.machine.state = .draining)
    (hleg : s.exchange.leg = .idle) (hactive : ∀ p, (s.moveSlot p).state ≠ .active)
    (htable : ∀ p, s.onTable p = false)
    (hnext : s.inputs.levels.clamped = true ∨ ∃ p, s.isOpen p = true) :
    s.exchangeIfMay = s.beginMove (if s.inputs.levels.clamped = true then .unload else .load) none := by
  have hnone : s.completeOnTable = none :=
    (s.completeOnTable_eq_none_iff).mpr fun p hp => absurd hp (by simp [htable p])
  rw [State.exchangeIfMay, if_pos (State.exchangeReady hrun hleg hactive), hnone]
  dsimp only
  rw [if_pos ((s.tableEmpty_iff).mpr htable)]
  split
  · rfl
  next hclamped =>
    obtain ⟨p, hp⟩ := hnext.resolve_left hclamped
    have hload : (s.board p).tableState = .notLoaded := by
      by_contra hstate
      have hon := htable p
      rw [Bool.eq_false_iff, ne_eq, State.onTable_iff] at hon
      exact hon ⟨hp, hstate⟩
    obtain ⟨q, hq⟩ := State.nextToLoad_isSome hp hload
    rw [hq]
    rfl

/-- Where a condition of R33 fails, no exchange begins. -/
theorem State.exchangeIfMay_stays {s : State}
    (h : (s.machine.state ≠ .running ∧ s.machine.state ≠ .draining) ∨ s.exchange.leg ≠ .idle ∨
      (∃ p, (s.moveSlot p).state = .active) ∨ ¬ ExchangeCalled s) : s.exchangeIfMay = s := by
  unfold State.exchangeIfMay
  split
  next hmay =>
    obtain ⟨hleg, hwork, hactive⟩ := hmay
    rw [State.working_iff] at hwork
    rw [State.noneActive_iff] at hactive
    have hcalled : ¬ ExchangeCalled s := by
      rcases h with ⟨hr, hd⟩ | hl | ⟨p, hp⟩ | hc
      · exact absurd hwork (by simp [hr, hd])
      · exact absurd hleg hl
      · exact absurd hp (hactive p)
      · exact hc
    split
    next p hp =>
      have hfound := List.find?_some hp
      simp only [Bool.and_eq_true, decide_eq_true_eq] at hfound
      exact absurd (.inl ⟨p, hfound⟩) hcalled
    next =>
      split
      next hempty =>
        rw [State.tableEmpty_iff] at hempty
        split
        next hclamped => exact absurd (.inr ⟨hempty, .inl hclamped⟩) hcalled
        next =>
          split
          next hnext =>
            obtain ⟨p, hp⟩ := Option.isSome_iff_exists.mp hnext
            exact absurd (.inr ⟨hempty, .inr ⟨p, State.nextToLoad_of_some hp⟩⟩) hcalled
          next => rfl
      next => rfl
  next => rfl

theorem exec_exchangeBegin {s : State} (h : Live s) : exec .exchangeBegin s = .next s.exchangeIfMay :=
  event_live h State.exchangeIfMay

end Sys2Proof.Machine

open Sys2Proof Sys2Proof.Machine

/-- Settles O26: the three cases of R33, each with the move it begins. -/
theorem exchangeBeginStartsTheMove : Obligations.ExchangeBeginStartsTheMove := by
  refine ⟨fun s h hrun hleg hactive => ⟨fun p hp hc hq => ?_, fun htable hnext => ?_⟩, fun s h hstay => ?_⟩
  · rw [exec_exchangeBegin h, State.exchangeIfMay_unloads hrun hleg hactive hp hc hq]
    refine ⟨_, rfl, rfl, rfl, ?_, ?_, fun a => ?_⟩
    · exact (Pair.get_put ..).trans (if_pos rfl)
    · exact (Pair.get_put ..).trans (if_neg (otherParity_ne p))
    · exact State.newTarget_beginMove (s.putBoard p { s.board p with tableState := .unloading }) _ _ a
  · rw [exec_exchangeBegin h, State.exchangeIfMay_emptyTable hrun hleg hactive htable hnext]
    exact ⟨_, rfl, rfl, rfl, s.newTarget_beginMove _ none⟩
  · rw [exec_exchangeBegin h, State.exchangeIfMay_stays hstay]
end

section
/-! PROOFS. What a raising and the ends of PAUSING and DRAINING leave of the boards, the chain and the
exchange (R185, R187, R188, R194). -/

namespace Sys2Proof.Machine

/-! ## Raisings with their reactions (R192, R194) -/

theorem State.raised_raise_settle (s : State) (k : AlarmKind) (src : Option Source) :
    Raised s (s.raise k src).settle k src := by
  have halarms : (s.raise k src).settle.alarms = (s.raiseRecord k src).alarms := by
    simp [State.alarms_raise]
  exact raised_of_alarm (alarm_congr halarms k)

theorem KeepsPlaces.foldl {α : Type} {f : State → α → State} (h : ∀ s a, KeepsPlaces s (f s a))
    (l : List α) (s : State) : KeepsPlaces s (l.foldl f s) := by
  induction l generalizing s with
  | nil => exact .of_eq rfl
  | cons a l ih => exact (h s a).trans (ih (f s a))

theorem KeepsPlaces.haltFeeds (s : State) : KeepsPlaces s s.haltFeeds :=
  .foldl (fun s k => by
    unfold State.haltFeed
    split
    · exact .of_eq rfl
    · split
      · exact .of_eq rfl
      · exact .dropAt s k) stationNumbers s

theorem KeepsPlaces.interrupt (s : State) : KeepsPlaces s s.interrupt := by
  have hcut : KeepsPlaces s (s.putClip 80 ((s.clip 80).emptied .unknown)) := .of_eq rfl
  unfold State.interrupt
  split
  · dsimp only
    split
    · exact hcut
    · exact hcut.trans (.request ..)
  · exact .of_eq rfl

theorem KeepsPlaces.enterHalted (s : State) : KeepsPlaces s s.enterHalted := by
  unfold State.enterHalted State.haltBlocks State.haltHead
  generalize hv : ({ s with machine := { state := .halted, returnState := none } } : State) = v
  have hs : KeepsPlaces s v := .of_eq (by rw [← hv])
  exact ((hs.trans (.haltFeeds v)).trans (.of_eq (t := v.haltFeeds.haltIndex.haltExchange) (by simp))).trans
    ((KeepsPlaces.interrupt _).trans (.of_eq (by simp)))

theorem KeepsPlaces.react (s : State) (r : Reaction) : KeepsPlaces s (s.react r) := by
  cases r with
  | note => exact .of_eq rfl
  | pause => exact .of_eq (by simp [State.react])
  | halt =>
    change KeepsPlaces s s.haltIfMoving
    unfold State.haltIfMoving
    split
    · exact .enterHalted s
    · exact .of_eq rfl

theorem KeepsPlaces.raise (s : State) (k : AlarmKind) (src : Option Source) :
    KeepsPlaces s (s.raise k src) :=
  (KeepsPlaces.of_eq (t := s.raiseRecord k src) (by simp)).trans (.react ..)

theorem KeepsPlaces.settle (s : State) : KeepsPlaces s s.settle := .of_eq (by simp)

/-- No reaction takes up an exchange that is not in flight (R40). -/
theorem State.exchange_react_idle {s : State} (h : s.exchange.leg = .idle) (r : Reaction) :
    (s.react r).exchange = s.exchange := by
  cases r with
  | note => rfl
  | pause => simp [State.react]
  | halt =>
    change s.haltIfMoving.exchange = _
    unfold State.haltIfMoving
    split
    · rw [State.exchange_enterHalted, if_pos h]
    · rfl

/-- The outputs of the exchange stand at a reaction while none is in flight (R40). -/
theorem State.outputs_react_idle {s : State} (h : s.exchange.leg = .idle) (r : Reaction) :
    (s.react r).outputs.transferReq = s.outputs.transferReq ∧
      (s.react r).outputs.clamp = s.outputs.clamp := by
  cases r with
  | note => exact ⟨rfl, rfl⟩
  | pause => simp [State.react]
  | halt =>
    change s.haltIfMoving.outputs.transferReq = _ ∧ s.haltIfMoving.outputs.clamp = _
    unfold State.haltIfMoving
    split
    · rw [State.outputs_enterHalted, if_pos h]; exact ⟨rfl, rfl⟩
    · exact ⟨rfl, rfl⟩

/-! ## The ends of PAUSING and DRAINING (R185, R187) -/

theorem State.chain_settle (s : State) :
    s.settle.chain = { s.chain with indexState := s.settle.chain.indexState } := by
  unfold State.settle State.drainEnd
  split
  · unfold State.endDraining State.pausingQuiet; split <;> rfl
  · unfold State.pausingQuiet; split <;> rfl

/-- In PAUSING and PAUSED the ends change the machine state alone (R185). -/
theorem State.settle_of_pausing {s : State} (h : s.pausing = true) :
    s.settle = { s with machine := { s.machine with state := s.settle.machine.state } } := by
  rw [State.pausing_iff] at h
  have hdraining : s.pausingQuiet.machine.state ≠ .draining := by
    unfold State.pausingQuiet
    split
    · simp
    · rcases h with h | h <;> simp [h]
  have hsettle : s.settle = s.pausingQuiet := if_neg fun hd => hdraining hd.1
  rw [hsettle]
  unfold State.pausingQuiet
  split <;> rfl

/-- While an exchange is in flight only PAUSING may end (R187). -/
theorem State.settle_of_exchange {s : State} (h : s.machine.state ≠ .pausing)
    (he : s.exchange.leg ≠ .idle) : s.settle = s :=
  s.settle_of_settled ⟨fun hp => h hp.1, fun hd => by
    have hout := hd.2
    simp [State.drainedOut, State.exchangeInFlight, he] at hout⟩

end Sys2Proof.Machine
end

section
/-! PROOFS. The lines and timers of the exchange: CLAMPED, BOARD_PRESENT, TRANSFER_DONE and the timeouts
(R35 to R39). -/

namespace Sys2Proof.Machine

/-! ## The exchange timers (R37) -/

/-- What the abandonment leaves before its reaction. -/
def State.abandoned (s : State) : State :=
  { s with
    exchange :=
      { s.exchange with
        leg := .idle, leaving := none, incoming := none, transferTimer := none, clampTimer := none }
    outputs := { s.outputs with transferReq := false, clamp := false } }

theorem State.abandonExchange_eq (s : State) :
    s.abandonExchange = (s.abandoned.raise .boardTransfer s.abandonSource).settle := rfl

theorem State.exchange_abandonExchange (s : State) : s.abandonExchange.exchange = s.abandoned.exchange := by
  rw [State.abandonExchange_eq, State.raise]
  simp [State.exchange_react_idle (s := s.abandoned.raiseRecord .boardTransfer s.abandonSource)
    (by simp [State.abandoned])]

theorem State.outputs_abandonExchange (s : State) :
    s.abandonExchange.outputs.transferReq = false ∧ s.abandonExchange.outputs.clamp = false := by
  have h := State.outputs_react_idle (s := s.abandoned.raiseRecord .boardTransfer s.abandonSource)
    (by simp [State.abandoned]) (s.abandoned.alarm .boardTransfer).reaction
  rw [State.abandonExchange_eq, State.raise]
  simpa [State.abandoned] using h

theorem State.raised_abandonExchange (s : State) :
    Raised s s.abandonExchange .boardTransfer s.abandonSource :=
  raised_congr (s := s.abandoned) rfl rfl (State.raised_raise_settle ..)

theorem State.abandonSource_leaving {s : State} {l : Leaving} (h : s.exchange.leaving = some l) :
    s.abandonSource = some (.board l.number) := by simp only [State.abandonSource, h]

theorem State.abandonSource_next {s : State} (h : s.exchange.leaving = none) :
    s.abandonSource = s.nextToLoad.map fun p => .board (s.board p).number := by
  simp only [State.abandonSource, h]

theorem exec_transferTimeout {s : State} (h : Live s) :
    exec .transferTimeout s = .next (if s.exchange.transferTimer.isSome then s.abandonExchange else s) :=
  event_live h fun s => if s.exchange.transferTimer.isSome then s.abandonExchange else s

theorem exec_clampTimeout {s : State} (h : Live s) :
    exec .clampTimeout s = .next (if s.exchange.clampTimer.isSome then s.abandonExchange else s) :=
  event_live h fun s => if s.exchange.clampTimer.isSome then s.abandonExchange else s

/-! ## Boards that no computation reaches (R133) -/

theorem State.board_request_ne (s : State) (n : Nat) {p q : Parity} (h : q ≠ p)
    (f : StatusSlot → StatusSlot) (rep : Report) : (s.request n p f rep).board q = s.board q := by
  rcases s.request_cases n p f rep with hsame | ⟨r, hr, ho, hc⟩
  · rw [hsame]
  · obtain rfl := (eq_or_eq_otherParity p q).resolve_left h
    exact (s.board_request hr ho hc f rep).2

/-- The computation of a slot reports to the aligned board of its job alone (R132). -/
theorem State.board_computeSlot {s : State} {q : Parity}
    (h : ¬ (s.isOpen q = true ∧ (s.board q).tableState = .aligned)) (p : Parity) :
    (s.computeSlot p).board q = s.board q := by
  unfold State.computeSlot
  split
  next pos j _ _ _ =>
    split
    next haligned =>
      split
      · rfl
      · have hj : q ≠ parityOf j.board := by
          rintro rfl
          simp only [State.isAligned, State.isOpenNumber, Bool.and_eq_true, decide_eq_true_eq] at haligned
          exact h ⟨haligned.1.1, haligned.2⟩
        exact State.board_request_ne _ j.placement hj _ _
    next => rfl
  next => rfl

theorem State.board_computeAwaiting {s : State} {q : Parity}
    (h : ¬ (s.isOpen q = true ∧ (s.board q).tableState = .aligned)) :
    s.computeAwaiting.board q = s.board q := by
  have heven := State.board_computeSlot h .even
  have hodd := State.board_computeSlot (s := s.computeSlot .even) (q := q)
    (by rwa [(s.computeSlot_keeps .even).isOpen, heven]) .odd
  exact hodd.trans heven

/-- The end of CLAMPING leaves a board that is not the incoming one, and not aligned. -/
theorem State.board_clampingEnds_ne {s : State} {q : Parity} (hq : s.exchange.incoming ≠ some q)
    (h : ¬ (s.isOpen q = true ∧ (s.board q).tableState = .aligned)) :
    s.clampingEnds.board q = s.board q := by
  unfold State.clampingEnds
  dsimp only
  split
  · rfl
  next p hp =>
    have hne : q ≠ p := fun hqp => hq (hqp ▸ hp)
    have hboard (e : Exchange) (b : BoardRecord) :
        (State.putBoard { s with exchange := e } p b).board q = s.board q :=
      (Pair.get_put ..).trans (if_neg hne)
    rw [State.board_evalPhase_ne _ hne, State.board_computeAwaiting, hboard]
    rwa [State.isOpen, hboard]

/-! ## CLAMPED and BOARD_PRESENT (R36, R38, R39) -/

theorem exec_clampedRise {s : State} (h : Live s) : exec .clampedRise s = .next s.clampedRise :=
  event_live h State.clampedRise

theorem exec_clampedFall {s : State} (h : Live s) : exec .clampedFall s = .next s.clampedFall :=
  event_live h State.clampedFall

theorem exec_boardPresentRise {s : State} (h : Live s) :
    exec .boardPresentRise s = .next s.presentRise :=
  event_live h State.presentRise

theorem AxisRecord.settledIn_congr {s u t : State} (h : u.machine.state = s.machine.state) (r : AxisRecord) :
    r.settledIn u t = r.settledIn s t := by
  simp only [AxisRecord.settledIn, h]

/-- The machine state after an event that kept it up to the ends of PAUSING and DRAINING. -/
theorem State.settledIn_settle_of {s u : State} (h : u.machine.state = s.machine.state) :
    u.settle.machine.state = s.machine.state.settledIn u.settle := by
  rw [← h]
  exact u.settledIn_settle

theorem State.axis_settle_of {s u : State} (hm : u.machine.state = s.machine.state) {a : Axis}
    (ha : u.axis a = s.axis a) : u.settle.axis a = (s.axis a).settledIn s u.settle := by
  rw [u.axis_settle, ha, AxisRecord.settledIn_congr hm]

theorem State.chain_settle_of {s u : State} (h : u.chain = s.chain) :
    u.settle.chain = { s.chain with indexState := u.settle.chain.indexState } := by
  rw [← h]
  exact u.chain_settle

@[simp] theorem State.board_settle (s : State) (p : Parity) : s.settle.board p = s.board p :=
  board_congr (by simp) p

theorem State.ne_pausing {s : State} (h : s.pausing = false) : s.machine.state ≠ .pausing := fun hp => by
  simp [State.pausing, hp] at h

theorem State.clampedBoard_eq_some {s : State} {p : Parity} (ho : s.isOpen p = true)
    (hp : (s.board p).tableState = .awaitingAlign ∨ (s.board p).tableState = .aligned)
    (hq : ∀ q, q ≠ p → s.onTable q = false) : s.clampedBoard = some (s.board p).number := by
  have hother := hq _ (otherParity_ne p)
  rw [Bool.eq_false_iff, ne_eq, State.onTable_iff, not_and, not_not] at hother
  cases p with
  | even => simp [State.clampedBoard, ho, hp]
  | odd =>
    have heven : s.isOpen .even = false ∨ (s.board .even).tableState = .notLoaded := by
      simpa [otherParity, or_iff_not_imp_left] using hother
    rcases heven with heven | heven <;> simp [State.clampedBoard, heven, ho, hp]

theorem State.clampedBoard_eq_none {s : State}
    (h : ∀ p, s.isOpen p = false ∨
      ((s.board p).tableState ≠ .awaitingAlign ∧ (s.board p).tableState ≠ .aligned)) :
    s.clampedBoard = none := by
  have heven := h .even
  have hodd := h .odd
  simp only [State.clampedBoard, Option.map_eq_none_iff, List.find?_eq_none]
  intro p _
  rcases h p with hp | ⟨ha, hb⟩
  · simp [hp]
  · simp [ha, hb]

end Sys2Proof.Machine

open Sys2Proof Sys2Proof.Machine

/-- Settles O29: the abandonment raises BOARD_TRANSFER, whose reaction finds no exchange in flight. -/
theorem timersAbandonTheExchange : Obligations.TimersAbandonTheExchange := by
  intro s h
  refine ⟨fun c hc => ?_, fun hnone => ?_, fun hnone => ?_⟩
  · have hexec : exec c s = .next s.abandonExchange := by
      rcases hc with ⟨rfl, ht⟩ | ⟨rfl, ht⟩
      · rw [exec_transferTimeout h, if_pos ht]
      · rw [exec_clampTimeout h, if_pos ht]
    obtain ⟨hreq, hclamp⟩ := s.outputs_abandonExchange
    have hraised := s.raised_abandonExchange
    have habandoned : KeepsPlaces s s.abandoned := .of_eq rfl
    have hplaces : KeepsPlaces s s.abandonExchange :=
      (habandoned.trans (KeepsPlaces.raise s.abandoned .boardTransfer s.abandonSource)).trans (.settle _)
    refine ⟨_, hexec, hreq, hclamp, ?_, ?_, ?_, ?_, ?_, fun l hl => ?_, fun p hl ho hp hother => ?_,
      fun hl hload => ?_, s.abandoned.machine_raise_settle _ _, hplaces.tableState⟩
    · rw [State.exchange_abandonExchange]; rfl
    · rw [State.exchange_abandonExchange]; rfl
    · rw [State.exchange_abandonExchange]; rfl
    · rw [State.exchange_abandonExchange]; rfl
    · rw [State.exchange_abandonExchange]; rfl
    · rwa [State.abandonSource_leaving hl] at hraised
    · rwa [State.abandonSource_next hl, State.nextToLoad_eq_some ho hp hother] at hraised
    · rwa [State.abandonSource_next hl, (s.nextToLoad_eq_none_iff).mpr hload] at hraised
  · simp [exec_transferTimeout h, hnone]
  · simp [exec_clampTimeout h, hnone]

/-- Settles O28: the edges of BOARD_PRESENT and CLAMPED by the leg they find. -/
theorem clampedLineLoadsAndWatchesTheBoard : Obligations.ClampedLineLoadsAndWatchesTheBoard := by
  refine ⟨⟨fun s p h hleg hwait hp => ?_, fun s h hleg hwait hpausing hlow => ?_,
    fun s h hleg hwait hpausing => ?_, fun s h hleg hwait hpausing hhigh => ?_, fun s h hother => ?_,
    fun s h hother => ?_⟩, fun s p h hleg ho hp hq => ?_, fun s h hother => ?_⟩
  · have hrise : s.clampedRise = (s.setClamped true).clampingEnds.settle := if_pos ⟨hleg, hwait⟩
    obtain ⟨htable, hcorrection, hnumber⟩ := State.board_clampingEnds (s := s.setClamped true) hp
    rw [exec_clampedRise h, hrise]
    refine ⟨_, rfl, by simp [State.setClamped], ?_, ?_, ?_, ?_, State.settledIn_settle_of (by simp [State.setClamped]),
      by simp [State.setClamped], by simp [State.setClamped],
      fun a => State.axis_settle_of (by simp [State.setClamped]) (by simp [State.axis, State.setClamped]),
      by simp [State.setClamped], by simp [State.setClamped],
      State.chain_settle_of (by simp [State.setClamped])⟩
    · simp [State.exchange_clampingEnds, State.setClamped]
    · rw [State.board_settle]; exact htable
    · rw [State.board_settle]; exact hcorrection
    · rw [State.board_settle]; exact hnumber
  · have hrise : s.presentRise = s.clamping := by
      rw [State.presentRise, if_pos ⟨hleg, hwait⟩, State.clampNext, hpausing, if_neg (by simp),
        State.beginClamping_unclamped hlow]
      exact s.clamping.settle_of_exchange (State.ne_pausing hpausing) (by simp [State.clamping])
    rw [exec_boardPresentRise h, hrise, State.clamping, ← hwait]
  · have hrise : s.presentRise = (s.waitWith .clamping).settle := by
      rw [State.presentRise, if_pos ⟨hleg, hwait⟩, State.clampNext, if_pos hpausing]
    rw [exec_boardPresentRise h, hrise]
    exact ⟨_, rfl, State.settle_of_pausing (s := s.waitWith .clamping) hpausing,
      State.settledIn_settle_of rfl⟩
  · have hrise : s.presentRise = s.clamping.clampingEnds.settle := by
      rw [State.presentRise, if_pos ⟨hleg, hwait⟩, State.clampNext, hpausing, if_neg (by simp),
        State.beginClamping_clamped hhigh]
    rw [exec_boardPresentRise h, hrise]
    refine ⟨_, rfl, by simp [State.clamping], ?_, by simp [State.clamping], fun p hp => ?_,
      State.settledIn_settle_of (by simp [State.clamping]), by simp [State.clamping],
      fun a => State.axis_settle_of (by simp [State.clamping]) (by simp [State.axis, State.clamping]),
      by simp [State.clamping], by simp [State.clamping], State.chain_settle_of (by simp [State.clamping])⟩
    · simp [State.exchange_clampingEnds, State.clamping, hwait]
    · obtain ⟨htable, hcorrection, hnumber⟩ := State.board_clampingEnds (s := s.clamping) hp
      simp only [State.board_settle]
      refine ⟨htable, hcorrection, hnumber, fun hempty => ?_⟩
      have hother : s.clamping.clampingEnds.board (otherParity p) = s.board (otherParity p) := by
        refine State.board_clampingEnds_ne (s := s.clamping) ?_ fun hon => ?_
        · change s.nextToLoad ≠ _
          rw [hp]
          exact fun he => otherParity_ne p (Option.some.inj he).symm
        · have hnot := hempty (otherParity p)
          rw [Bool.eq_false_iff, ne_eq, State.onTable_iff] at hnot
          exact hnot ⟨hon.1, fun hload => nomatch hload.symm.trans hon.2⟩
      exact hother
  · rw [exec_boardPresentRise h, State.presentRise, if_neg]
    exact fun hboth => hother.elim (· hboth.1) fun hw => by simp [hboth.2] at hw
  · rw [exec_clampedRise h, State.clampedRise, if_neg]
    · rfl
    · exact fun hboth => hother.elim (· hboth.1) fun hw => by simp [hboth.2] at hw
  · have hfall : s.clampedFall =
        ((s.setClamped false).raise .boardTransfer (some (.board (s.board p).number))).settle := by
      rw [State.clampedFall, if_pos hleg, State.clampedBoard_eq_some ho hp hq]
    have hplaces : KeepsPlaces (s.setClamped false) s.clampedFall := by
      rw [hfall]
      exact (KeepsPlaces.raise ..).trans (.settle _)
    have hraised := (s.setClamped false).raised_raise_settle .boardTransfer (some (.board (s.board p).number))
    have hmachine :=
      (s.setClamped false).machine_raise_settle .boardTransfer (some (.board (s.board p).number))
    rw [← hfall] at hraised hmachine
    rw [exec_clampedFall h]
    refine ⟨_, rfl, ?_, raised_congr rfl rfl hraised, hmachine, hplaces.tableState p, hplaces.correction p⟩
    rw [hfall]
    simp [State.setClamped]
  · rw [exec_clampedFall h, State.clampedFall]
    rcases hother with ⟨hidle, hclamping⟩ | hnone
    · rw [if_neg]
      · rfl
      · rintro (hleg | ⟨hleg, hwait⟩)
        · exact hidle hleg
        · exact hclamping.elim (· hleg) fun hw => by simp [hwait] at hw
    · rw [State.clampedBoard_eq_none hnone]
      split <;> rfl
end

section
/-! PROOFS. TRANSFER_DONE: the leaving board is freed, a board may open, and the exchange ends, waits or
goes on to CLAMPING (R35, R36, R39). -/

namespace Sys2Proof.Machine

/-! ## The end of TRANSFER (R35, steps 1 and 2) -/

theorem exec_transferDone {s : State} (h : Live s) (present openFirst : Bool) :
    exec (.transferDone present openFirst) s = .next (s.transferDone present openFirst) :=
  event_live h fun s => s.transferDone present openFirst

theorem State.exchange_transferEnds (s : State) :
    s.transferEnds.exchange = { s.exchange with transferTimer := none } := by
  unfold State.transferEnds
  dsimp only
  split <;> rfl

theorem State.outputs_transferEnds (s : State) :
    s.transferEnds.outputs = { s.outputs with transferReq := false } := by
  unfold State.transferEnds
  dsimp only
  split <;> rfl

theorem State.board_transferEnds_leaving {s : State} {l : Leaving} (h : s.exchange.leaving = some l) :
    s.transferEnds.board l.parity = { s.board l.parity with phase := .free, tableState := .notLoaded } := by
  simp only [State.transferEnds, h]
  exact (Pair.get_put ..).trans (if_pos rfl)

theorem State.board_transferEnds_ne {s : State} {p : Parity}
    (h : ∀ l, s.exchange.leaving = some l → l.parity ≠ p) : s.transferEnds.board p = s.board p := by
  cases hl : s.exchange.leaving with
  | none => simp only [State.transferEnds, hl]; rfl
  | some l =>
    simp only [State.transferEnds, hl]
    exact (Pair.get_put ..).trans (if_neg (h l hl).symm)

/-- The state after the opening that step 2 of R35 may allow (log 3). -/
def State.reopened (s : State) (openFirst : Bool) : State :=
  if openFirst then s.transferEnds.openIfMay else s.transferEnds

theorem State.reopened_true (s : State) : s.reopened true = s.transferEnds.openIfMay := rfl

theorem State.reopened_false (s : State) : s.reopened false = s.transferEnds := rfl

theorem State.reopened_frame (s : State) (openFirst : Bool) :
    (s.reopened openFirst).exchange = { s.exchange with transferTimer := none } ∧
      (s.reopened openFirst).outputs = { s.outputs with transferReq := false } ∧
      (s.reopened openFirst).machine = s.machine ∧ (s.reopened openFirst).stations = s.stations ∧
      (s.reopened openFirst).alarms = s.alarms ∧ (s.reopened openFirst).head = s.head ∧
      (s.reopened openFirst).chain = s.chain ∧ (s.reopened openFirst).inputs = s.inputs ∧
      (s.reopened openFirst).settings = s.settings := by
  cases openFirst <;>
    simp [State.reopened_true, State.reopened_false, State.exchange_transferEnds, State.outputs_transferEnds]

theorem State.transferDone_eq {s : State} (hleg : s.exchange.leg = .transfer)
    (hreq : s.outputs.transferReq = true) (present openFirst : Bool) :
    s.transferDone present openFirst = ((s.reopened openFirst).afterTransfer present).settle :=
  if_pos ⟨hleg, hreq⟩

theorem State.transferDone_ignored {s : State} (hreq : s.outputs.transferReq = false)
    (present openFirst : Bool) : s.transferDone present openFirst = s :=
  if_neg fun h => by simp [hreq] at h

/-- An opening finds a FREE record (R26), so it leaves every open board. -/
theorem State.board_openIfMay_of_open {s : State} {p : Parity} (h : s.isOpen p = true) :
    s.openIfMay.board p = s.board p := by
  unfold State.openIfMay
  split
  next hmay =>
    have hclosed := ((State.mayOpen_iff rfl).mp hmay).2.1
    exact State.board_openBoard_ne rfl fun hp => by simp [← hp, h] at hclosed
  next => rfl

theorem State.openIfMay_of_not_running {s : State} (h : s.machine.state ≠ .running) : s.openIfMay = s :=
  if_neg fun hmay => h ((State.mayOpen_iff rfl).mp hmay).1

/-- A board that is open and does not leave stands through the end of TRANSFER and an opening. -/
theorem State.board_reopened {s : State} {p : Parity}
    (hl : ∀ l, s.exchange.leaving = some l → l.parity ≠ p) (ho : s.isOpen p = true) (openFirst : Bool) :
    (s.reopened openFirst).board p = s.board p := by
  have hends := State.board_transferEnds_ne hl
  cases openFirst with
  | false => exact hends
  | true =>
    refine (State.board_openIfMay_of_open ?_).trans hends
    rwa [State.isOpen, hends]

/-! ## What follows the end of TRANSFER (R35, steps 3 to 5) -/

theorem State.afterTransfer_ends {s : State} (h : s.nextToLoad = none) (present : Bool) :
    s.afterTransfer present =
      { s with exchange := { s.exchange with leg := .idle, leaving := none, incoming := none } } := by
  simp only [State.afterTransfer, h]

theorem State.afterTransfer_absent {s : State} {p : Parity} (h : s.nextToLoad = some p) :
    s.afterTransfer false =
      { s with exchange := { s.exchange with leg := .presentWait, waiting := s.pausing } } := by
  simp [State.afterTransfer, h]

theorem State.afterTransfer_paused {s : State} {p : Parity} (h : s.nextToLoad = some p)
    (hp : s.pausing = true) : s.afterTransfer true = s.waitWith .clamping := by
  simp [State.afterTransfer, h, State.clampNext, hp]

theorem State.afterTransfer_clamps {s : State} {p : Parity} (h : s.nextToLoad = some p)
    (hp : s.pausing = false) : s.afterTransfer true = s.beginClamping := by
  simp [State.afterTransfer, h, State.clampNext, hp]

/-- Only a clamp that is closed already reaches the table and the boards here (R36). -/
theorem State.afterTransfer_cases (s : State) (present : Bool) :
    ((s.afterTransfer present).table = s.table ∧ (s.afterTransfer present).boards = s.boards) ∨
      s.afterTransfer present = s.clamping.clampingEnds := by
  cases hnext : s.nextToLoad with
  | none => rw [State.afterTransfer_ends hnext]; exact .inl ⟨rfl, rfl⟩
  | some p =>
    cases present with
    | false => rw [State.afterTransfer_absent hnext]; exact .inl ⟨rfl, rfl⟩
    | true =>
      cases hp : s.pausing with
      | true => rw [State.afterTransfer_paused hnext hp]; exact .inl ⟨rfl, rfl⟩
      | false =>
        rw [State.afterTransfer_clamps hnext hp]
        cases hc : s.inputs.levels.clamped with
        | false => rw [State.beginClamping_unclamped hc]; exact .inl ⟨rfl, rfl⟩
        | true => exact .inr (State.beginClamping_clamped hc)

theorem State.afterTransfer_false (s : State) : ∃ e : Exchange, s.afterTransfer false = { s with exchange := e } := by
  cases hnext : s.nextToLoad with
  | none => exact ⟨_, State.afterTransfer_ends hnext false⟩
  | some p => exact ⟨_, State.afterTransfer_absent hnext⟩

/-- CLAMPING begins and stays in flight while CLAMPED is false. -/
theorem State.afterTransfer_settle_unclamped {s : State} {p : Parity} (h : s.nextToLoad = some p)
    (hp : s.pausing = false) (hc : s.inputs.levels.clamped = false) :
    (s.afterTransfer true).settle = s.clamping := by
  rw [State.afterTransfer_clamps h hp, State.beginClamping_unclamped hc]
  exact s.clamping.settle_of_exchange (State.ne_pausing hp) (by simp [State.clamping])

theorem State.request_afterTransfer (s : State) (present : Bool) :
    (s.afterTransfer present).outputs.transferReq = s.outputs.transferReq ∧
      (s.afterTransfer present).exchange.transferTimer = s.exchange.transferTimer := by
  unfold State.afterTransfer State.clampNext
  split
  · exact ⟨rfl, rfl⟩
  · split
    · split
      · exact ⟨rfl, rfl⟩
      · rw [State.outputs_beginClamping]
        cases hc : s.inputs.levels.clamped with
        | false => rw [State.beginClamping_unclamped hc]; exact ⟨rfl, rfl⟩
        | true => rw [State.beginClamping_clamped hc, State.exchange_clampingEnds]; exact ⟨rfl, rfl⟩
    · exact ⟨rfl, rfl⟩

theorem State.settledMachine_afterTransfer (s : State) (present : Bool) :
    (s.afterTransfer present).settle.machine.state =
      s.machine.state.settledIn (s.afterTransfer present).settle :=
  State.settledIn_settle_of (by simp)

/-- A FREE board stays as it is: CLAMPING names an open board. -/
theorem State.board_afterTransfer_of_free {s : State} {p : Parity} (h : s.isOpen p = false) (present : Bool) :
    (s.afterTransfer present).board p = s.board p := by
  rcases s.afterTransfer_cases present with ⟨_, hboards⟩ | hclamped
  · exact board_congr hboards p
  · rw [hclamped]
    refine State.board_clampingEnds_ne (s := s.clamping) (fun hp => ?_) fun hon => ?_
    · exact Bool.eq_false_iff.mp h (State.nextToLoad_of_some hp).1
    · exact Bool.eq_false_iff.mp h hon.1

/-! ## The board that an exchange loads next (R35) -/

/-- The leaving board's record is FREE after TRANSFER, so that it is not loaded. -/
theorem State.isOpen_transferEnds_leaving {s : State} {l : Leaving} (h : s.exchange.leaving = some l) :
    s.transferEnds.isOpen l.parity = false := by
  simp [State.isOpen, State.board_transferEnds_leaving h]

/-- A board is the leaving one, or it stands through the end of TRANSFER. -/
theorem State.leaving_or_board_transferEnds (s : State) (p : Parity) :
    (∃ l, s.exchange.leaving = some l ∧ l.parity = p) ∨
      ((∀ l, s.exchange.leaving = some l → l.parity ≠ p) ∧ s.transferEnds.board p = s.board p) := by
  by_cases h : ∃ l, s.exchange.leaving = some l ∧ l.parity = p
  · exact .inl h
  · have hl : ∀ l, s.exchange.leaving = some l → l.parity ≠ p := fun l hl hp => h ⟨l, hl, hp⟩
    exact .inr ⟨hl, State.board_transferEnds_ne hl⟩

theorem State.nextToLoad_transferEnds {s : State}
    (h : ∀ p, (∀ l, s.exchange.leaving = some l → l.parity ≠ p) →
      s.isOpen p = true → (s.board p).tableState ≠ .notLoaded) : s.transferEnds.nextToLoad = none := by
  rw [State.nextToLoad_eq_none_iff]
  intro p ho
  rcases s.leaving_or_board_transferEnds p with ⟨l, hl, rfl⟩ | ⟨hl, hboard⟩
  · simp [State.isOpen_transferEnds_leaving hl] at ho
  · rw [hboard]
    exact h p hl (by rwa [State.isOpen, hboard] at ho)

theorem State.nextToLoad_reopened {s : State} {p : Parity}
    (hl : ∀ l, s.exchange.leaving = some l → l.parity ≠ p) (ho : s.isOpen p = true)
    (hp : (s.board p).tableState = .notLoaded) (openFirst : Bool) :
    ∃ q, (s.reopened openFirst).nextToLoad = some q := by
  have hboard := State.board_reopened hl ho openFirst
  refine State.nextToLoad_isSome (p := p) ?_ (by rw [hboard, hp])
  rwa [State.isOpen, hboard]

theorem State.nextToLoad_transferEnds_eq_some {s : State} {p : Parity}
    (hl : ∀ l, s.exchange.leaving = some l → l.parity ≠ p) (ho : s.isOpen p = true)
    (hp : (s.board p).tableState = .notLoaded)
    (hother : (∃ l, s.exchange.leaving = some l ∧ l.parity = otherParity p) ∨
      s.isOpen (otherParity p) = false ∨ (s.board (otherParity p)).tableState ≠ .notLoaded ∨
      s.isOlder p (otherParity p) = true) : s.transferEnds.nextToLoad = some p := by
  have hboard := State.board_transferEnds_ne hl
  have hopen : s.transferEnds.isOpen p = s.isOpen p := by rw [State.isOpen, hboard, State.isOpen]
  refine State.nextToLoad_eq_some (hopen.trans ho) (by rw [hboard, hp]) ?_
  rcases s.leaving_or_board_transferEnds (otherParity p) with ⟨l, hl', hparity⟩ | ⟨hstays, hsame⟩
  · exact .inr (.inl (hparity ▸ State.isOpen_transferEnds_leaving hl'))
  · have hopen' : s.transferEnds.isOpen (otherParity p) = s.isOpen (otherParity p) := by
      rw [State.isOpen, hsame, State.isOpen]
    rcases hother with ⟨l, hl', hparity⟩ | hclosed | hloaded | holder
    · exact absurd hparity (hstays l hl')
    · exact .inr (.inl (hopen'.trans hclosed))
    · exact .inr (.inr (by rwa [hsame]))
    · refine .inl ?_
      simpa only [State.isOlder, hopen, hopen', hboard, hsame] using holder

/-! ## Status slots that no computation changes (R11, R12) -/

/-- Every status slot that is not CALLED stands. -/
def KeepsUncalled (s t : State) : Prop :=
  ∀ (n : Nat) (p : Parity) (u : StatusSlot),
    s.statusOf n p = some u → u.state ≠ .called → t.statusOf n p = some u

theorem KeepsUncalled.of_eq {s t : State} (h : t.table = s.table) : KeepsUncalled s t :=
  fun n p _ hu _ => (statusOf_congr h n p).trans hu

theorem KeepsUncalled.trans {s t u : State} (h : KeepsUncalled s t) (h' : KeepsUncalled t u) :
    KeepsUncalled s u :=
  fun n p v hv hc => h' n p v (h n p v hv hc) hc

theorem KeepsUncalled.request (s : State) (n : Nat) (p : Parity) (f : StatusSlot → StatusSlot) (rep : Report) :
    KeepsUncalled s (s.request n p f rep) :=
  fun _ _ _ hu hc => State.statusOf_request_of_ne_called hu hc n p f rep

theorem KeepsUncalled.computeSlot (s : State) (p : Parity) : KeepsUncalled s (s.computeSlot p) := by
  rcases s.computeSlot_cases p with hsame | ⟨pos, j, hput | hout⟩
  · rw [hsame]; exact .of_eq rfl
  · rw [hput]; exact .of_eq rfl
  · rw [hout]
    refine .trans ?_ (KeepsUncalled.request _ j.placement (parityOf j.board) _ .skipTravel)
    exact .of_eq rfl

theorem KeepsUncalled.computeAwaiting (s : State) : KeepsUncalled s s.computeAwaiting :=
  (KeepsUncalled.computeSlot s .even).trans (.computeSlot _ .odd)

theorem KeepsUncalled.evalPhase (s : State) (p : Parity) : KeepsUncalled s (s.evalPhase p) :=
  .of_eq (by simp)

theorem KeepsUncalled.clampingEnds (s : State) : KeepsUncalled s s.clampingEnds := by
  unfold State.clampingEnds
  dsimp only
  split
  · exact .of_eq rfl
  next p _ =>
    intro n q u hu hc
    exact (KeepsUncalled.evalPhase _ p) n q u (KeepsUncalled.computeAwaiting _ n q u hu hc) hc

theorem KeepsUncalled.afterTransfer (s : State) (present : Bool) :
    KeepsUncalled s (s.afterTransfer present) := by
  rcases s.afterTransfer_cases present with ⟨htable, _⟩ | hclamped
  · exact .of_eq htable
  · rw [hclamped]
    exact .trans (t := s.clamping) (.of_eq rfl) (.clampingEnds _)

theorem State.isOpen_clampingEnds (s : State) (p : Parity) : s.clampingEnds.isOpen p = s.isOpen p := by
  unfold State.clampingEnds
  dsimp only
  split
  · rfl
  next q _ =>
    rw [State.isOpen_evalPhase, (State.computeAwaiting_keeps _).isOpen, State.isOpen, State.board_putBoard]
    split
    next hpq => subst hpq; split <;> rfl
    next => rfl

theorem State.number_clampingEnds (s : State) (p : Parity) :
    (s.clampingEnds.board p).number = (s.board p).number := by
  unfold State.clampingEnds
  dsimp only
  split
  · rfl
  next q _ =>
    rw [State.number_evalPhase, (State.computeAwaiting_keeps _).number, State.board_putBoard]
    split
    next hpq => subst hpq; split <;> rfl
    next => rfl

theorem State.isOpen_afterTransfer (s : State) (present : Bool) (p : Parity) :
    (s.afterTransfer present).isOpen p = s.isOpen p := by
  rcases s.afterTransfer_cases present with ⟨_, hboards⟩ | hclamped
  · exact State.isOpen_congr hboards p
  · rw [hclamped, State.isOpen_clampingEnds]; rfl

theorem State.number_afterTransfer (s : State) (present : Bool) (p : Parity) :
    ((s.afterTransfer present).board p).number = (s.board p).number := by
  rcases s.afterTransfer_cases present with ⟨_, hboards⟩ | hclamped
  · rw [board_congr hboards]
  · rw [hclamped, State.number_clampingEnds]; rfl

/-! ## The board that opens in the freed record (R26, R35) -/

theorem State.reopened_opens {s : State} {l : Leaving} (hrun : s.machine.state = .running)
    (hl : s.exchange.leaving = some l) (hp : l.parity = parityOf s.nextNumber)
    (hother : s.isOpen (otherParity l.parity) = false)
    (hlength : s.settings.runLength = 0 ∨ s.runCounter < s.settings.runLength) :
    s.reopened true = s.transferEnds.openBoard := by
  have hboard := State.board_transferEnds_leaving hl
  have hotherBoard : s.transferEnds.board (otherParity l.parity) = s.board (otherParity l.parity) :=
    State.board_transferEnds_ne fun l' hl' => by
      obtain rfl := Option.some.inj (hl.symm.trans hl')
      exact (otherParity_ne l.parity).symm
  refine if_pos ((State.mayOpen_iff (p := l.parity) (by simpa using hp)).mpr ⟨by simpa using hrun, ?_, ?_,
    by simpa using hlength⟩)
  · simp [State.isOpen, hboard]
  · rw [hotherBoard]
    intro hcalling
    simp [State.isOpen, hcalling] at hother

theorem State.board_reopened_opens {s : State} {p : Parity} (h : s.reopened true = s.transferEnds.openBoard)
    (hp : p = parityOf s.nextNumber) :
    (s.reopened true).board p =
      { s.transferEnds.newBoard with
        phase := if s.table.all Option.isNone = true then .calledOut else .calling } := by
  rw [h, State.board_openBoard (by simpa using hp)]
  simp

theorem State.statusOf_openBoard {s : State} {n : Nat} {r : Placement} (h : s.slot? n = some r) :
    s.openBoard.statusOf n (parityOf s.nextNumber) = some (openedSlot r.hold) := by
  rw [State.statusOf, slot?_congr (State.table_openBoard rfl), State.slot?_openRequest, h]
  exact congrArg some ((Pair.get_put ..).trans (if_pos rfl))

end Sys2Proof.Machine

open Sys2Proof Sys2Proof.Machine

/-- Settles O27: `State.transferDone_eq` takes the edge apart into the freeing, the opening and what follows. -/
theorem transferDoneEndsTheTransfer : Obligations.TransferDoneEndsTheTransfer := by
  intro present openFirst s h
  refine ⟨fun hleg hreq => ?_, fun hrun => ?_, fun hreq => ?_⟩
  · obtain ⟨hexchange, houtputs, hmachine, hstations, halarms, hhead, hchain, hinputs, hsettings⟩ :=
      s.reopened_frame openFirst
    obtain ⟨hreqAfter, htimerAfter⟩ := (s.reopened openFirst).request_afterTransfer present
    have hpausing : (s.reopened openFirst).pausing = s.pausing := by simp [State.pausing, hmachine]
    rw [exec_transferDone h, State.transferDone_eq hleg hreq]
    refine ⟨_, rfl, ?_, ?_, ?_, ?_, ?_, ?_, ?_, ?_, ?_, ?_, fun p hl ho hp => ⟨?_, ?_, ?_⟩,
      fun l hfirst hrun hl hparity hother hlength => ?_⟩
    · simp [hreqAfter, houtputs]
    · simp [htimerAfter, hexchange]
    · exact State.settledIn_settle_of (by simp [hmachine])
    · simp [hstations]
    · simp [halarms]
    · simp [hhead]
    · exact State.chain_settle_of (by simp [hchain])
    · refine or_iff_not_imp_left.mpr fun hfirst l hl => ?_
      obtain rfl := Bool.eq_false_iff.mpr hfirst
      have hboard := State.board_transferEnds_leaving hl
      rw [State.board_settle, State.board_afterTransfer_of_free (s := s.reopened false)
        (by simp [State.reopened_false, State.isOpen, hboard]), State.reopened_false, hboard]
      exact ⟨rfl, rfl, rfl, rfl⟩
    · refine or_iff_not_imp_left.mpr fun hfirst => or_iff_not_imp_left.mpr fun hpresent => ?_
      obtain rfl := Bool.eq_false_iff.mpr hfirst
      obtain rfl := Bool.eq_false_iff.mpr hpresent
      obtain ⟨e, he⟩ := (s.reopened false).afterTransfer_false
      rw [he]
      simp [State.reopened_false]
    · refine or_iff_not_imp_left.mpr fun hfirst hnone => ?_
      obtain rfl := Bool.eq_false_iff.mpr hfirst
      rw [State.afterTransfer_ends (s := s.reopened false) (State.nextToLoad_transferEnds hnone)]
      simp [State.reopened_false, State.outputs_transferEnds]
    · rintro rfl
      obtain ⟨q, hnext⟩ := State.nextToLoad_reopened hl ho hp openFirst
      rw [State.afterTransfer_absent hnext]
      simp [hpausing, houtputs]
    · rintro rfl hpaused
      obtain ⟨q, hnext⟩ := State.nextToLoad_reopened hl ho hp openFirst
      rw [State.afterTransfer_paused hnext (hpausing.trans hpaused)]
      simp [State.waitWith, houtputs]
    · rintro rfl hgoes hlow rfl holder
      have hnext : (s.reopened false).nextToLoad = some p :=
        State.nextToLoad_transferEnds_eq_some hl ho hp holder
      rw [State.afterTransfer_settle_unclamped (s := s.reopened false) hnext (hpausing.trans hgoes)
        (by rw [hinputs, hlow])]
      simp [State.clamping, hexchange, hsettings, hnext]
    · subst hfirst
      have hopens := State.reopened_opens hrun hl hparity hother hlength
      have hboard := State.board_reopened_opens hopens hparity
      have hopen : (s.reopened true).isOpen l.parity = true := by
        rw [State.isOpen, hboard]
        dsimp only
        split <;> rfl
      refine ⟨?_, ?_, ?_, fun n r hr => ?_, ?_⟩
      · have hnumber : s.transferEnds.openBoard.nextNumber = (s.transferEnds.nextNumber + 1) % 65536 := by
          rw [State.openBoard_changes rfl]
        simp [hopens, hnumber]
      · rw [State.board_settle, State.number_afterTransfer, hboard]
        simp [State.newBoard]
      · rw [State.isOpen, State.board_settle, ← State.isOpen, State.isOpen_afterTransfer, hopen]
      · have hr' : s.transferEnds.slot? n = some r := (slot?_congr (by simp) n).trans hr
        have hparity' : l.parity = parityOf s.transferEnds.nextNumber := by simpa using hparity
        have hopened : (s.reopened true).statusOf n l.parity = some (openedSlot r.hold) := by
          rw [hopens, hparity']
          exact State.statusOf_openBoard hr'
        exact ⟨openedSlot r.hold,
          (statusOf_congr (s := (s.reopened true).afterTransfer present) (by simp) n _).trans
            (KeepsUncalled.afterTransfer _ present n _ _ hopened (by simp [openedSlot])), rfl⟩
      · rintro rfl hlow
        have hnext : (s.reopened true).nextToLoad = some l.parity := by
          refine State.nextToLoad_eq_some hopen (by rw [hboard]; rfl) (.inr (.inl ?_))
          have hne : otherParity l.parity ≠ parityOf s.transferEnds.nextNumber := by
            rw [show parityOf s.transferEnds.nextNumber = l.parity by simp [hparity]]
            exact otherParity_ne _
          rw [hopens, State.isOpen_openBoard_ne hne, State.isOpen, State.board_transferEnds_ne fun l' hl' => ?_]
          · exact hother
          · obtain rfl := Option.some.inj (hl.symm.trans hl')
            exact (otherParity_ne _).symm
        rw [State.afterTransfer_settle_unclamped hnext (by simp [State.pausing, hmachine, hrun])
          (by rw [hinputs, hlow])]
        refine ⟨?_, rfl, ?_⟩
        · simp [State.clamping, hexchange, hsettings, hnext]
        · change ((s.reopened true).board l.parity).tableState = _
          rw [hboard]
          rfl
  · rw [exec_transferDone h, exec_transferDone h]
    have hsame : s.reopened openFirst = s.reopened false := by
      cases openFirst with
      | false => rfl
      | true => exact State.openIfMay_of_not_running (by simpa using hrun)
    by_cases hgo : s.exchange.leg = .transfer ∧ s.outputs.transferReq = true
    · rw [State.transferDone_eq hgo.1 hgo.2, State.transferDone_eq hgo.1 hgo.2, hsame]
    · rw [State.transferDone, if_neg hgo, State.transferDone, if_neg hgo]
  · rw [exec_transferDone h, State.transferDone_ignored hreq]
end

section
/-! PROOFS. The clinch drive: chopping, samples, the restroke and the current faults (R170 to R176). -/

namespace Sys2Proof.Machine

/-! ## Raisings whose state differs from the one before the event (R192, R194) -/

/-- A raising at a state that an event has changed apart from the alarm records. -/
theorem State.raised_raise_settle_of {s u : State} (ha : u.alarms = s.alarms) (hs : u.settings = s.settings)
    (k : AlarmKind) (src : Option Source) : Raised s (u.raise k src).settle k src :=
  raised_congr (alarm_congr ha k) (by rw [hs]) (u.raised_raise_settle k src)

theorem State.machine_raise_settle_of {s u : State} (ha : u.alarms = s.alarms) (hm : u.machine = s.machine)
    (k : AlarmKind) (src : Option Source) :
    (u.raise k src).settle.machine.state =
      (MachineAfter (s.alarm k).reaction s.machine.state).settledIn (u.raise k src).settle := by
  rw [← alarm_congr ha k, ← hm]
  exact u.machine_raise_settle k src

/-- A raised record is not CLEAR, so that a claim that rests on it stands (R177, R192). -/
theorem Raised.state_ne_clear {s t : State} {k : AlarmKind} {src : Option Source} (h : Raised s t k src) :
    (t.alarm k).state ≠ .clear := by
  obtain ⟨-, -, -, -, -, h⟩ := h
  split at h
  · cases hm : (s.alarm k).clearMode <;> simp only [hm] at h <;> simp [h]
  · simp [h]

theorem State.held_react (s : State) {r : Reaction} (h : r ≠ .halt) : (s.react r).head.held = s.head.held := by
  cases r with
  | note => rfl
  | halt => exact absurd rfl h
  | pause =>
    have hcheck (t : State) : t.homingCheck.head.held = t.head.held := by
      unfold State.homingCheck
      split
      · simp
      · rfl
    simp only [State.react, State.enterPausing]
    split <;> simp [hcheck]

theorem State.held_raise (s : State) (k : AlarmKind) (src : Option Source) (h : (s.alarm k).reaction ≠ .halt) :
    (s.raise k src).head.held = s.head.held :=
  (State.held_react _ h).trans (by simp)

/-- A raising leaves the drive, or ends its stroke once more. -/
theorem State.drive_raise_ended (s : State) {d : Drive} (h : s.drive = d.strokeEnded) (k : AlarmKind)
    (src : Option Source) : (s.raise k src).settle.drive = d.strokeEnded := by
  rcases (s.raiseRecord k src).drive_react (s.alarm k).reaction with hsame | hended
  · simp [State.raise, hsame, h]
  · simp [State.raise, hended, h, Drive.strokeEnded]

theorem State.filter_raise {s : State} (h : s.drive.filter = none) (k : AlarmKind) (src : Option Source) :
    (s.raise k src).settle.drive.filter = none := by
  rcases (s.raiseRecord k src).drive_react (s.alarm k).reaction with hsame | hended
  · simp [State.raise, hsame, h]
  · simp [State.raise, hended, Drive.strokeEnded]

theorem State.bridgeOn_of_forbidden {s : State} (h : DriveForbidden s) : s.bridgeOn = false := by
  rw [Bool.eq_false_iff]
  intro hon
  exact (State.driveAvailable_iff s).mp ((s.bridgeOn_iff).mp hon).2.1 h

/-- The report that a condition has ended, in the words of R193. -/
theorem State.endCondition_absent {s : State} {k : AlarmKind} (h : (s.alarm k).condition = false) :
    s.endCondition k = s := by
  simp [State.endCondition, AlarmRecord.ended, h]

theorem AlarmRecord.ended_of_condition {r : AlarmRecord} (h : r.condition = true) (interval : Nat) :
    r.ended interval =
      match r.clearMode with
      | .latch => { r with condition := false, state := .latched }
      | .retry => { r with condition := false, retryTimer := some interval } :=
  if_pos h

/-! ## The stall and the open load (R171, R175) -/

theorem Drive.stalled_ended (d : Drive) :
    d.stalled =
      ({ d with strikes := min 255 (d.strikes + 1)
                lockout := d.lockout || decide (5 ≤ min 255 (d.strikes + 1)) } : Drive).strokeEnded := rfl

/-- The state of a stall before its raising. -/
def State.stalling (s : State) : State :=
  { s with drive := s.drive.stalled, head := { s.head with held := .stall, phaseTimer := none } }

theorem State.stall_eq (s : State) :
    s.stall = (s.stalling.raise .clinchStall (s.head.job.map fun j => .slot j.placement)).settle := rfl

theorem State.drive_stall (s : State) : s.stall.drive = s.drive.stalled :=
  State.drive_raise_ended s.stalling s.drive.stalled_ended _ _

theorem State.held_stall {s : State} (h : (s.alarm .clinchStall).reaction ≠ .halt) :
    s.stall.head.held = .stall := by
  have hheld := s.stalling.held_raise .clinchStall (s.head.job.map fun j => .slot j.placement) h
  have hsettle : s.stall.head = (s.stalling.raise .clinchStall (s.head.job.map fun j => .slot j.placement)).head := by
    simp [State.stall_eq]
  rw [hsettle]
  exact hheld

/-- The state of an open load before its raising. -/
def State.opening (s : State) : State :=
  { s with drive := s.drive.strokeEnded, head := { s.head with held := .open, phaseTimer := none } }

theorem State.openLoad_eq (s : State) :
    s.openLoad = (s.opening.raise .clinchOpen (s.head.job.map fun j => .slot j.placement)).settle := rfl

theorem State.drive_openLoad (s : State) : s.openLoad.drive = s.drive.strokeEnded :=
  State.drive_raise_ended s.opening rfl _ _

theorem State.head_openLoad {s : State} (h : (s.alarm .clinchOpen).reaction ≠ .halt)
    (hclinch : s.head.state = .clinch) :
    s.openLoad.head = { s.head with held := .open, phaseTimer := none } := by
  have hhead := s.opening.raise_head .clinchOpen (s.head.job.map fun j => .slot j.placement) h
    (by simp [State.opening, hclinch])
  have hsettle : s.openLoad.head = (s.opening.raise .clinchOpen (s.head.job.map fun j => .slot j.placement)).head := by
    simp [State.openLoad_eq]
  rw [hsettle]
  exact hhead

/-! ## The commands of the drive -/

theorem exec_tripReached {s : State} (h : Live s) (current : Nat) :
    exec (.tripReached current) s = .next (s.tripReached current) :=
  event_live h fun s => s.tripReached current

theorem exec_offTimeExpiry {s : State} (h : Live s) : exec .offTimeExpiry s = .next s.offTimeExpiry :=
  event_live h State.offTimeExpiry

theorem exec_clinchSample {s : State} (h : Live s) (current : Nat) :
    exec (.clinchSample current) s = .next (s.clinchSample current) :=
  event_live h fun s => s.clinchSample current

theorem exec_restroke {s : State} (h : Live s) : exec .restroke s = .next s.restroke :=
  event_live h State.restroke

theorem exec_overcurrentRise {s : State} (h : Live s) (current : Nat) :
    exec (.overcurrentRise current) s = .next (s.overcurrentRise current) :=
  event_live h fun s => s.overcurrentRise current

theorem exec_overcurrentFall {s : State} (h : Live s) (current : Nat) :
    exec (.overcurrentFall current) s = .next (s.overcurrentFall current) :=
  event_live h fun s => s.overcurrentFall current

theorem exec_overcurrentFilterExpiry {s : State} (h : Live s) :
    exec .overcurrentFilterExpiry s = .next s.filterExpiry :=
  event_live h State.filterExpiry

theorem exec_overtempRise {s : State} (h : Live s) :
    exec .overtempRise s = .next ((s.setOvertemp true).homingCheck.raise .overTemp none).settle :=
  event_live h fun s => ((s.setOvertemp true).homingCheck.raise .overTemp none).settle

theorem exec_overtempFall {s : State} (h : Live s) :
    exec .overtempFall s = .next ((s.setOvertemp false).endCondition .overTemp) :=
  event_live h fun s => (s.setOvertemp false).endCondition .overTemp

theorem exec_supplyOkFall {s : State} (h : Live s) :
    exec .supplyOkFall s = .next ((s.setSupply false).homingCheck.raise .supplyLow none).settle :=
  event_live h fun s => ((s.setSupply false).homingCheck.raise .supplyLow none).settle

theorem exec_supplyOkRise {s : State} (h : Live s) :
    exec .supplyOkRise s = .next ((s.setSupply true).endCondition .supplyLow) :=
  event_live h fun s => (s.setSupply true).endCondition .supplyLow

/-! ## Samples (R170, R175) -/

theorem Drive.findsOpen_iff (d : Drive) (current : Nat) :
    d.findsOpen current = true ↔
      d.samples + 1 = d.inForce.openSamples ∧ d.openRun = true ∧ current < d.inForce.openThreshold := by
  unfold Drive.findsOpen Drive.sampled
  split
  next h => simp [h]
  next h => simp only [h, decide_false, Bool.false_and, Bool.false_eq_true, false_iff]; omega

theorem Head.tripsAt_of_plan {h : Head} {pl : StrokePlan} (hp : h.plan = some pl) (current : Nat) :
    h.tripsAt current = decide (30 + 10 * pl.trip ≤ current) := by
  rw [Head.tripsAt, hp]
  rfl

theorem State.holdLifted_iff (s : State) :
    s.holdLifted = true ↔ (s.head.held = .stall ∧ (s.alarm .clinchStall).state = .clear) ∨
      (s.head.held = .open ∧ (s.alarm .clinchOpen).state = .clear) := by
  unfold State.holdLifted
  split <;> simp_all

theorem State.enterStroke_eq {s : State} {pl : StrokePlan} (h : s.head.plan = some pl) :
    s.enterStroke =
      { s with
        head :=
          { s.head with state := .clinch, held := .none, phaseTimer := some s.settings.clinchTimeout }
        drive :=
          { s.drive with
            stroke := .commanded, chop := .on, chopCount := 0, samples := 0, openRun := true
            inForce := s.settings.stroke }
        outputs := { s.outputs with profile := pl.profile } } := by
  simp only [State.enterStroke, State.beginStroke, h]

/-- A fault line at its level forbids the drive, and the alarm's reaction does not return it (R176). -/
theorem State.lineFault {s u : State} (hforbidden : ∀ t : State, t.inputs = u.inputs → DriveForbidden t)
    (ha : u.alarms = s.alarms) (hm : u.machine = s.machine) (hs : u.settings = s.settings) (k : AlarmKind) :
    (u.homingCheck.raise k none).settle.inputs = u.inputs ∧
      Raised s (u.homingCheck.raise k none).settle k none ∧
      (u.homingCheck.raise k none).settle.machine.state =
        (MachineAfter (s.alarm k).reaction s.machine.state).settledIn (u.homingCheck.raise k none).settle ∧
      (u.homingCheck.raise k none).settle.bridgeOn = false := by
  have hinputs : (u.homingCheck.raise k none).settle.inputs = u.inputs := by simp
  exact ⟨hinputs, State.raised_raise_settle_of (by simp [ha]) (by simp [hs]) k none,
    State.machine_raise_settle_of (by simp [ha]) (by simp [hm]) k none,
    State.bridgeOn_of_forbidden (hforbidden _ hinputs)⟩

/-- The end of a condition at a state that the event has changed apart from the alarm records (R193). -/
theorem State.endsCondition {s u : State} {k : AlarmKind} {c : Instr}
    (hexec : exec c s = .next (u.endCondition k)) (ha : u.alarms = s.alarms) (hs : u.settings = s.settings) :
    ((s.alarm k).condition = false → exec c s = .next u) ∧
      ((s.alarm k).condition = true → ∃ t : State, exec c s = .next t ∧
        t = { u with alarms := t.alarms } ∧ (∀ l : AlarmKind, l ≠ k → t.alarm l = s.alarm l) ∧
        t.alarm k =
          match (s.alarm k).clearMode with
          | .latch => { s.alarm k with condition := false, state := .latched }
          | .retry =>
            { s.alarm k with condition := false, retryTimer := some s.settings.retryInterval }) := by
  have hk := alarm_congr ha k
  refine ⟨fun hc => ?_, fun hc => ⟨_, hexec, rfl, fun l hl => ?_, ?_⟩⟩
  · rw [hexec, State.endCondition_absent (hk ▸ hc)]
  · rw [State.alarm_endCondition, if_neg hl, alarm_congr ha l]
  · rw [State.alarm_endCondition, if_pos rfl, hk, AlarmRecord.ended_of_condition hc, hs]

end Sys2Proof.Machine

open Sys2Proof Sys2Proof.Machine

/-- Settles O53: the restroke enters the stroke exactly where the conditions of R172 hold. -/
theorem restrokeBeginsTheStrokeAnew : Obligations.RestrokeBeginsTheStrokeAnew := by
  intro s pl h
  refine ⟨fun hclinch hrun havailable hplan hlifted => ?_, fun hfails => ?_⟩
  · have hready := And.intro hclinch (And.intro ((s.working_iff).mpr hrun)
      (And.intro ((s.driveAvailable_iff).mpr havailable) ((s.holdLifted_iff).mpr hlifted)))
    rw [exec_restroke h, State.restroke, if_pos hready, State.enterStroke_eq hplan, ← hclinch]
  · rw [exec_restroke h, State.restroke, if_neg]
    rw [State.working_iff, State.driveAvailable_iff, State.holdLifted_iff]
    rintro ⟨hclinch, hrun, havailable, hlifted⟩
    rcases hfails with hf | hf | hf | hf | hf | hf
    · exact hf hclinch
    · simp [hf] at hlifted
    · exact hrun.elim hf.1 hf.2
    · exact havailable hf
    · simp [hf] at hlifted
    · simp [hf] at hlifted

/-- Settles O52: `State.drive_stall` and `State.drive_openLoad` give what the two ends leave of the drive. -/
theorem strokeChopsAndSamples : Obligations.StrokeChopsAndSamples := by
  intro s current pl h
  refine ⟨fun hstroke hchop hplan htrip hlimit => ?_, fun hstroke hchop hplan htrip hlimit => ?_,
    fun hnone => ?_, fun hon => ?_, fun hoff => ?_, fun hstroke hopen => ?_,
    fun hstroke hsamples hrun hbelow => ?_, fun hstroke => ?_⟩
  · have htrips : s.head.tripsAt current = true := by rw [Head.tripsAt_of_plan hplan, decide_eq_true htrip]
    rw [exec_tripReached h, State.tripReached, if_pos ⟨hstroke, hchop, htrips⟩, if_neg hlimit]
    rfl
  · have htrips : s.head.tripsAt current = true := by rw [Head.tripsAt_of_plan hplan, decide_eq_true htrip]
    rw [exec_tripReached h, State.tripReached, if_pos ⟨hstroke, hchop, htrips⟩, if_pos hlimit]
    refine ⟨_, rfl, State.raised_raise_settle_of rfl rfl _ _, State.machine_raise_settle_of rfl rfl _ _,
      ?_, ?_, ?_, fun hr => State.held_stall hr⟩
    · rw [State.drive_stall]; rfl
    · rw [State.drive_stall]; exact hlimit
    · rw [State.drive_stall]; rfl
  · rw [exec_tripReached h, State.tripReached, if_neg]
    rintro ⟨hstroke, hchop, htrips⟩
    rcases hnone with hf | hf | ⟨hplan, hf⟩
    · simp [hf] at hstroke
    · simp [hf] at hchop
    · rw [Head.tripsAt_of_plan hplan, decide_eq_true_eq] at htrips
      omega
  · rw [exec_offTimeExpiry h, State.offTimeExpiry, if_pos hon]
  · rw [exec_offTimeExpiry h, State.offTimeExpiry, if_neg (by simp [hoff])]
  · have hfinds : ¬ s.drive.findsOpen current = true := by
      rw [Drive.findsOpen_iff]
      rintro ⟨hsamples, hrun, hbelow⟩
      rcases hopen with hf | hf | hf
      · exact hf hsamples
      · simp [hf] at hrun
      · omega
    rw [exec_clinchSample h, State.clinchSample, if_pos hstroke]
    simp only [hfinds, Drive.sampled]
    rfl
  · have hfinds := (s.drive.findsOpen_iff current).mpr ⟨hsamples, hrun, hbelow⟩
    rw [exec_clinchSample h, State.clinchSample, if_pos hstroke]
    simp only [hfinds, if_true]
    refine ⟨_, rfl, State.raised_raise_settle_of rfl rfl _ _, State.machine_raise_settle_of rfl rfl _ _,
      ?_, ?_, fun hr hclinch => State.head_openLoad hr hclinch⟩
    · rw [State.drive_openLoad]; rfl
    · rw [State.drive_openLoad]
      simp only [Drive.strokeEnded, Drive.sampled]
      split <;> rfl
  · rw [exec_clinchSample h, State.clinchSample, if_neg (by simp [hstroke])]

/-- Settles O54: the claims of the arbiter stand from the raising on (`State.bridgeOn_of_forbidden`). -/
theorem currentFaultsTurnTheBridgeOff : Obligations.CurrentFaultsTurnTheBridgeOff := by
  intro s h
  refine ⟨fun current => ⟨fun hstroke habove => ?_, fun hno => ?_, fun habove => ?_⟩, fun hfilter => ?_,
    fun hfilter => ?_, ?_, ?_, fun c k u hc => ?_⟩
  · rw [exec_overcurrentRise h, State.overcurrentRise, if_pos ⟨hstroke, decide_eq_true habove⟩]
  · rw [exec_overcurrentRise h, State.overcurrentRise, if_neg]
    simp only [Drive.overcurrentAt, decide_eq_true_eq]
    rintro ⟨hstroke, habove⟩
    rcases hno with hf | hf
    · simp [hf] at hstroke
    · omega
  · rw [exec_overcurrentFall h, State.overcurrentFall, if_pos]
    exact decide_eq_true habove
  · have hraised : Raised s s.filterExpiry .clinchOvercurrent (s.head.job.map fun j => .slot j.placement) := by
      rw [State.filterExpiry, if_pos hfilter]
      exact State.raised_raise_settle_of rfl rfl _ _
    rw [exec_overcurrentFilterExpiry h]
    refine ⟨_, rfl, ?_, hraised, ?_, State.bridgeOn_of_forbidden (.inr (.inr (.inr (.inl hraised.state_ne_clear))))⟩
    · rw [State.filterExpiry, if_pos hfilter]
      exact State.filter_raise rfl _ _
    · rw [State.filterExpiry, if_pos hfilter]
      exact State.machine_raise_settle_of rfl rfl _ _
  · rw [exec_overcurrentFilterExpiry h, State.filterExpiry, if_neg (by simp [hfilter])]
  · rw [exec_overtempRise h]
    exact ⟨_, rfl, State.lineFault (fun t ht => .inr (.inr (.inr (.inr (.inl (by rw [ht]; rfl))))))
      rfl rfl rfl .overTemp⟩
  · rw [exec_supplyOkFall h]
    exact ⟨_, rfl, State.lineFault (fun t ht => .inr (.inr (.inr (.inr (.inr (by rw [ht]; rfl))))))
      rfl rfl rfl .supplyLow⟩
  · rcases hc with ⟨⟨current, hbelow, rfl⟩, rfl, rfl⟩ | ⟨rfl, rfl, rfl⟩ | ⟨rfl, rfl, rfl⟩
    · have hexec : exec (.overcurrentFall current) s =
          .next (State.endCondition { s with drive := { s.drive with filter := none } } .clinchOvercurrent) := by
        rw [exec_overcurrentFall h, State.overcurrentFall, if_neg]
        simp [Drive.overcurrentAt, hbelow]
      exact State.endsCondition hexec rfl rfl
    · exact State.endsCondition (exec_overtempFall h) rfl rfl
    · exact State.endsCondition (exec_supplyOkRise h) rfl rfl
end

section
/-! PROOFS. The start of a head cycle, its phases and their timeouts (R160 to R167, R171). -/

namespace Sys2Proof.Machine

/-! ## The start conditions (R160) -/

theorem State.activeAt80_eq_some {s : State} {p : Parity} (hactive : (s.moveSlot p).state = .active)
    (hpos : (s.moveSlot p).position = some .p80)
    (hother : (s.moveSlot (otherParity p)).state ≠ .active ∨
      (s.moveSlot (otherParity p)).position ≠ some .p80) : s.activeAt80 = some p := by
  cases p with
  | even => simp [State.activeAt80, hactive, hpos]
  | odd =>
    have heven : (s.moveSlot .even).state ≠ .active ∨ (s.moveSlot .even).position ≠ some .p80 := hother
    simp [State.activeAt80, hactive, hpos, heven]

theorem State.activeAt80_some {s : State} {p : Parity} (h : s.activeAt80 = some p) :
    (s.moveSlot p).state = .active ∧ (s.moveSlot p).position = some .p80 := by
  simpa using List.find?_some h

/-- The conditions on the slot and the clip at 80: those of an INSERT or of a DUMP cycle. -/
theorem State.cycleFits_iff (s : State) (p : Parity) :
    s.cycleFits p = true ↔
      ((s.moveSlot p).kind = some .insert ∧ (s.clip 80).state = .verified ∧ (s.clip 80).dump = false ∧
        ∃ (c : Call) (j : Job), (s.clip 80).call = some c ∧ (s.moveSlot p).job = some j ∧
          c.board = j.board ∧ c.placement = j.placement ∧ s.isAligned j.board = true) ∨
      ((s.moveSlot p).kind = some .dump ∧
        ((s.clip 80).state = .unknown ∨ ((s.clip 80).state = .verified ∧ (s.clip 80).dump = true))) := by
  unfold State.cycleFits
  split
  next hkind hclip =>
    cases hcall : (s.clip 80).call <;> cases hjob : (s.moveSlot p).job <;>
      simp [hkind, hclip, and_assoc]
  next hkind hclip => simp [hkind, hclip]
  next hkind hclip => simp [hkind, hclip]
  next h1 h2 h3 =>
    simp only [Bool.false_eq_true, false_iff]
    rintro (⟨hkind, hclip, -⟩ | ⟨hkind, hclip | ⟨hclip, -⟩⟩)
    · exact h1 hkind hclip
    · exact h3 hkind hclip
    · exact h2 hkind hclip

theorem State.startReady_eq_some {s : State} {p : Parity} (h : StartConditions s p)
    (hother : (s.moveSlot (otherParity p)).state ≠ .active ∨
      (s.moveSlot (otherParity p)).position ≠ some .p80) : s.startReady = some p := by
  obtain ⟨hrun, hactive, hpos, hlocked, havailable, hfits⟩ := h
  simp only [State.startReady, State.activeAt80_eq_some hactive hpos hother, (s.working_iff).mpr hrun,
    (s.allLocked_iff).mpr hlocked, (s.driveAvailable_iff).mpr havailable, (s.cycleFits_iff p).mpr hfits,
    Bool.and_self, if_true]

theorem State.startReady_some {s : State} {p : Parity} (h : s.startReady = some p) : StartConditions s p := by
  unfold State.startReady at h
  split at h
  · cases h
  next q hq =>
    obtain ⟨hactive, hpos⟩ := State.activeAt80_some hq
    split at h
    next hready =>
      obtain rfl := Option.some.inj h
      simp only [Bool.and_eq_true, State.working_iff, State.allLocked_iff, State.driveAvailable_iff,
        State.cycleFits_iff] at hready
      obtain ⟨⟨⟨hrun, hlocked⟩, havailable⟩, hfits⟩ := hready
      exact ⟨hrun, hactive, hpos, hlocked, havailable, hfits⟩
    next => cases h

theorem State.startReady_eq_none {s : State} (h : ∀ p, ¬ StartConditions s p) : s.startReady = none := by
  cases hready : s.startReady with
  | none => rfl
  | some p => exact absurd (State.startReady_some hready) (h p)

/-! ## The cycle that starts (R160) -/

theorem State.startCycle_insert {s : State} {p : Parity} {j : Job} {r : Placement}
    (hkind : (s.moveSlot p).kind = some .insert) (hjob : (s.moveSlot p).job = some j)
    (hr : s.slot? j.placement = some r) :
    s.startCycle p =
      { s with
        head :=
          { state := .form, kind := some .insert, slot := some p, job := some j
            plan := some { profile := r.clinch, trip := r.trip }
            formed := false, cleared := false, held := .none, peak := 0
            phaseTimer := some s.settings.formTimeout }
        outputs := { s.outputs with former := true } } := by
  simp [State.startCycle, State.cycleHead, hkind, hjob, State.strokePlan, hr]

theorem State.startCycle_dump {s : State} {p : Parity} (hkind : (s.moveSlot p).kind = some .dump) :
    s.startCycle p =
      { s with
        head :=
          { state := .form, kind := some .dump, slot := some p, job := none, plan := none
            formed := false, cleared := false, held := .none, peak := 0
            phaseTimer := some s.settings.formTimeout }
        outputs := { s.outputs with former := true } } := by
  simp [State.startCycle, State.cycleHead, hkind]

theorem exec_cycleStart {s : State} (h : Live s) (home : Bool) :
    exec (.cycleStart home) s = .next (s.cycleStart home) :=
  event_live h fun s => s.cycleStart home

theorem exec_homingStart {s : State} (h : Live s) (home : Bool) :
    exec (.homingStart home) s = .next (s.homingStart home) :=
  event_live h fun s => s.homingStart home

theorem State.cycleStart_starts {s : State} {p : Parity} (hidle : s.head.state = .idle)
    (h : s.startReady = some p) : s.cycleStart true = s.startCycle p := by
  simp [State.cycleStart, hidle, h]

theorem State.homingStart_starts {s : State} {p : Parity} (hidle : s.head.state = .idle)
    (h : s.startReady = some p) :
    s.homingStart false =
      { s with
        head := { s.head with state := .homing, phaseTimer := some s.settings.retractTimeout } } := by
  simp [State.homingStart, hidle, h]

theorem State.start_stays {s : State} (h : s.head.state ≠ .idle ∨ s.startReady = none) (home : Bool) :
    s.cycleStart home = s ∧ s.homingStart home = s := by
  rcases h with h | h
  · simp [State.cycleStart, State.homingStart, h]
  · simp [State.cycleStart, State.homingStart, h]

/-! ## FORM, DRIVE and CLINCH (R162 to R164) -/

theorem exec_formed {s : State} (h : Live s) : exec .formed s = .next s.formedEdge :=
  event_live h State.formedEdge

theorem exec_down {s : State} (h : Live s) : exec .down s = .next s.downEdge :=
  event_live h State.downEdge

theorem exec_clinchEnd {s : State} (h : Live s) : exec .clinchEnd s = .next s.clinchEnd :=
  event_live h State.clinchEnd

theorem State.enterRetract_eq (s : State) :
    s.enterRetract =
      { s with
        stretch := s.stretch.set 80 { s.clip 80 with state := .empty, call := none, verify := none }
        head :=
          { s.head with state := .retract, held := .none, phaseTimer := some s.settings.retractTimeout }
        outputs := { s.outputs with former := false, headDrive := false } } := rfl

/-- A request changes the table and the board records alone. -/
theorem State.request_changes (s : State) (n : Nat) (p : Parity) (f : StatusSlot → StatusSlot)
    (rep : Report) :
    s.request n p f rep =
      { s with table := (s.request n p f rep).table, boards := (s.request n p f rep).boards } := by
  have hframe := s.request_frame n p f rep
  generalize s.request n p f rep = t at hframe ⊢
  cases s
  cases t
  simp_all

/-- The cycle's stroke ended and the head on its way up, before the request for the placement. -/
def State.clinched (s : State) : State := State.enterRetract { s with drive := s.drive.strokeEnded }

theorem State.clinchEnd_eq {s : State} (h : s.head.state = .clinch) :
    s.clinchEnd =
      match s.head.job with
      | none => s.clinched
      | some j => s.clinched.insertionRequest j.placement (parityOf j.board) s.head.peak := by
  rw [State.clinchEnd, if_pos h]
  rfl

theorem State.clinchEnd_changes {s : State} (h : s.head.state = .clinch) :
    s.clinchEnd = { s.clinched with table := s.clinchEnd.table, boards := s.clinchEnd.boards } := by
  rw [State.clinchEnd_eq h]
  cases s.head.job with
  | none => rfl
  | some j => exact State.request_changes ..

/-- A stall whose reaction is not HALT holds the phase, with the outputs as they were (R171). -/
theorem State.stall_stands {s : State} (hr : (s.alarm .clinchStall).reaction ≠ .halt)
    (hstate : s.head.state ≠ .homing) :
    s.stall.head = { s.head with held := .stall, phaseTimer := none } ∧ s.stall.outputs = s.outputs ∧
      s.stall.table = s.table := by
  have hhead := s.stalling.raise_head .clinchStall (s.head.job.map fun j => .slot j.placement) hr hstate
  have hrest := s.stalling.raise_of_ne_halt .clinchStall (s.head.job.map fun j => .slot j.placement) hr
  simp only [State.stall_eq, State.settle_frame, hhead, hrest]
  exact ⟨rfl, rfl, rfl⟩

/-! ## The phase timer (R161, R166, R171) -/

theorem exec_phaseTimeout {s : State} (h : Live s) (edge first : Bool) :
    exec (.phaseTimeout edge first) s = .next (s.phaseTimeout edge first) :=
  event_live h fun s => s.phaseTimeout edge first

/-- What the edges of FORMED, DOWN and HOME leave of the alarm table and the machine. -/
structure KeepsMachine (s t : State) : Prop where
  alarms : t.alarms = s.alarms
  machine : t.machine = s.machine

theorem KeepsMachine.formedEdge (s : State) : KeepsMachine s s.formedEdge := by
  unfold State.formedEdge
  split
  · exact ⟨by simp, by simp⟩
  · exact ⟨rfl, rfl⟩

theorem KeepsMachine.downEdge (s : State) : KeepsMachine s s.downEdge := by
  unfold State.downEdge
  split
  · split
    · exact ⟨rfl, rfl⟩
    · exact ⟨rfl, rfl⟩
    · exact ⟨rfl, rfl⟩
  · exact ⟨rfl, rfl⟩

theorem KeepsMachine.retractEnds (s : State) (first : Bool) : KeepsMachine s (s.retractEnds first) :=
  ⟨by simp [State.retractEnds], by simp [State.retractEnds]⟩

theorem KeepsMachine.withEdge {s : State} {f : State → State} (h : KeepsMachine s (f s)) (edge : Bool) :
    KeepsMachine s (withEdge edge f s) := by
  cases edge with
  | true => exact h
  | false => exact ⟨rfl, rfl⟩

/-- The record of a jam, before the edge and the reaction. -/
def State.jammed (s : State) (ph : JamPhase) : State :=
  State.raiseRecord { s with head := { s.head with phaseTimer := none } } .headJam (some (.phase ph))

theorem State.headJam_eq (s : State) (ph : JamPhase) (edge : State → State) :
    s.headJam ph edge = ((edge (s.jammed ph)).react (s.alarm .headJam).reaction).settle := rfl

theorem State.raised_headJam {s : State} {ph : JamPhase} {edge : State → State}
    (h : KeepsMachine (s.jammed ph) (edge (s.jammed ph))) :
    Raised s (s.headJam ph edge) .headJam (some (.phase ph)) := by
  have halarms : (s.headJam ph edge).alarms = (s.jammed ph).alarms := by simp [State.headJam_eq, h.alarms]
  exact raised_congr (s := { s with head := { s.head with phaseTimer := none } }) rfl rfl
    (raised_of_alarm (alarm_congr halarms _))

theorem State.machine_headJam {s : State} {ph : JamPhase} {edge : State → State}
    (h : KeepsMachine (s.jammed ph) (edge (s.jammed ph))) :
    (s.headJam ph edge).machine.state =
      (MachineAfter (s.alarm .headJam).reaction s.machine.state).settledIn (s.headJam ph edge) := by
  have hmachine := (edge (s.jammed ph)).machine_react_settle (s.alarm .headJam).reaction
  rw [h.machine] at hmachine
  simpa [State.headJam_eq, State.jammed] using hmachine

/-- A HALT of a moving machine ends the cycle with FORMER and HEAD_DRIVE low (R167). -/
theorem State.headStopped {s : State} (h : s.machine.state = .running ∨ s.machine.state = .draining ∨
      s.machine.state = .pausing ∨ s.machine.state = .paused) :
    (s.react .halt).settle.head.state = .idle ∧ (s.react .halt).settle.outputs.former = false ∧
      (s.react .halt).settle.outputs.headDrive = false := by
  have hhalted : s.react .halt = s.enterHalted := s.haltIfMoving_moving (by tauto)
  rw [hhalted]
  simp [State.head_enterHalted, State.outputs_enterHalted, Head.ended]

/-- A jam in FORM, DRIVE or RETRACT without a sensor edge leaves the head its state (R166). -/
theorem State.headJam_noEdge {s : State} {ph : JamPhase} (hr : (s.alarm .headJam).reaction ≠ .halt)
    (hstate : s.head.state ≠ .homing) :
    (s.headJam ph id).head = { s.head with phaseTimer := none } ∧ (s.headJam ph id).outputs = s.outputs := by
  have hhead := (s.jammed ph).react_head hr (by simpa [State.jammed] using hstate)
  have houtputs := (s.jammed ph).react_of_ne_halt hr
  simp only [State.headJam_eq, id, State.settle_frame, hhead, houtputs]
  simp [State.jammed]

/-- The head is IDLE after a jam in HOMING, whatever the reaction (R161). -/
theorem State.head_react_idle {s : State} (h : s.head.state = .idle) (r : Reaction) :
    (s.react r).head.state = .idle := by
  by_cases hr : r = .halt
  · subst hr
    change s.haltIfMoving.head.state = _
    unfold State.haltIfMoving
    split
    · simp [State.head_enterHalted, Head.ended]
    · exact h
  · rw [s.react_head hr (by simp [h]), h]

theorem State.head_homingJam (s : State) : s.homingJam.head.state = .idle := by
  simp only [State.homingJam, State.settle_frame]
  exact State.head_react_idle (by simp [State.head_homingEnds]) _

/-- What every jam leaves, by its state before the reaction. -/
structure JamOutcome (s t : State) (edge : Bool) (ph : JamPhase) : Prop where
  raised : Raised s t .headJam (some (.phase ph))
  machine : t.machine.state = (MachineAfter (s.alarm .headJam).reaction s.machine.state).settledIn t
  home : ph = .home → t.head.state = .idle
  stands : edge = false → ph ≠ .home → (s.alarm .headJam).reaction ≠ .halt →
    t.head = { s.head with phaseTimer := none } ∧ t.outputs = s.outputs
  halted : (s.alarm .headJam).reaction = .halt →
    (s.machine.state = .running ∨ s.machine.state = .draining ∨ s.machine.state = .pausing ∨
      s.machine.state = .paused) →
    t.head.state = .idle ∧ t.outputs.former = false ∧ t.outputs.headDrive = false

theorem JamOutcome.headJam {s : State} {ph : JamPhase} {f : State → State} (edge : Bool)
    (h : KeepsMachine (s.jammed ph) (f (s.jammed ph))) (hph : ph ≠ .home) (hstate : s.head.state ≠ .homing) :
    JamOutcome s (s.headJam ph (withEdge edge f)) edge ph where
  raised := State.raised_headJam (h.withEdge edge)
  machine := State.machine_headJam (h.withEdge edge)
  home hhome := absurd hhome hph
  stands hedge _ hr := by
    subst hedge
    exact State.headJam_noEdge hr hstate
  halted hr hmoving := by
    have hm := (h.withEdge edge).machine
    rw [State.headJam_eq, hr]
    refine State.headStopped ?_
    rw [hm]
    simpa [State.jammed] using hmoving

theorem JamOutcome.homingJam (s : State) (edge : Bool) : JamOutcome s s.homingJam edge .home where
  raised := State.raised_raise_settle_of (by simp [State.homingEnds]) (by simp [State.homingEnds]) _ _
  machine := State.machine_raise_settle_of (by simp [State.homingEnds]) (by simp [State.homingEnds]) _ _
  home _ := s.head_homingJam
  stands _ hph := absurd rfl hph
  halted hr hmoving := by
    have hreaction : (s.homingEnds.alarm .headJam).reaction = .halt := by
      rw [alarm_congr (s := s) (by simp [State.homingEnds]), hr]
    rw [State.homingJam, State.raise, hreaction]
    exact State.headStopped (by simpa [State.homingEnds] using hmoving)

end Sys2Proof.Machine

open Sys2Proof Sys2Proof.Machine

/-- Settles O47: `State.startReady_eq_some` gathers the conditions of R160. -/
theorem cycleStartTakesTheSlot : Obligations.CycleStartTakesTheSlot := by
  intro s p h
  refine ⟨fun hidle hrun hactive hpos hother hlocked havailable => ?_, ?_, ?_, fun hfails home => ?_⟩
  · have hother' : (s.moveSlot (otherParity p)).state ≠ .active ∨
        (s.moveSlot (otherParity p)).position ≠ some .p80 := hother _ (otherParity_ne p)
    refine ⟨fun c j r hkind hjob hclip hdump hcall hboard hplacement haligned hr => ?_, fun hkind hclip => ?_⟩
    · have hready := State.startReady_eq_some ⟨hrun, hactive, hpos, hlocked, havailable,
        .inl ⟨hkind, hclip, hdump, c, j, hcall, hjob, hboard, hplacement, haligned⟩⟩ hother'
      rw [exec_cycleStart h, State.cycleStart_starts hidle hready, State.startCycle_insert hkind hjob hr,
        exec_homingStart h, State.homingStart_starts hidle hready]
      exact ⟨rfl, rfl⟩
    · have hready := State.startReady_eq_some ⟨hrun, hactive, hpos, hlocked, havailable,
        .inr ⟨hkind, hclip⟩⟩ hother'
      rw [exec_cycleStart h, State.cycleStart_starts hidle hready, State.startCycle_dump hkind,
        exec_homingStart h, State.homingStart_starts hidle hready]
      exact ⟨rfl, rfl⟩
  · simp [exec_cycleStart h, State.cycleStart]
  · simp [exec_homingStart h, State.homingStart]
  · have hnone : s.head.state ≠ .idle ∨ s.startReady = none := by
      refine hfails.imp_right fun hfails => State.startReady_eq_none fun q hq => ?_
      obtain ⟨hrun, -, -, hlocked, havailable, -⟩ := hq
      rcases hfails with hf | ⟨a, hf⟩ | hf
      · exact hrun.elim hf.1 hf.2
      · exact hf (hlocked a)
      · exact havailable hf
    rw [exec_cycleStart h, exec_homingStart h, (s.start_stays hnone home).1, (s.start_stays hnone home).2]
    exact ⟨rfl, rfl⟩

/-- Settles O48, by the phase that each edge finds. -/
theorem formedAndDownMoveTheCycleOn : Obligations.FormedAndDownMoveTheCycleOn := by
  intro s h
  refine ⟨fun hform hformed => ⟨fun hlocked => ?_, fun hlocked => ?_⟩, fun hno => ?_,
    fun pl hdrive hkind hplan => ?_, fun hdrive hkind => ?_, fun hno => ?_⟩
  · have hnot : ¬ s.allLocked = true := fun hall =>
      hlocked.elim fun a ha => ha ((s.allLocked_iff).mp hall a)
    rw [exec_formed h, State.formedEdge, if_pos ⟨hform, hformed⟩, State.formEnds, if_neg fun hends => hnot hends.2.2]
  · have hall : State.allLocked { s with head := { s.head with formed := true, phaseTimer := none } } = true :=
      (s.allLocked_iff).mpr hlocked
    rw [exec_formed h, State.formedEdge, if_pos ⟨hform, hformed⟩, State.formEnds, if_pos ⟨hform, rfl, hall⟩]
  · rw [exec_formed h, State.formedEdge, if_neg]
    exact fun hboth => hno.elim (· hboth.1) fun hf => by simp [hboth.2] at hf
  · rw [exec_down h, State.downEdge, if_pos hdrive, hkind]
    exact congrArg _ (State.enterStroke_eq hplan)
  · rw [exec_down h, State.downEdge, if_pos hdrive, hkind]
    rfl
  · rw [exec_down h, State.downEdge, if_neg hno]

/-- Settles O49: the insertion is a request of the table (`State.slot?_request`, `State.board_request`). -/
theorem clinchEndInsertsThePlacement : Obligations.ClinchEndInsertsThePlacement := by
  intro s h
  refine ⟨fun hclinch _ => ?_, fun hno => ?_⟩
  · rw [exec_clinchEnd h]
    refine ⟨_, rfl, State.clinchEnd_changes hclinch, fun j p r hjob hp hr => ?_, fun hjob => ?_⟩
    · subst hp
      have hend : s.clinchEnd = s.clinched.insertionRequest j.placement (parityOf j.board) s.head.peak := by
        rw [State.clinchEnd_eq hclinch, hjob]
      rw [hend]
      refine ⟨fun hopen hcalled => ?_, fun hno => ?_⟩
      · have hslot := State.slot?_request s.clinched (n := j.placement) hr hopen hcalled
          (fun st => { st with state := .inserted, clinchPeak := some s.head.peak }) .insertion
        obtain ⟨hboard, hother⟩ := State.board_request s.clinched (n := j.placement) hr hopen hcalled
          (fun st => { st with state := .inserted, clinchPeak := some s.head.peak }) .insertion
        refine ⟨?_, fun m hm => (hslot m).trans (if_neg hm), hboard, ?_, hother⟩
        · have hcarried : (s.clinched.insertionRequest j.placement (parityOf j.board) s.head.peak).carried
              j.placement = s.clinched.carried j.placement :=
            State.carried_congr (by simp [State.insertionRequest]) _
          rw [hcarried]
          exact (hslot _).trans (if_pos rfl)
        · exact phaseEvaluated_request s.clinched (n := j.placement) hr hopen hcalled _ _
      · have hignored : s.clinched.insertionRequest j.placement (parityOf j.board) s.head.peak = s.clinched := by
          refine State.request_ignored s.clinched (hno.imp_right fun hne u hu => ?_) _ _
          have hstatus : s.statusOf j.placement (parityOf j.board) = some (r.status.get (parityOf j.board)) := by
            rw [State.statusOf, hr]
            rfl
          exact Option.some.inj (hstatus.symm.trans hu) ▸ hne
        rw [hignored]
        exact ⟨rfl, rfl⟩
    · rw [State.clinchEnd_eq hclinch, hjob]
      exact ⟨rfl, rfl⟩
  · rw [exec_clinchEnd h, State.clinchEnd, if_neg hno]

/-- Settles O51: each phase's jam is a `JamOutcome`, and CLINCH stalls. -/
theorem phaseTimeoutIsJamOrStall : Obligations.PhaseTimeoutIsJamOrStall := by
  intro s edge first h
  refine ⟨fun ph htimer hphase => ?_, fun htimer hclinch => ?_, fun hnone => ?_⟩
  · have houtcome : JamOutcome s (s.phaseTimeout edge first) edge ph := by
      rw [State.phaseTimeout, if_pos htimer]
      rcases hphase with ⟨hstate, rfl⟩ | ⟨hstate, rfl⟩ | ⟨hstate, rfl⟩ | ⟨hstate, rfl⟩ <;> rw [hstate]
      · exact .headJam edge (.formedEdge _) (by decide) (by simp [hstate])
      · exact .headJam edge (.downEdge _) (by decide) (by simp [hstate])
      · exact .headJam edge (.retractEnds _ first) (by decide) (by simp [hstate])
      · exact .homingJam s edge
    exact ⟨_, exec_phaseTimeout h edge first, houtcome.raised, houtcome.machine, houtcome.home,
      houtcome.stands, houtcome.halted⟩
  · have hstall : s.phaseTimeout edge first = s.stall := by
      rw [State.phaseTimeout, if_pos htimer, hclinch]
    rw [exec_phaseTimeout h, hstall]
    refine ⟨_, rfl, State.raised_raise_settle_of rfl rfl _ _, State.machine_raise_settle_of rfl rfl _ _,
      ?_, ?_, ?_, ?_, ?_, ?_, fun hr => ?_⟩
    iterate 6 (rw [State.drive_stall]; rfl)
    exact State.stall_stands hr (by simp [hclinch])
  · rw [exec_phaseTimeout h, State.phaseTimeout, if_neg (by simp [hnone])]
end

section
/-! PROOFS. Head clear, the activation of a move slot, and the ends of RETRACT and HOMING (R145 to R148,
R161, R165). -/

namespace Sys2Proof.Machine

/-! ## Activation (R145 to R147) -/

theorem find?_parity {f : Parity → Bool} {p : Parity} (hp : f p = true) (hother : f (otherParity p) = false) :
    [Parity.even, Parity.odd].find? f = some p := by
  cases p with
  | even => simp [hp]
  | odd =>
    have heven : f .even = false := hother
    simp [hp, heven]

theorem SlotState.activatable_iff (m : SlotState) : m.activatable = true ↔ m = .planned ∨ m = .void := by
  cases m <;> simp [SlotState.activatable]

theorem State.activate_planned {s : State} {p : Parity} {g : Quad Nat}
    (hstate : (s.moveSlot p).state = .planned) (htargets : (s.moveSlot p).targets = some g) :
    s.activate p = (s.putMoveSlot p { s.moveSlot p with state := .active }).giveTargets g := by
  simp only [State.activate, hstate, htargets]

theorem State.activate_void {s : State} {p : Parity} (hstate : (s.moveSlot p).state = .void) :
    s.activate p =
      (s.putMoveSlot p
        { s.moveSlot p with state := .active, kind := some .dump, targets := some s.dumpTargets }).giveTargets
        s.dumpTargets := by
  simp only [State.activate, hstate]

theorem State.activate_changes (s : State) (p : Parity) :
    s.activate p = { s with slots := (s.activate p).slots, axes := (s.activate p).axes } := by
  unfold State.activate
  split <;> rfl

theorem State.moveSlot_activate_ne (s : State) {p q : Parity} (h : q ≠ p) :
    (s.activate p).moveSlot q = s.moveSlot q := by
  have hput (m : MoveSlot) (g : Quad Nat) : ((s.putMoveSlot p m).giveTargets g).moveSlot q = s.moveSlot q :=
    (s.moveSlot_putMoveSlot p q m).trans (if_neg h)
  unfold State.activate
  split
  · exact hput ..
  · exact hput ..
  · rfl

/-- What an activation leaves of a PLANNED slot and of the axes. -/
theorem State.activated_planned {s : State} {p : Parity} {g : Quad Nat}
    (hstate : (s.moveSlot p).state = .planned) (htargets : (s.moveSlot p).targets = some g) :
    (s.activate p).moveSlot p = { s.moveSlot p with state := .active } ∧
      ∀ a : Axis, NewTarget s (s.activate p) a (g.get a) := by
  rw [State.activate_planned hstate htargets]
  exact ⟨(s.moveSlot_putMoveSlot p p _).trans (if_pos rfl), State.newTarget_giveTargets (s.putMoveSlot p _) g⟩

/-- What an activation leaves of a VOID slot and of the axes (R147). -/
theorem State.activated_void {s : State} {p : Parity} (hstate : (s.moveSlot p).state = .void) :
    (∃ g : Quad Nat, (∀ a : Axis, g.get a = (s.axisSettings a).dumpPosition) ∧
      (s.activate p).moveSlot p =
        { s.moveSlot p with state := .active, kind := some .dump, targets := some g }) ∧
      ∀ a : Axis, NewTarget s (s.activate p) a (s.axisSettings a).dumpPosition := by
  rw [State.activate_void hstate]
  refine ⟨⟨s.dumpTargets, dumpTargets_get s, (s.moveSlot_putMoveSlot p p _).trans (if_pos rfl)⟩, fun a => ?_⟩
  rw [← dumpTargets_get]
  exact State.newTarget_giveTargets (s.putMoveSlot p _) s.dumpTargets a

theorem exec_slotActivation {s : State} (h : Live s) : exec .slotActivation s = .next s.slotActivation :=
  event_live h State.slotActivation

theorem State.mayActivate_iff (s : State) (p : Parity) :
    s.mayActivate p = true ↔
      ((s.moveSlot p).state = .planned ∨ (s.moveSlot p).state = .void) ∧
        (s.moveSlot p).position = some .p80 ∧ (s.moveSlot (otherParity p)).state ≠ .active ∧
        s.exchange.leg = .idle ∧ (s.machine.state = .running ∨ s.machine.state = .draining) := by
  simp [State.mayActivate, SlotState.activatable_iff, State.exchangeInFlight, State.working_iff, and_assoc]

theorem State.slotActivation_activates {s : State} {p : Parity} (hmay : s.mayActivate p = true)
    (hother : (s.moveSlot (otherParity p)).position ≠ some .p80) :
    s.slotActivation = (s.activate p).headJudge := by
  have hnot : s.mayActivate (otherParity p) = false := by
    rw [Bool.eq_false_iff, ne_eq, State.mayActivate_iff]
    exact fun h => hother h.2.1
  simp only [State.slotActivation, State.activatableAt80, find?_parity hmay hnot]

theorem State.slotActivation_stays {s : State} (h : ∀ p, ¬ s.mayActivate p = true) : s.slotActivation = s := by
  have hnone : s.activatableAt80 = none := by
    simp [State.activatableAt80, h]
  simp only [State.slotActivation, hnone]

theorem State.headJudge_changes (s : State) (p : Parity) :
    (s.activate p).headJudge =
      { s with
        slots := (s.activate p).headJudge.slots, axes := (s.activate p).headJudge.axes
        chain := { s.chain with indexState := (s.activate p).headJudge.chain.indexState } } := by
  rw [s.activate_changes p]
  simp only [State.headJudge_frame]
  exact State.headJudge_eq _

/-! ## The ends of PAUSING and DRAINING, as they reach the other records (R185, R187) -/

theorem State.settle_changes (s : State) :
    s.settle =
      { s with
        chain := { s.chain with indexState := s.settle.chain.indexState }
        machine := s.settle.machine, slots := s.settle.slots, axes := s.settle.axes } := by
  unfold State.settle State.drainEnd State.endDraining State.pausingQuiet
  split <;> split <;> rfl

/-- Unless DRAINING ends, the ends change the machine state alone. -/
theorem State.settle_stands {s : State} (h : s.machine.state ≠ .draining ∨ s.settle.machine.state ≠ .stopped) :
    s.settle = { s with machine := s.settle.machine } := by
  have hnot : ¬ (s.pausingQuiet.machine.state = .draining ∧ s.pausingQuiet.drainedOut = true) := by
    rintro ⟨hd, hout⟩
    have hsettle : s.settle = s.pausingQuiet.endDraining := if_pos ⟨hd, hout⟩
    rcases h with h | h
    · unfold State.pausingQuiet at hd
      split at hd
      · simp at hd
      · exact h hd
    · exact h (by rw [hsettle]; rfl)
  have hsettle : s.settle = s.pausingQuiet := if_neg hnot
  rw [hsettle]
  unfold State.pausingQuiet
  split <;> rfl

/-! ## Head clear (R146, R165) -/

theorem exec_headClear {s : State} (h : Live s) (first : Bool) :
    exec (.headClear first) s = .next (s.headClear first) :=
  event_live h fun s => s.headClear first

theorem exec_homeRise {s : State} (h : Live s) (first : Bool) :
    exec (.homeRise first) s = .next (s.homeRise first) :=
  event_live h fun s => s.homeRise first

/-- The index is requested unless one is under way. -/
theorem State.requestIndex_eq (s : State) :
    s.requestIndex =
      { s with
        chain :=
          { s.chain with
            indexState := if s.chain.indexState = .idle then .requested else s.chain.indexState } } := by
  unfold State.requestIndex
  split
  next h => simp [h]
  next h => rw [if_neg h]

/-- The head's field and the release of its slot, with which head clear begins (R165). -/
def State.cleared (s : State) (p : Parity) : State :=
  State.releaseSlot { s with head := { s.head with cleared := true } } p

theorem State.moveSlot_cleared (s : State) (p : Parity) :
    (s.cleared p).moveSlot p = { s.moveSlot p with state := .free, position := none } :=
  (State.moveSlot_putMoveSlot ..).trans (if_pos rfl)

theorem State.moveSlot_cleared_other (s : State) (p : Parity) :
    (s.cleared p).moveSlot (otherParity p) = s.moveSlot (otherParity p) :=
  (State.moveSlot_putMoveSlot ..).trans (if_neg (otherParity_ne p))

theorem State.headClearSteps_eq {s : State} {p : Parity} (h : s.head.slot = some p) (first : Bool) :
    s.headClearSteps first =
      (if first then (s.cleared p).exchangeIfMay else s.cleared p).earlyActivation.requestIndex := by
  have hrelease : State.releaseCycleSlot { s with head := { s.head with cleared := true } } = s.cleared p := by
    unfold State.releaseCycleSlot
    split
    next q hq =>
      obtain rfl := Option.some.inj (h.symm.trans hq)
      rfl
    next hq => cases h.symm.trans hq
  simp only [State.headClearSteps, hrelease]

/-- At head clear only the slot that the cycle does not hold may be activated (R146). -/
theorem State.earlyActivation_cleared {s : State} {p : Parity}
    (hrun : s.machine.state = .running ∨ s.machine.state = .draining) (hleg : s.exchange.leg = .idle)
    (hstate : (s.moveSlot (otherParity p)).state = .planned ∨ (s.moveSlot (otherParity p)).state = .void)
    (hpos : (s.moveSlot (otherParity p)).position = some .p79) :
    (s.cleared p).earlyActivation = (s.cleared p).activate (otherParity p) := by
  have hmay : ¬ ((s.cleared p).exchangeInFlight || !(s.cleared p).working) = true := by
    have hworking : (s.cleared p).working = true := ((s.cleared p).working_iff).mpr hrun
    have hidle : (s.cleared p).exchange.leg = .idle := hleg
    simp [State.exchangeInFlight, hworking, hidle]
  have hfree : ((s.cleared p).moveSlot (otherParity (otherParity p))).state.activatable = false := by
    rw [otherParity_otherParity, State.moveSlot_cleared]
    rfl
  rw [State.earlyActivation, if_neg hmay, find?_parity (p := otherParity p)]
  · rw [State.moveSlot_cleared_other, (SlotState.activatable_iff _).mpr hstate, hpos]
    rfl
  · rw [hfree]
    rfl

theorem State.earlyActivation_stays {s : State} {p : Parity}
    (h : (s.machine.state ≠ .running ∧ s.machine.state ≠ .draining) ∨ s.exchange.leg ≠ .idle ∨
      (s.moveSlot (otherParity p)).position ≠ some .p79 ∨
      ((s.moveSlot (otherParity p)).state ≠ .planned ∧ (s.moveSlot (otherParity p)).state ≠ .void)) :
    (s.cleared p).earlyActivation = s.cleared p := by
  unfold State.earlyActivation
  split
  · rfl
  next hmay =>
    simp only [State.exchangeInFlight, Bool.or_eq_true, decide_eq_true_eq, Bool.not_eq_true',
      not_or, not_not, Bool.not_eq_false, State.working_iff] at hmay
    obtain ⟨hleg, hrun⟩ := hmay
    split
    next q hq =>
      have hfound := List.find?_some hq
      simp only [Bool.and_eq_true, SlotState.activatable_iff, decide_eq_true_eq] at hfound
      obtain ⟨hstate, hpos⟩ := hfound
      rcases eq_or_eq_otherParity p q with rfl | rfl
      · simp [State.moveSlot_cleared] at hpos
      · rw [State.moveSlot_cleared_other] at hstate hpos
        rcases h with hf | hf | hf | hf
        · exact absurd hrun (not_or.mpr hf)
        · exact absurd hleg hf
        · exact absurd hpos hf
        · exact absurd hstate (not_or.mpr hf)
    next => rfl

theorem State.earlyActivation_changes (s : State) :
    s.earlyActivation = { s with slots := s.earlyActivation.slots, axes := s.earlyActivation.axes } := by
  unfold State.earlyActivation
  split
  · rfl
  · split
    · exact s.activate_changes _
    · rfl

theorem State.moveSlot_earlyActivation_self (s : State) (p : Parity) :
    (s.cleared p).earlyActivation.moveSlot p = (s.cleared p).moveSlot p := by
  unfold State.earlyActivation
  split
  · rfl
  · split
    next q hq =>
      have hfound := List.find?_some hq
      simp only [Bool.and_eq_true, decide_eq_true_eq] at hfound
      refine State.moveSlot_activate_ne _ fun hpq => ?_
      subst hpq
      simp [State.moveSlot_cleared] at hfound
    next => rfl

/-- No slot is activated while an exchange is in flight (R146). -/
theorem State.earlyActivation_of_exchange {s : State} (h : s.exchange.leg ≠ .idle) : s.earlyActivation = s :=
  if_pos (by simp [State.exchangeInFlight, h])

theorem State.headClear_takes {s : State} {p : Parity} (hretract : s.head.state = .retract)
    (hcleared : s.head.cleared = false) (hslot : s.head.slot = some p) (first : Bool) :
    s.headClear first =
      (if first then (s.cleared p).exchangeIfMay else s.cleared p).earlyActivation.requestIndex := by
  rw [State.headClear, if_pos ⟨hretract, hcleared⟩, State.headClearSteps_eq hslot]

theorem State.headClear_ignored {s : State} (h : s.head.state ≠ .retract ∨ s.head.cleared = true) (first : Bool) :
    s.headClear first = s :=
  if_neg fun hboth => h.elim (· hboth.1) fun hc => by simp [hboth.2] at hc

/-- Head clear without an exchange changes the head's mark, the slots, the axes and the index request. -/
theorem State.requestIndex_cleared (s : State) (p : Parity) :
    (s.cleared p).earlyActivation.requestIndex =
      { s with
        head := { s.head with cleared := true }
        slots := (s.cleared p).earlyActivation.requestIndex.slots
        axes := (s.cleared p).earlyActivation.requestIndex.axes
        chain :=
          { s.chain with
            indexState := if s.chain.indexState = .idle then .requested else s.chain.indexState } } := by
  rw [State.requestIndex_eq, (s.cleared p).earlyActivation_changes]
  rfl

theorem State.moveSlot_requestIndex (s : State) (p : Parity) : s.requestIndex.moveSlot p = s.moveSlot p :=
  moveSlot_congr (by simp) p

/-! ## The exchange that head clear may begin (R33) -/

theorem State.exchangeIfMay_changes (s : State) :
    s.exchangeIfMay =
      { s with
        boards := s.exchangeIfMay.boards, exchange := s.exchangeIfMay.exchange, axes := s.exchangeIfMay.axes } := by
  have hframe := s.exchangeIfMay_frame
  generalize s.exchangeIfMay = t at hframe ⊢
  cases s
  cases t
  simp_all

theorem State.exchangeIfMay_begun {s : State}
    (hrun : s.machine.state = .running ∨ s.machine.state = .draining)
    (hleg : s.exchange.leg = .idle) (hactive : ∀ p, (s.moveSlot p).state ≠ .active)
    (hcalled : ExchangeCalled s) : ExchangeBegun s s.exchangeIfMay := by
  cases hcomplete : s.completeOnTable with
  | some p =>
    have hfound := List.find?_some hcomplete
    simp only [Bool.and_eq_true, decide_eq_true_eq] at hfound
    obtain ⟨hp, hc⟩ := hfound
    have hbegins : s.exchangeIfMay =
        (s.putBoard p { s.board p with tableState := .unloading }).beginMove .unload
          (some { parity := p, number := (s.board p).number }) := by
      have hphase : ((s.putBoard p { s.board p with tableState := .unloading }).board p).phase = .complete := by
        simpa using hc
      rw [State.exchangeIfMay, if_pos (State.exchangeReady hrun hleg hactive), hcomplete]
      dsimp only
      rw [State.evalPhase_complete hphase]
    rw [hbegins]
    refine ⟨rfl, State.newTarget_beginMove (s.putBoard p _) _ _, fun q hq hqc hothers => ?_, fun hempty => ?_⟩
    · obtain rfl : q = p :=
        Option.some.inj ((State.completeOnTable_eq_some hq hqc hothers).symm.trans hcomplete)
      exact ⟨rfl, rfl, (Pair.get_put ..).trans (if_pos rfl),
        (Pair.get_put ..).trans (if_neg (otherParity_ne q))⟩
    · simp [hempty p] at hp
  | none =>
    have hnone := (s.completeOnTable_eq_none_iff).mp hcomplete
    obtain ⟨hempty, hnext⟩ := hcalled.resolve_left fun ⟨p, hp, hc⟩ => hnone p hp hc
    rw [State.exchangeIfMay_emptyTable hrun hleg hactive hempty (hnext.imp_right fun ⟨p, hp, _⟩ => ⟨p, hp⟩)]
    exact ⟨rfl, s.newTarget_beginMove _ none, fun q hq => by simp [hempty q] at hq,
      fun _ => ⟨rfl, rfl, rfl⟩⟩

/-- Where an exchange begins at the release, no slot is activated (R33, R146). -/
theorem State.requestIndex_exchanged {s : State} {p : Parity} (hbegun : ExchangeBegun (s.cleared p)
      (s.cleared p).exchangeIfMay) :
    (s.cleared p).exchangeIfMay.earlyActivation.requestIndex =
      { s with
        head := { s.head with cleared := true }
        slots := (s.cleared p).slots
        axes := (s.cleared p).exchangeIfMay.axes
        boards := (s.cleared p).exchangeIfMay.boards
        exchange := (s.cleared p).exchangeIfMay.exchange
        chain :=
          { s.chain with
            indexState := if s.chain.indexState = .idle then .requested else s.chain.indexState } } := by
  have hleg : (s.cleared p).exchangeIfMay.exchange.leg ≠ .idle := by
    rw [show (s.cleared p).exchangeIfMay.exchange.leg = .move from congrArg Exchange.leg hbegun.1]
    decide
  rw [State.earlyActivation_of_exchange hleg, State.requestIndex_eq, (s.cleared p).exchangeIfMay_changes]
  rfl

/-- No slot stays ACTIVE beside the cleared one. -/
theorem State.noneActive_cleared {s : State} {p : Parity} (h : (s.moveSlot (otherParity p)).state ≠ .active)
    (q : Parity) : ((s.cleared p).moveSlot q).state ≠ .active := by
  rcases eq_or_eq_otherParity p q with rfl | rfl
  · simp [State.moveSlot_cleared]
  · rwa [State.moveSlot_cleared_other]

/-! ## The ends of RETRACT and HOMING (R161, R165) -/

theorem State.homeRise_retract {s : State} (h : s.head.state = .retract) (first : Bool) :
    s.homeRise first = (s.retractEnds first).settle := by
  simp only [State.homeRise, h]

theorem State.homeRise_homing {s : State} (h : s.head.state = .homing) (first : Bool) :
    s.homeRise first = s.homingArrives.settle := by
  simp only [State.homeRise, h]

/-- The head's judgment at 80 and the ends of PAUSING and DRAINING, as the last steps of an event. -/
theorem State.settle_headJudge_changes (s : State) :
    s.headJudge.settle =
      { s with
        chain := { s.chain with indexState := s.headJudge.settle.chain.indexState }
        machine := s.headJudge.settle.machine, slots := s.headJudge.settle.slots
        axes := s.headJudge.settle.axes } := by
  rw [State.headJudge_eq]
  exact State.settle_changes _

/-- What those steps leave, in the words of the statements. -/
theorem State.settle_headJudge {s u : State} (hm : u.machine = s.machine) (ha : u.axes = s.axes)
    (hs : u.slots = s.slots) :
    u.headJudge.settle.machine.state = s.machine.state.settledIn u.headJudge.settle ∧
      (∀ a : Axis, u.headJudge.settle.axis a = (s.axis a).settledIn s u.headJudge.settle) ∧
      (s.machine.state ≠ .draining ∨ u.headJudge.settle.machine.state ≠ .stopped →
        u.headJudge.settle.slots = s.slots) := by
  refine ⟨State.settledIn_settle_of (by simp [hm]), fun a => State.axis_settle_of (by simp [hm])
    (axis_congr (by simp [ha]) a), fun hstands => ?_⟩
  rw [State.settle_stands (by simpa [hm] using hstands)]
  simp [hs]

theorem State.head_headClearSteps (s : State) (first : Bool) :
    (s.headClearSteps first).head = { s.head with cleared := true } := by
  cases first <;> simp [State.headClearSteps]

theorem State.chain_headClearSteps (s : State) (first : Bool) :
    (s.headClearSteps first).chain =
      { s.chain with
        indexState := if s.chain.indexState = .idle then .requested else s.chain.indexState } := by
  cases first <;> simp [State.headClearSteps, State.requestIndex_eq]

/-- A judgment leaves an index that is requested or under way. -/
theorem State.headJudge_of_busy {s : State} (h : s.chain.indexState ≠ .idle) : s.headJudge = s := by
  unfold State.headJudge State.requestIndex
  split
  · split
    · contradiction
    · rfl
  · rfl

theorem State.retractEnds_cleared {s : State} (h : s.head.cleared = true) (first : Bool) :
    s.retractEnds first = State.headJudge { s with head := s.head.ended } := by
  rw [State.retractEnds, State.headClear_ignored (.inr h)]

theorem State.retractEnds_uncleared {s : State} (hretract : s.head.state = .retract)
    (h : s.head.cleared = false) (first : Bool) :
    s.retractEnds first =
      { s.headClearSteps first with head := (s.headClearSteps first).head.ended } := by
  have hclear : s.headClear first = s.headClearSteps first := if_pos ⟨hretract, h⟩
  rw [State.retractEnds, hclear]
  refine State.headJudge_of_busy ?_
  rw [State.chain_headClearSteps]
  dsimp only
  split
  · decide
  · assumption

/-- The clip of a cycle that may start is there for the head to handle (R159, R160). -/
theorem StartConditions.handled {s : State} {p : Parity} (h : StartConditions s p) :
    (s.clip 80).state.nothingToHandle = false := by
  obtain ⟨-, -, -, -, -, ⟨-, hclip, -⟩ | ⟨-, hclip | ⟨hclip, -⟩⟩⟩ := h <;> rw [hclip] <;> rfl

theorem State.homingEnds_of_handled {s : State} (h : (s.clip 80).state.nothingToHandle = false) :
    s.homingEnds = { s with head := { s.head with state := .idle, phaseTimer := none } } := by
  exact if_neg fun hjudges => Bool.eq_false_iff.mp h hjudges.2.2

/-- A cycle that starts is in flight, so that DRAINING does not end at it (R181, R187). -/
theorem State.settle_startCycle (s : State) (p : Parity) :
    (s.startCycle p).settle = s.startCycle p :=
  (s.startCycle p).settle_of_settled (settledHolds_of_busy (State.quiet_of_head rfl))

theorem State.homeRise_starts {s : State} {p : Parity} (hhoming : s.head.state = .homing)
    (h : StartConditions s p)
    (hother : (s.moveSlot (otherParity p)).state ≠ .active ∨
      (s.moveSlot (otherParity p)).position ≠ some .p80) (first : Bool) :
    s.homeRise first =
      State.startCycle { s with head := { s.head with state := .idle, phaseTimer := none } } p := by
  have hready := State.startReady_eq_some h hother
  rw [State.homeRise_homing hhoming, State.homingArrives_starts s hready,
    State.homingEnds_of_handled h.handled]
  exact State.settle_startCycle _ p

end Sys2Proof.Machine

open Sys2Proof Sys2Proof.Machine

/-- Settles O43, by what an activation leaves of a PLANNED and of a VOID slot. -/
theorem slotActivationGivesTargets : Obligations.SlotActivationGivesTargets := by
  refine ⟨fun s p h hrun hleg hpos hactive hother => ⟨fun g hstate htargets => ?_, fun hstate => ?_⟩,
    fun s h hno => ?_⟩
  · have hmay := (s.mayActivate_iff p).mpr ⟨.inl hstate, hpos, hactive, hleg, hrun⟩
    obtain ⟨hslot, hnew⟩ := State.activated_planned hstate htargets
    rw [exec_slotActivation h, State.slotActivation_activates hmay hother]
    refine ⟨_, rfl, s.headJudge_changes p, ?_, ?_, fun a => newTarget_congr (by simp) (hnew a)⟩
    · rw [State.moveSlot_headJudge, hslot]
    · rw [State.moveSlot_headJudge, s.moveSlot_activate_ne (otherParity_ne p)]
  · have hmay := (s.mayActivate_iff p).mpr ⟨.inr hstate, hpos, hactive, hleg, hrun⟩
    obtain ⟨hslot, hnew⟩ := State.activated_void hstate
    rw [exec_slotActivation h, State.slotActivation_activates hmay hother]
    refine ⟨_, rfl, s.headJudge_changes p, ?_, ?_, fun a => newTarget_congr (by simp) (hnew a)⟩
    · rwa [State.moveSlot_headJudge]
    · rw [State.moveSlot_headJudge, s.moveSlot_activate_ne (otherParity_ne p)]
  · rw [exec_slotActivation h, State.slotActivation_stays fun p hp => ?_]
    obtain ⟨hstate, hpos, -, hleg, hrun⟩ := (s.mayActivate_iff p).mp hp
    rcases hno with hf | hf | hf
    · exact not_or.mpr hf hrun
    · exact hf hleg
    · exact not_or.mpr (hf p hpos) hstate

/-- Settles O50: head clear is the release of the slot and what follows it; the two ends of HOME go by the
state of the head. -/
theorem headClearAndHomeEndTheCycle : Obligations.HeadClearAndHomeEndTheCycle := by
  intro s p first h
  refine ⟨fun hretract hcleared hslot => ?_, fun hretract hcleared hslot hrun hleg hactive hcalled => ?_,
    fun hslot hno => ?_, fun hretract hcleared => ⟨?_, ?_⟩, fun hretract hcleared => ?_, fun hhoming => ?_,
    fun hhoming hready hother => ⟨fun hkind => ?_, fun hkind j hjob r hr => ?_⟩, fun hhoming hnone => ?_,
    fun hretract hhoming => ?_⟩
  · have hclear : s.headClear false = (s.cleared p).earlyActivation.requestIndex :=
      State.headClear_takes hretract hcleared hslot false
    rw [exec_headClear h, hclear]
    refine ⟨_, rfl, s.requestIndex_cleared p, ?_, fun g hrun hleg hstate hpos htargets => ?_,
      fun hrun hleg hstate hpos => ?_, fun hno => ?_⟩
    · rw [State.moveSlot_requestIndex, State.moveSlot_earlyActivation_self, State.moveSlot_cleared]
    · have hother := s.moveSlot_cleared_other p
      obtain ⟨hact, hnew⟩ := State.activated_planned (s := s.cleared p) (p := otherParity p)
        (by rw [hother, hstate]) (by rw [hother, htargets])
      rw [State.moveSlot_requestIndex, State.earlyActivation_cleared hrun hleg (.inl hstate) hpos, hact, hother]
      exact ⟨rfl, fun a => newTarget_congr (by simp) (hnew a)⟩
    · have hother := s.moveSlot_cleared_other p
      obtain ⟨hact, hnew⟩ := State.activated_void (s := s.cleared p) (p := otherParity p)
        (by rw [hother, hstate])
      rw [hother] at hact
      rw [State.moveSlot_requestIndex, State.earlyActivation_cleared hrun hleg (.inr hstate) hpos]
      exact ⟨hact, fun a => newTarget_congr (by simp) (hnew a)⟩
    · rw [State.moveSlot_requestIndex, State.earlyActivation_stays hno, State.moveSlot_cleared_other]
      exact ⟨rfl, by simp [State.cleared]⟩
  · have hbegun : ExchangeBegun (s.cleared p) (s.cleared p).exchangeIfMay :=
      State.exchangeIfMay_begun (s := s.cleared p) hrun hleg (State.noneActive_cleared hactive) hcalled
    have hclear : s.headClear true = (s.cleared p).exchangeIfMay.earlyActivation.requestIndex :=
      State.headClear_takes hretract hcleared hslot true
    rw [exec_headClear h, hclear, State.requestIndex_exchanged hbegun]
    exact ⟨_, rfl, rfl, s.moveSlot_cleared p, s.moveSlot_cleared_other p, hbegun⟩
  · rw [exec_headClear h, exec_headClear h]
    by_cases hretract : s.head.state = .retract
    · cases hcleared : s.head.cleared with
      | true => rw [State.headClear_ignored (.inr hcleared), State.headClear_ignored (.inr hcleared)]
      | false =>
        have hstays : (s.cleared p).exchangeIfMay = s.cleared p := by
          refine State.exchangeIfMay_stays ?_
          rcases hno with hf | hf | hf | hf
          · exact .inl hf
          · exact .inr (.inl hf)
          · exact .inr (.inr (.inl ⟨otherParity p, by rwa [State.moveSlot_cleared_other]⟩))
          · exact .inr (.inr (.inr hf))
        rw [State.headClear_takes hretract hcleared hslot, State.headClear_takes hretract hcleared hslot, hstays]
        rfl
    · rw [State.headClear_ignored (.inl hretract), State.headClear_ignored (.inl hretract)]
  · rw [exec_headClear h, State.headClear_ignored (.inr hcleared)]
  · rw [exec_homeRise h, State.homeRise_retract hretract, State.retractEnds_cleared hcleared]
    exact ⟨_, rfl, State.settle_headJudge_changes _,
      State.settle_headJudge (u := { s with head := s.head.ended }) rfl rfl rfl⟩
  · have hclear : s.headClear first = s.headClearSteps first := if_pos ⟨hretract, hcleared⟩
    rw [exec_homeRise h, State.homeRise_retract hretract, State.retractEnds_uncleared hretract hcleared,
      exec_headClear h, hclear]
    refine ⟨_, rfl, by simp [Head.ended], by simp [Head.ended], ?_, ?_, State.settledIn_settle_of (by simp),
      fun hstands => ?_, _, rfl, ?_, fun hstands => ?_⟩
    · simp [Head.ended, State.head_headClearSteps]
    · simp [Head.ended, State.head_headClearSteps]
    · rw [State.settle_stands (by simpa using hstands)]
      simp [State.chain_headClearSteps]
    · simp only [State.settle_frame]
      exact State.settle_changes _
    · rw [State.settle_stands (by simpa using hstands)]
      exact ⟨rfl, rfl⟩
  · rw [exec_headClear h, State.headClear_ignored (.inl (by simp [hhoming]))]
  · rw [exec_homeRise h, State.homeRise_starts hhoming hready hother]
    exact congrArg _ (State.startCycle_dump hkind)
  · rw [exec_homeRise h, State.homeRise_starts hhoming hready hother]
    exact congrArg _ (State.startCycle_insert hkind hjob hr)
  · rw [exec_homeRise h, State.homeRise_homing hhoming,
      State.homingArrives_stays s (State.startReady_eq_none hnone), State.homingEnds]
    exact ⟨_, rfl, State.settle_headJudge_changes _, State.settle_headJudge (s := s) rfl rfl rfl⟩
  · rw [exec_headClear h, State.headClear_ignored (.inl hretract), exec_homeRise h, State.homeRise]
    refine ⟨rfl, ?_⟩
    split
    · contradiction
    · contradiction
    · rfl
end

section
/-! PROOFS. Position samples, lost locks and lock timers (R152 to R154), and the end of a MOVE leg
(R34, R36, R39). -/

namespace Sys2Proof.Machine

/-! ## Axis records at the end of an event (R185, R187) -/

theorem State.axis_settle_eq {s u : State} {a : Axis} {r : AxisRecord}
    (hm : u.machine.state = s.machine.state) (ha : u.axis a = r) :
    u.settle.axis a = r.settledIn s u.settle := by
  rw [u.axis_settle, ha, AxisRecord.settledIn_congr hm]

/-- While the machine is not quiet neither PAUSING nor DRAINING ends. -/
theorem State.settle_of_busy {s : State} (h : s.quiet = false) : s.settle = s :=
  s.settle_of_settled (settledHolds_of_busy h)

/-- A raising without HALT leaves the machine in its state, or takes it to PAUSING or PAUSED (R194). -/
theorem State.machine_raise_cases {s : State} {k : AlarmKind} (hr : (s.alarm k).reaction ≠ .halt)
    (src : Option Source) :
    (s.raise k src).machine.state = s.machine.state ∨ (s.raise k src).machine.state = .pausing ∨
      (s.raise k src).machine.state = .paused := by
  have hmachine := (s.raiseRecord k src).machine_react (s.alarm k).reaction
  change (s.raise k src).machine.state = _ at hmachine
  rw [hmachine]
  split
  · exact .inr (.inr rfl)
  · cases hreaction : (s.alarm k).reaction with
    | halt => exact absurd hreaction hr
    | note => exact .inl (by simp [MachineAfter])
    | pause => cases hm : s.machine.state <;> simp [MachineAfter, hm]

/-- Such a raising moves no axis, whatever ends at it. -/
theorem State.axis_raise_settle {s : State} {k : AlarmKind} (hr : (s.alarm k).reaction ≠ .halt)
    (src : Option Source) (a : Axis) :
    (s.raise k src).settle.axis a = (s.axis a).settledIn s (s.raise k src).settle := by
  obtain ⟨-, -, -, -, -, -, haxes, -⟩ := s.raise_of_ne_halt k src hr
  have haxis : (s.raise k src).axis a = s.axis a := axis_congr haxes a
  rw [State.axis_settle, haxis]
  rcases State.machine_raise_cases hr src with hsame | hpause
  · exact AxisRecord.settledIn_congr hsame _
  · have hends := (s.raise k src).settledIn_settle
    have hdraining : (s.raise k src).machine.state ≠ .draining := by
      rcases hpause with hp | hp <;> simp [hp]
    have hstopped : (s.raise k src).settle.machine.state ≠ .stopped := by
      rw [hends]
      rcases hpause with hp | hp <;> rw [hp]
      · simp only [MachineState.settledIn]
        split <;> simp
      · simp [MachineState.settledIn]
    rw [AxisRecord.settledIn, if_neg fun h => hdraining h.1, AxisRecord.settledIn, if_neg fun h => hstopped h.2]

/-- No reaction and no end changes a target, or starts a lock timer (R155). -/
theorem State.axis_raise_settle_kept (s : State) (k : AlarmKind) (src : Option Source) (a : Axis) :
    (s.raise k src).settle.axis a = s.axis a ∨ (s.raise k src).settle.axis a = (s.axis a).idled := by
  have hreact := (s.raiseRecord k src).axis_react (s.alarm k).reaction a
  have hrecord : (s.raiseRecord k src).axis a = s.axis a := axis_congr (by simp) a
  change (s.raise k src).axis a = _ ∨ (s.raise k src).axis a = _ at hreact
  rw [hrecord] at hreact
  rw [State.axis_settle, AxisRecord.settledIn]
  split
  · exact .inr (hreact.elim (fun hr => by rw [hr]; rfl) (fun hr => by rw [hr]; rfl))
  · exact hreact

theorem State.target_raise_settle (s : State) (k : AlarmKind) (src : Option Source) (a : Axis) :
    ((s.raise k src).settle.axis a).target = (s.axis a).target := by
  rcases s.axis_raise_settle_kept k src a with h | h
  · rw [h]
  · rw [h]; rfl

theorem State.lockTimer_raise_settle {s : State} {a : Axis} (h : (s.axis a).lockTimer = none) (k : AlarmKind)
    (src : Option Source) : ((s.raise k src).settle.axis a).lockTimer = none := by
  rcases s.axis_raise_settle_kept k src a with hr | hr
  · rw [hr, h]
  · rw [hr]; rfl

/-- The lock timer of an axis stopped, before the raising of its expiry (R154). -/
def State.stoppedTimer (s : State) (a : Axis) : State := s.putAxis a { s.axis a with lockTimer := none }

theorem State.axis_stoppedTimer (s : State) (a : Axis) :
    (s.stoppedTimer a).axis a = { s.axis a with lockTimer := none } :=
  (s.axis_putAxis a a _).trans (if_pos rfl)

theorem State.axis_stoppedTimer_ne (s : State) {a b : Axis} (h : b ≠ a) :
    (s.stoppedTimer a).axis b = s.axis b :=
  (s.axis_putAxis a b _).trans (if_neg h)

/-! ## Samples (R152, R153) -/

/-- The sample stored in its axis record, before what it ends. -/
def State.sampledAt (s : State) (a : Axis) (count : Nat) : State :=
  s.putAxis a ((s.axis a).sampled (s.axisSettings a) count)

theorem State.axis_sampledAt (s : State) (a : Axis) (count : Nat) :
    (s.sampledAt a count).axis a = (s.axis a).sampled (s.axisSettings a) count :=
  (s.axis_putAxis a a _).trans (if_pos rfl)

theorem State.axis_sampledAt_ne (s : State) {a b : Axis} (h : b ≠ a) (count : Nat) :
    (s.sampledAt a count).axis b = s.axis b :=
  (s.axis_putAxis a b _).trans (if_neg h)

theorem exec_positionSample {s : State} (h : Live s) (a : Axis) (count : Sample) (present : Bool) :
    exec (.positionSample a count present) s = .next (s.positionSample a count.toNat present) :=
  event_live h fun s => s.positionSample a count.toNat present

theorem exec_lockTimeout {s : State} (h : Live s) (a : Axis) :
    exec (.lockTimeout a) s = .next (s.lockTimeout a) :=
  event_live h fun s => s.lockTimeout a

theorem AxisRecord.losesLock_iff (r : AxisRecord) (g : AxisSettings) (count : Nat) :
    r.losesLock g count = true ↔
      r.state = .locked ∧ g.lockWindow < distance count r.target ∧ g.unlockCount ≤ min 15 (r.outRun + 1) := by
  simp [AxisRecord.losesLock, saturate, and_assoc]

theorem Head.needsLock_iff (h : Head) :
    h.needsLock = true ↔ h.state = .drive ∨ h.state = .clinch ∨ h.state = .retract := by
  unfold Head.needsLock
  split <;> simp_all

theorem State.positionSample_kept {s : State} {a : Axis} {count : Nat}
    (h : (s.axis a).losesLock (s.axisSettings a) count = false ∨ s.head.needsLock = false) (present : Bool) :
    s.positionSample a count present = ((s.sampledAt a count).axesChanged present).settle := by
  have hnot : ¬ ((s.axis a).losesLock (s.axisSettings a) count && s.head.needsLock) = true := by
    rcases h with h | h <;> simp [h]
  rw [State.positionSample]
  exact if_neg hnot

theorem State.positionSample_lost {s : State} {a : Axis} {count : Nat}
    (h : (s.axis a).losesLock (s.axisSettings a) count = true) (hneeds : s.head.needsLock = true)
    (present : Bool) :
    s.positionSample a count present =
      (((s.sampledAt a count).axesChanged present).raise .axisFollow (some (.axis a))).settle := by
  rw [State.positionSample]
  exact if_pos (by simp [h, hneeds])

theorem AxisRecord.sampled_lost {r : AxisRecord} {g : AxisSettings} {count : Nat} (hlocked : r.state = .locked)
    (hout : g.lockWindow < distance count r.target) (hcount : g.unlockCount ≤ min 15 (r.outRun + 1)) :
    r.sampled g count =
      { r with
        lastPosition := some count
        state := if distance count r.target ≤ g.settleWindow then .settle else .slew
        inRun := 0, outRun := 0, lockTimer := some g.lockTimeout } := by
  simp only [AxisRecord.sampled, hlocked, AxisRecord.sampleLocked, AxisRecord.errorOf, saturate,
    if_neg (Nat.not_le.mpr hout), if_pos hcount]

theorem AxisRecord.sampled_locks {r : AxisRecord} {g : AxisSettings} {count : Nat} (hsettle : r.state = .settle)
    (hin : distance count r.target ≤ g.lockWindow) (hcount : g.lockCount ≤ min 15 (r.inRun + 1)) :
    (r.sampled g count).state = .locked := by
  simp only [AxisRecord.sampled, hsettle, AxisRecord.sampleSettle, AxisRecord.errorOf, saturate,
    if_pos hin, if_pos hcount]

/-! ## The end of a MOVE leg (R34, R36, R39) -/

theorem State.moveLegEnd_stays {s : State} (h : s.exchange.leg ≠ .move ∨ s.allLocked = false) (present : Bool) :
    s.moveLegEnd present = s :=
  if_neg fun hboth => h.elim (· hboth.1) fun hl => by simp [hboth.2] at hl

theorem State.moveLegEnd_transfers {s : State} (hleg : s.exchange.leg = .move) (hlocked : s.allLocked = true)
    (hp : s.pausing = false) {present : Bool} (h : s.exchange.kind = .unload ∨ present = false) :
    s.moveLegEnd present = s.beginTransfer := by
  have hnot : ¬ (s.exchange.kind = .load ∧ present = true) := by
    rcases h with h | h <;> simp [h]
  simp [State.moveLegEnd, hleg, hlocked, hnot, hp]

theorem State.moveLegEnd_clamps {s : State} (hleg : s.exchange.leg = .move) (hlocked : s.allLocked = true)
    (hp : s.pausing = false) (hload : s.exchange.kind = .load) :
    s.moveLegEnd true = s.beginClamping := by
  simp [State.moveLegEnd, hleg, hlocked, hload, State.clampNext, hp]

theorem State.moveLegEnd_waits {s : State} (hleg : s.exchange.leg = .move) (hlocked : s.allLocked = true)
    (hp : s.pausing = true) (present : Bool) :
    s.moveLegEnd present =
      s.waitWith (if s.exchange.kind = .load ∧ present = true then .clamping else .transfer) := by
  rw [State.moveLegEnd, if_pos ⟨hleg, hlocked⟩]
  by_cases hload : s.exchange.kind = .load ∧ present = true
  · rw [if_pos hload, if_pos hload, State.clampNext, if_pos hp]
  · rw [if_neg hload, if_neg hload, if_pos hp]

/-- A sample that leaves an axis unlocked ends neither FORM nor MOVE. -/
theorem State.axesChanged_unlocked {s : State} (h : s.allLocked = false) (present : Bool) :
    s.axesChanged present = s.homingCheck := by
  have hform : s.formEnds = s := if_neg fun hends => by simp [h] at hends
  rw [State.axesChanged, hform, State.moveLegEnd_stays (.inr h)]

theorem State.headDrive_moveLegEnd (s : State) (present : Bool) :
    (s.moveLegEnd present).outputs.headDrive = s.outputs.headDrive := by
  unfold State.moveLegEnd State.clampNext
  split
  · split
    · split
      · simp
      · rw [State.outputs_beginClamping]
    · split
      · simp
      · rfl
  · rfl

/-- FORM ends at the last lock once formed is YES (R162). -/
theorem State.formEnds_ends {s : State} (hform : s.head.state = .form) (hformed : s.head.formed = true)
    (hlocked : s.allLocked = true) :
    s.formEnds =
      { s with
        head := { s.head with state := .drive, phaseTimer := some s.settings.driveTimeout }
        outputs := { s.outputs with headDrive := true } } :=
  if_pos ⟨hform, hformed, hlocked⟩

theorem State.outputs_formEnds (s : State) :
    s.formEnds.outputs.transferReq = s.outputs.transferReq ∧ s.formEnds.outputs.clamp = s.outputs.clamp := by
  unfold State.formEnds
  split <;> exact ⟨rfl, rfl⟩

/-- The sample at its axis and the end of FORM, before the end of a MOVE leg. -/
def State.formed (s : State) (a : Axis) (count : Nat) : State := (s.sampledAt a count).formEnds

/-- What the end of a MOVE leg reads is as it was before the sample. -/
theorem State.formed_frame (s : State) (a : Axis) (count : Nat) :
    (s.formed a count).exchange = s.exchange ∧ (s.formed a count).machine = s.machine ∧
      (s.formed a count).boards = s.boards ∧ (s.formed a count).settings = s.settings ∧
      (s.formed a count).inputs = s.inputs ∧
      (s.formed a count).outputs.transferReq = s.outputs.transferReq ∧
      (s.formed a count).outputs.clamp = s.outputs.clamp := by
  obtain ⟨hreq, hclamp⟩ := (s.sampledAt a count).outputs_formEnds
  exact ⟨by simp [State.formed, State.sampledAt], by simp [State.formed, State.sampledAt],
    by simp [State.formed, State.sampledAt], by simp [State.formed, State.sampledAt],
    by simp [State.formed, State.sampledAt], hreq, hclamp⟩

/-- The end of the event shows the exchange, the outputs and the boards that the MOVE leg's end left. -/
theorem State.moveLegEnd_shown (s : State) (a : Axis) (count : Nat) (present : Bool) :
    ((s.sampledAt a count).axesChanged present).settle.exchange =
        ((s.formed a count).moveLegEnd present).exchange ∧
      ((s.sampledAt a count).axesChanged present).settle.outputs =
        ((s.formed a count).moveLegEnd present).outputs ∧
      ∀ p : Parity, ((s.sampledAt a count).axesChanged present).settle.board p =
        ((s.formed a count).moveLegEnd present).board p := by
  have hchanged : (s.sampledAt a count).axesChanged present =
      ((s.formed a count).moveLegEnd present).homingCheck := rfl
  rw [hchanged]
  exact ⟨by simp, by simp, fun p => board_congr (by simp) p⟩

end Sys2Proof.Machine

open Sys2Proof Sys2Proof.Machine

/-- Settles O44: no lock is lost, and the record after the sample goes by the state of its axis. -/
theorem positionSampleIsJudged : Obligations.PositionSampleIsJudged := by
  intro a count present s h r g v e hkept
  have hnot : r.losesLock g v = false := by
    rw [Bool.eq_false_iff, ne_eq, AxisRecord.losesLock_iff]
    rintro ⟨hlocked, hout, hcount⟩
    exact Nat.not_le.mpr (hkept hlocked hout) hcount
  have hself : ((s.positionSample a v present).axis a) =
      (r.sampled g v).settledIn s (s.positionSample a v present) := by
    rw [State.positionSample_kept (.inl hnot)]
    exact State.axis_settle_eq (by simp [State.sampledAt])
      ((axis_congr (by simp) a).trans (s.axis_sampledAt a v))
  refine ⟨_, exec_positionSample h a count present, fun b hb => ?_, ?_, ?_, ?_, fun hidle => ?_,
    fun hslew => ?_, fun hsettle => ?_, fun hlocked => ?_⟩
  · rw [State.positionSample_kept (.inl hnot)]
    exact State.axis_settle_eq (by simp [State.sampledAt])
      ((axis_congr (by simp) b).trans (s.axis_sampledAt_ne hb v))
  · rw [State.positionSample_kept (.inl hnot)]
    simp [State.sampledAt]
  · rw [State.positionSample_kept (.inl hnot)]
    exact State.settledIn_settle_of (by simp [State.sampledAt])
  · have hinputs : (s.positionSample a v present).inputs = s.inputs := by
      rw [State.positionSample_kept (.inl hnot)]
      simp [State.sampledAt]
    have hpor : (s.positionSample a v present).inputs.porN = true := by rw [hinputs]; exact h
    rw [State.coarseLine, hpor]
    simp
  · rw [hself, AxisRecord.sampled, hidle]
  · rw [hself, AxisRecord.sampled, hslew]
    rfl
  · rw [hself, AxisRecord.sampled, hsettle]
    rfl
  · rw [hself, AxisRecord.sampled, hlocked]
    dsimp only [AxisRecord.sampleLocked]
    by_cases hin : e ≤ g.lockWindow
    · rw [if_pos hin, if_pos hin]
    · have hfew : ¬ g.unlockCount ≤ saturate 15 r.outRun :=
        Nat.not_le.mpr (hkept hlocked (Nat.lt_of_not_le hin))
      rw [if_neg hin, if_neg hin, if_neg hfew]

/-- Settles O45: the axis that lost its lock moves again, so that nothing ends at the sample. -/
theorem lostLockRaisesAxisFollow : Obligations.LostLockRaisesAxisFollow := by
  refine ⟨fun a count present s h hlocked hout hcount => ?_, fun a s h => ⟨fun htimer => ?_, fun hnone => ?_⟩⟩
  · have hloses : (s.axis a).losesLock (s.axisSettings a) count.toNat = true :=
      (AxisRecord.losesLock_iff ..).mpr ⟨hlocked, hout, hcount⟩
    have hrecord := (s.axis_sampledAt a count.toNat).trans (AxisRecord.sampled_lost hlocked hout hcount)
    have hunlocked : (s.sampledAt a count.toNat).allLocked = false := by
      rw [Bool.eq_false_iff, ne_eq, State.allLocked_iff]
      intro hall
      have ha := hall a
      rw [hrecord] at ha
      dsimp only at ha
      split at ha <;> cases ha
    have hchanged := State.axesChanged_unlocked hunlocked present
    have haxis : ((s.sampledAt a count.toNat).homingCheck).axis a = _ := (axis_congr (by simp) a).trans hrecord
    have hbusy : (s.sampledAt a count.toNat).homingCheck.quiet = false :=
      State.quiet_of_axis (a := a) (by rw [haxis]; rfl)
    have hkept (hneeds : s.head.needsLock = false) :
        s.positionSample a count.toNat present = (s.sampledAt a count.toNat).homingCheck := by
      rw [State.positionSample_kept (.inr hneeds), hchanged, State.settle_of_busy hbusy]
    rw [exec_positionSample h]
    refine ⟨_, rfl, fun hneeds => ?_, fun hdrive hclinch hretract => ?_, fun hhoming => ?_, fun hr => ?_⟩
    · rw [State.positionSample_lost hloses ((Head.needsLock_iff _).mpr hneeds)]
      exact ⟨State.raised_raise_settle_of (by simp [State.sampledAt]) (by simp [State.sampledAt]) _ _,
        State.machine_raise_settle_of (by simp [State.sampledAt]) (by simp [State.sampledAt]) _ _⟩
    · have hneeds : s.head.needsLock = false := by
        rw [Bool.eq_false_iff, ne_eq, Head.needsLock_iff]
        rintro (hf | hf | hf)
        exacts [hdrive hf, hclinch hf, hretract hf]
      rw [hkept hneeds]
      simp [State.sampledAt]
    · have hneeds : s.head.needsLock = false := by simp [Head.needsLock, hhoming]
      rw [hkept hneeds, State.homingCheck_ends _ (by simpa [State.sampledAt] using hhoming)
        (State.startReady_unlocked _ hunlocked)]
      exact ⟨rfl, rfl⟩
    · cases hneeds : s.head.needsLock with
      | false => rw [hkept hneeds, haxis]
      | true =>
        have hr' : ((s.sampledAt a count.toNat).homingCheck.alarm .axisFollow).reaction ≠ .halt := by
          rwa [alarm_congr (s := s) (by simp [State.sampledAt])]
        obtain ⟨-, -, -, -, -, -, haxes, -⟩ :=
          (s.sampledAt a count.toNat).homingCheck.raise_of_ne_halt .axisFollow (some (.axis a)) hr'
        have hraised := (axis_congr haxes a).trans haxis
        rw [State.positionSample_lost hloses hneeds, hchanged,
          State.settle_of_busy (State.quiet_of_axis (a := a) (by rw [hraised]; rfl)), hraised]
  · have htimeout : s.lockTimeout a =
        ((s.stoppedTimer a).raise .axisFollow (some (.axis a))).settle := if_pos htimer
    rw [exec_lockTimeout h, htimeout]
    refine ⟨_, rfl, State.raised_raise_settle_of rfl rfl _ _, State.machine_raise_settle_of rfl rfl _ _, ?_, ?_,
      fun hr => ⟨?_, fun b hb => ?_⟩⟩
    · rw [State.target_raise_settle, State.axis_stoppedTimer]
    · exact State.lockTimer_raise_settle (s := s.stoppedTimer a) (by rw [State.axis_stoppedTimer]) _ _
    · rw [State.axis_raise_settle (s := s.stoppedTimer a) hr, State.axis_stoppedTimer]
      rfl
    · rw [State.axis_raise_settle (s := s.stoppedTimer a) hr, State.axis_stoppedTimer_ne s hb]
      rfl
  · rw [exec_lockTimeout h, State.lockTimeout, if_neg (by simp [hnone])]

/-- Settles O46: with all axes LOCKED, FORM and the MOVE leg end as their lemmas say. -/
theorem lastLockEndsFormAndMove : Obligations.LastLockEndsFormAndMove := by
  intro a count present s h hsettle hin hcount hothers
  have hlocks := AxisRecord.sampled_locks hsettle hin hcount
  have haxis (b : Axis) : ((s.sampledAt a count.toNat).axis b).state = .locked := by
    by_cases hb : b = a
    · rw [hb, State.axis_sampledAt, hlocks]
    · rw [State.axis_sampledAt_ne s hb, hothers b hb]
  have hnot : (s.axis a).losesLock (s.axisSettings a) count.toNat = false := by
    simp [AxisRecord.losesLock, hsettle]
  have hall : (s.sampledAt a count.toNat).allLocked = true := (State.allLocked_iff _).mpr haxis
  have hlocked : (s.formed a count.toNat).allLocked = true :=
    (State.allLocked_iff _).mpr fun b => by rw [axis_congr (s := s.sampledAt a count.toNat) (by simp [State.formed]), haxis b]
  obtain ⟨hexchange, houtputs, hboard⟩ := s.moveLegEnd_shown a count.toNat present
  obtain ⟨hexchange', hmachine, hboards, hsettings, hinputs, hreq, hclamp⟩ := s.formed_frame a count.toNat
  have hpausing : (s.formed a count.toNat).pausing = s.pausing := by simp [State.pausing, hmachine]
  have hnext : (s.formed a count.toNat).nextToLoad = s.nextToLoad := State.nextToLoad_congr hboards
  rw [exec_positionSample h, State.positionSample_kept (.inl hnot)]
  refine ⟨_, rfl, State.settledIn_settle_of (by simp [State.sampledAt]), fun hstands b => ?_,
    fun hform hformed => ?_, fun hleg hp hkind => ?_, fun hleg hp hload hpresent hlow => ?_,
    fun hleg hp hload hpresent hhigh => ?_, fun hleg hp => ?_⟩
  · rw [State.settle_stands (by simpa [State.sampledAt] using hstands)]
    exact (congrArg AxisRecord.state (axis_congr (by simp) b)).trans (haxis b)
  · have hends : s.formed a count.toNat = _ := State.formEnds_ends (s := s.sampledAt a count.toNat) hform hformed hall
    have hleg : ((s.formed a count.toNat).moveLegEnd present).head = (s.formed a count.toNat).head := by simp
    have hhead : (s.formed a count.toNat).head =
        { s.head with state := .drive, phaseTimer := some s.settings.driveTimeout } := by
      rw [hends]
      rfl
    have hcheck := ((s.formed a count.toNat).moveLegEnd present).homingCheck_head (by rw [hleg, hhead]; simp)
    have hchanged : (s.sampledAt a count.toNat).axesChanged present =
        (s.formed a count.toNat).moveLegEnd present := hcheck
    have hsettle : ((s.sampledAt a count.toNat).axesChanged present).settle.head =
        ((s.sampledAt a count.toNat).axesChanged present).head := by simp
    rw [houtputs, State.headDrive_moveLegEnd, hends, hsettle, hchanged, hleg, hhead]
    exact ⟨rfl, rfl⟩
  · rw [hexchange, houtputs, State.moveLegEnd_transfers (by rw [hexchange', hleg]) hlocked (hpausing.trans hp)
      (by rwa [hexchange'])]
    simp [State.beginTransfer, hexchange', hsettings, hclamp]
  · subst hpresent
    rw [hexchange, houtputs, State.moveLegEnd_clamps (by rw [hexchange', hleg]) hlocked (hpausing.trans hp)
      (by rw [hexchange', hload]), State.beginClamping_unclamped (by rw [hinputs, hlow])]
    simp [State.clamping, hexchange', hsettings, hnext]
  · subst hpresent
    have hends : (s.formed a count.toNat).moveLegEnd true = (s.formed a count.toNat).clamping.clampingEnds := by
      rw [State.moveLegEnd_clamps (by rw [hexchange', hleg]) hlocked (hpausing.trans hp)
        (by rw [hexchange', hload]), State.beginClamping_clamped (by rw [hinputs, hhigh])]
    rw [hexchange, houtputs, hends, State.exchange_clampingEnds]
    refine ⟨by simp [State.clamping, hexchange'], by simp [State.clamping], fun p hload => ?_⟩
    have hincoming : (s.formed a count.toNat).clamping.exchange.incoming = some p := hnext.trans hload
    have hclamped := State.board_clampingEnds hincoming
    rw [hboard, hends]
    have hkept : (s.formed a count.toNat).clamping.board p = s.board p := board_congr hboards p
    rw [hkept] at hclamped
    simpa [State.clamping, hsettings] using hclamped
  · rw [hexchange, houtputs, State.moveLegEnd_waits (by rw [hexchange', hleg]) hlocked (hpausing.trans hp)]
    simp [State.waitWith, hexchange', hreq, hclamp]
end

section
/-! PROOFS. The machine's own commands and the ends of PAUSING and DRAINING (R182 to R190). -/

namespace Sys2Proof.Machine

/-! ## Quiet and drained out (R181, R187) -/

theorem Head.inFlight_eq_false_iff (h : Head) :
    h.inFlight = false ↔ h.state = .idle ∨ (h.state = .clinch ∧ h.held ≠ .none) := by
  unfold Head.inFlight
  split <;> simp_all

theorem State.axesMoving_eq_zero_iff (s : State) : s.axesMoving = 0 ↔ ∀ a : Axis, (s.axis a).lockTimer = none := by
  constructor
  · intro h a
    cases a <;> simp_all [State.axesMoving, State.axis, Quad.get]
  · intro h
    have hx := h .x
    have hy := h .y
    have hr := h .r
    have hs := h .s
    simp only [State.axis, Quad.get] at hx hy hr hs
    simp [State.axesMoving, hx, hy, hr, hs]

theorem State.quiet_iff (s : State) :
    s.quiet = true ↔
      s.chain.indexState ≠ .indexing ∧ (∀ st ∈ s.stations, st.feed ≠ .advancing) ∧
        (s.head.state = .idle ∨ (s.head.state = .clinch ∧ s.head.held ≠ .none)) ∧
        ∀ a : Axis, (s.axis a).lockTimer = none := by
  simp only [State.quiet, Bool.and_eq_true, Bool.not_eq_true', decide_eq_true_eq, State.indexInFlight,
    decide_eq_false_iff_not, State.feedsInFlight, List.countP_eq_zero, Head.inFlight_eq_false_iff,
    State.axesMoving_eq_zero_iff, and_assoc]

theorem State.drainedOut_iff (s : State) :
    s.drainedOut = true ↔
      s.quiet = true ∧ (∀ p : Parity, s.isOpen p = false) ∧
        (∀ c ∈ s.stretch, c.carrying = false) ∧ s.exchange.leg = .idle := by
  have hboards : s.boardOpen = false ↔ ∀ p : Parity, s.isOpen p = false := by
    simp only [State.boardOpen, Bool.or_eq_false_iff]
    exact ⟨fun h p => by cases p; exacts [h.1, h.2], fun h => ⟨h _, h _⟩⟩
  simp only [State.drainedOut, Bool.and_eq_true, Bool.not_eq_true', hboards, State.carryingClips,
    List.any_eq_false, Bool.not_eq_true, State.exchangeInFlight, decide_eq_false_iff_not, not_not]
  tauto

theorem State.drainedOut_headJudge (s : State) : s.headJudge.drainedOut = s.drainedOut := by
  have hopen : s.headJudge.isOpen = s.isOpen := funext (State.isOpen_congr (by simp))
  simp only [State.drainedOut, State.quiet_headJudge, State.boardOpen, hopen, State.carryingClips,
    State.exchangeInFlight, State.headJudge_frame]

/-! ## The ends (R185, R187) -/

theorem State.settle_of_drained {s : State} (hm : s.machine.state = .draining) (h : s.drainedOut = true) :
    s.settle = s.endDraining := by
  have hquiet : s.pausingQuiet = s := if_neg fun hp => by simp [hm] at hp
  rw [State.settle, hquiet]
  exact if_pos ⟨hm, h⟩

theorem State.settle_of_undrained {s : State} (hm : s.machine.state = .draining) (h : s.drainedOut = false) :
    s.settle = s :=
  s.settle_of_settled ⟨fun hp => by simp [hm] at hp, fun hd => by simp [h] at hd⟩

theorem State.moveSlot_endDraining (s : State) (p : Parity) :
    s.endDraining.moveSlot p =
      if (s.moveSlot p).state = .active then { s.moveSlot p with state := .planned } else s.moveSlot p := by
  simp only [State.endDraining, State.moveSlot, Pair.get_map]
  rfl

theorem State.axis_endDraining (s : State) (a : Axis) :
    s.endDraining.axis a = { s.axis a with state := .idle, inRun := 0, outRun := 0, lockTimer := none } := by
  simp only [State.endDraining, State.axis, Quad.get_map]
  rfl

/-- A drained-out chain is not INDEXING, so that its index state is IDLE afterwards (R187). -/
theorem State.endDraining_eq {s : State} (h : s.drainedOut = true) :
    s.endDraining =
      { s with
        machine := { state := .stopped, returnState := none }
        chain := { s.chain with indexState := .idle }
        slots := s.endDraining.slots, axes := s.endDraining.axes } := by
  have hindex := ((s.quiet_iff).mp ((s.drainedOut_iff).mp h).1).1
  have hidle : (if s.chain.indexState = .requested then IndexState.idle else s.chain.indexState) = .idle := by
    cases hstate : s.chain.indexState <;> simp_all
  unfold State.endDraining
  rw [hidle]

/-! ## PAUSE (R184) -/

theorem State.homingCheck_changes (s : State) :
    s.homingCheck =
      { s with
        head := s.homingCheck.head
        chain := { s.chain with indexState := s.homingCheck.chain.indexState } } := by
  unfold State.homingCheck
  split
  · rw [State.headJudge_eq]
  · rfl

theorem State.pausingQuiet_changes (s : State) :
    s.pausingQuiet = { s with machine := s.pausingQuiet.machine } := by
  unfold State.pausingQuiet
  split <;> rfl

/-- The machine in PAUSING with its return state, before HOMING is checked (R184). -/
def State.toPausing (s : State) (r : ReturnState) : State :=
  { s with machine := { state := .pausing, returnState := some r } }

/-- PAUSE from a working machine is a check of HOMING and the end of PAUSING (R161, R185). -/
theorem State.enterPausing_eq {s : State} {r : ReturnState}
    (h : (s.machine.state = .running ∧ r = .running) ∨ (s.machine.state = .draining ∧ r = .draining)) :
    s.enterPausing = (s.toPausing r).homingCheck.pausingQuiet := by
  rcases h with ⟨hm, rfl⟩ | ⟨hm, rfl⟩ <;> simp only [State.enterPausing, hm, State.toPausing]

/-- What PAUSE leaves of a working machine (R161, R184, R185). -/
theorem State.pauses {s : State} {r : ReturnState}
    (h : (s.machine.state = .running ∧ r = .running) ∨ (s.machine.state = .draining ∧ r = .draining)) :
    s.enterPausing =
        { s with
          machine := { state := if s.enterPausing.quiet = true then .paused else .pausing, returnState := some r }
          head := s.enterPausing.head
          chain := { s.chain with indexState := s.enterPausing.chain.indexState } } ∧
      (s.head.state ≠ .homing → s.enterPausing.head = s.head ∧ s.enterPausing.chain = s.chain) ∧
      (s.head.state = .homing → s.enterPausing.head.state = .idle) := by
  have hmachine : s.enterPausing.machine =
      { state := if s.enterPausing.quiet = true then .paused else .pausing, returnState := some r } := by
    rw [State.machine_enterPausing]
    rcases h with ⟨hm, rfl⟩ | ⟨hm, rfl⟩ <;> simp only [hm]
  rw [← hmachine, State.enterPausing_eq h]
  refine ⟨?_, fun hno => ?_, fun hhoming => ?_⟩
  · rw [State.pausingQuiet_changes, State.homingCheck_changes]
    rfl
  · rw [(s.toPausing r).homingCheck_head hno, State.pausingQuiet_changes]
    exact ⟨rfl, rfl⟩
  · rw [State.pausingQuiet_changes, (s.toPausing r).homingCheck_ends hhoming (State.startReady_idle _ rfl)]

/-! ## The commands -/

theorem exec_ack {s : State} (h : Taking s) :
    exec .ack s = .next (s.ack.state.replied 14 s.ack.code s.ack.payload) :=
  taken_taking h 14 State.ack

theorem exec_pause {s : State} (h : Taking s) :
    exec .pause s = .next (s.pause.state.replied 16 s.pause.code s.pause.payload) :=
  taken_taking h 16 State.pause

theorem exec_drain {s : State} (h : Taking s) :
    exec .drain s = .next (s.drain.state.replied 18 s.drain.code s.drain.payload) :=
  taken_taking h 18 State.drain

theorem exec_recover {s : State} (h : Taking s) :
    exec .recover s = .next (s.recover.state.replied 20 s.recover.code s.recover.payload) :=
  taken_taking h 20 State.recover

theorem exec_pausingQuiet {s : State} (h : Live s) : exec .pausingQuiet s = .next s.pausingQuiet :=
  event_live h State.pausingQuiet

theorem exec_drainEnd {s : State} (h : Live s) : exec .drainEnd s = .next s.drainEnd :=
  event_live h State.drainEnd

theorem State.mayRecover_iff (s : State) :
    s.mayRecover = true ↔
      s.machine.state = .halted ∧ s.inputs.levels.stopN = true ∧
        ∀ k : AlarmKind, (s.alarm k).reaction = .halt → (s.alarm k).state = .clear := by
  simp only [State.mayRecover, Bool.and_eq_true, decide_eq_true_eq, Bool.not_eq_true',
    State.haltAlarm_eq_false_iff]
  tauto

end Sys2Proof.Machine

open Sys2Proof Sys2Proof.Machine

/-- Settles O55, a row of the table of states at a time. -/
theorem machineCommandsFollowTheTable : Obligations.MachineCommandsFollowTheTable := by
  intro s h
  refine ⟨s.quiet_iff, s.drainedOut_iff, fun ht => ⟨fun hm => ?_, fun hm => ?_, fun r hr => ?_, fun hm => ?_,
    fun hm => ?_, fun hm hout => ?_, fun hm hout => ?_, fun hm => ?_, fun hready => ?_, fun hnot => ?_⟩,
    fun hends => ?_, fun hstays => ?_, fun hends => ?_, fun hstays => ?_⟩
  · rw [exec_ack ht]
    simp only [State.ack, hm]
    rfl
  · have hack : s.ack = s.reply .refusedState := by
      unfold State.ack
      split
      · contradiction
      · rfl
    rw [exec_ack ht, hack]
    rfl
  · have hworks : s.working = true := (s.working_iff).mpr (hr.imp And.left And.left)
    have hpause : s.pause = s.enterPausing.ok := if_pos hworks
    rw [exec_pause ht, hpause]
    obtain ⟨hchanges, hnot, hhoming⟩ := State.pauses hr
    refine ⟨_, rfl, (congrArg (fun u : State => u.replied 16 .ok []) hchanges).trans ?_, hnot, hhoming,
      answered_replied s s.enterPausing (by simp) (by simp) 16 .ok []⟩
    have hquiet : (s.enterPausing.ok.state.replied 16 s.enterPausing.ok.code s.enterPausing.ok.payload).quiet =
        s.enterPausing.quiet := rfl
    rw [hquiet]
    simp only [State.replied, State.ok, State.enterPausing_frame]
  · have hworks : s.working = false := by rcases hm with hm | hm <;> simp [State.working, hm]
    have hpauses : s.pausing = true := (s.pausing_iff).mpr hm
    have hpause : s.pause = s.ok := by simp [State.pause, hworks, hpauses]
    have hdrain : s.drain = State.ok { s with machine := { s.machine with returnState := some .draining } } := by
      rcases hm with hm | hm <;> simp only [State.drain, hm]
    rw [exec_pause ht, hpause, exec_drain ht, hdrain]
    exact ⟨rfl, rfl⟩
  · have hworks : s.working = false := by rcases hm with hm | hm | hm <;> simp [State.working, hm]
    have hpauses : s.pausing = false := by rcases hm with hm | hm | hm <;> simp [State.pausing, hm]
    have hpause : s.pause = s.reply .refusedState := by simp [State.pause, hworks, hpauses]
    have hdrain : s.drain = s.reply .refusedState := by
      rcases hm with hm | hm | hm <;> simp only [State.drain, hm]
    rw [exec_pause ht, hpause, exec_drain ht, hdrain]
    exact ⟨rfl, rfl⟩
  · have hdrain : s.drain = (s.enter .draining).headJudge.settle.ok := by simp only [State.drain, hm]
    have hsettle : (s.enter .draining).headJudge.settle = (s.enter .draining).headJudge :=
      State.settle_of_undrained (by simp [State.enter]) (by rw [State.drainedOut_headJudge]; exact hout)
    rw [exec_drain ht, hdrain, hsettle, State.headJudge_eq]
    exact ⟨_, rfl, rfl, rfl, rfl⟩
  · have hdrain : s.drain = (s.enter .draining).headJudge.settle.ok := by simp only [State.drain, hm]
    have hjudged : (s.enter .draining).headJudge.drainedOut = true := by
      rw [State.drainedOut_headJudge]
      exact hout
    have hsettle : (s.enter .draining).headJudge.settle = (s.enter .draining).headJudge.endDraining :=
      State.settle_of_drained (by simp [State.enter]) hjudged
    rw [exec_drain ht, hdrain, hsettle]
    refine ⟨_, rfl, ?_, fun p => ?_, fun a => ?_,
      answered_replied s (s.enter .draining).headJudge.endDraining (by simp [State.enter]) (by simp [State.enter])
        18 .ok []⟩
    · rw [State.headJudge_eq] at hjudged ⊢
      rw [State.endDraining_eq hjudged]
      rfl
    · have hslot : (s.enter .draining).headJudge.moveSlot p = s.moveSlot p := State.moveSlot_headJudge _ p
      exact hslot ▸ State.moveSlot_endDraining _ p
    · have haxis : (s.enter .draining).headJudge.axis a = s.axis a := axis_congr (by simp [State.enter]) a
      exact haxis ▸ State.axis_endDraining _ a
  · have hdrain : s.drain = s.ok := by simp only [State.drain, hm]
    rw [exec_drain ht, hdrain]
    rfl
  · have hrecover : s.recover = (s.enter .stopped).ok := if_pos ((s.mayRecover_iff).mpr hready)
    rw [exec_recover ht, hrecover]
    rfl
  · have hrecover : s.recover = s.reply .refusedState := if_neg fun hmay => hnot ((s.mayRecover_iff).mp hmay)
    rw [exec_recover ht, hrecover]
    rfl
  · rw [exec_pausingQuiet h, State.pausingQuiet, if_pos hends]
  · rw [exec_pausingQuiet h, State.pausingQuiet, if_neg hstays]
  · rw [exec_drainEnd h, State.drainEnd, if_pos hends]
    exact ⟨_, rfl, State.endDraining_eq hends.2, s.moveSlot_endDraining, s.axis_endDraining⟩
  · rw [exec_drainEnd h, State.drainEnd, if_neg hstays]
end

section
/-! PROOFS. The index begins, times out and sees the home mark (R93 to R98). -/

namespace Sys2Proof.Machine

/-! ## What a HALT leaves of a clip at the stations (R58) -/

/-- A drop marks its clip DROP_MISSED and leaves the state of every other. -/
theorem State.state_dropAt (s : State) (k q : Nat) :
    ((s.dropAt k).clip q).state = (s.clip q).state ∨ ((s.dropAt k).clip q).state = .dropMissed := by
  by_cases hq : q = k
  · subst hq
    have hmark (u : State) (hu : u.stretch = s.stretch) :
        ((u.markClip q .dropMissed).clip q).state = (s.clip q).state ∨
          ((u.markClip q .dropMissed).clip q).state = .dropMissed := by
      rw [State.markClip, State.clip_putClip]
      split
      · exact .inr rfl
      · exact .inl (by rw [clip_congr hu])
    unfold State.dropAt
    split
    · exact .inl rfl
    · dsimp only
      split
      · exact hmark _ (by simp)
      · rw [State.recallUncounted, State.clip_request]
        exact hmark _ (by simp)
  · rw [s.clip_dropAt_ne hq]
    exact .inl rfl

/-- What the end of feeds leaves of clip `k`: its call, and its state unless it was dropped; with the feed of
its station IDLE, the whole record. -/
structure FeedKeepsClip (k : Nat) (s t : State) : Prop where
  call : (t.clip k).call = (s.clip k).call
  state : (t.clip k).state = (s.clip k).state ∨ (t.clip k).state = .dropMissed
  idle : ∀ st : Station, s.station? k = some st → st.feed = .idle →
    t.station? k = some st ∧ t.clip k = s.clip k

theorem FeedKeepsClip.refl (k : Nat) (s : State) : FeedKeepsClip k s s :=
  ⟨rfl, .inl rfl, fun _ hst _ => ⟨hst, rfl⟩⟩

theorem FeedKeepsClip.trans {k : Nat} {s t u : State} (h : FeedKeepsClip k s t) (h' : FeedKeepsClip k t u) :
    FeedKeepsClip k s u where
  call := h'.call.trans h.call
  state := h'.state.elim (fun hsame => h.state.imp hsame.trans hsame.trans) .inr
  idle st hst hfeed := by
    obtain ⟨hst', hclip⟩ := h.idle st hst hfeed
    obtain ⟨hst'', hclip'⟩ := h'.idle st hst' hfeed
    exact ⟨hst'', hclip'.trans hclip⟩

theorem FeedKeepsClip.haltFeed (k : Nat) (s : State) (j : Nat) : FeedKeepsClip k s (s.haltFeed j) := by
  unfold State.haltFeed
  split
  · exact .refl k s
  next st hst =>
    split
    · exact .refl k s
    next hbusy =>
      refine ⟨s.call_dropAt j k, s.state_dropAt j k, fun st' hst' hidle => ?_⟩
      have hne : k ≠ j := by
        rintro rfl
        exact hbusy (Option.some.inj (hst.symm.trans hst') ▸ hidle)
      rw [State.station?_dropAt, if_neg hne, s.clip_dropAt_ne hne]
      exact ⟨hst', rfl⟩

theorem FeedKeepsClip.haltFeeds (k : Nat) (s : State) : FeedKeepsClip k s s.haltFeeds := by
  unfold State.haltFeeds
  generalize stationNumbers = l
  induction l generalizing s with
  | nil => exact .refl k s
  | cons j l ih => exact (FeedKeepsClip.haltFeed k s j).trans (ih _)

/-- No station has the number 0, so that no feed ends there. -/
theorem State.clip_haltFeeds_zero (s : State) : s.haltFeeds.clip 0 = s.clip 0 := by
  have fold (l : List Nat) (hl : ∀ k ∈ l, k ≠ 0) (u : State) : (l.foldl State.haltFeed u).clip 0 = u.clip 0 := by
    induction l generalizing u with
    | nil => rfl
    | cons k l ih =>
      rw [List.foldl_cons, ih fun j hj => hl j (List.mem_cons_of_mem k hj)]
      unfold State.haltFeed
      split
      · rfl
      · split
        · rfl
        · exact u.clip_dropAt_ne (hl k List.mem_cons_self).symm
  refine fold stationNumbers (fun k hk => ?_) s
  have hstation := (mem_stationNumbers k).mp hk
  omega

theorem State.interrupt_of_not_interrupts {s : State} (h : s.head.interrupts = false) : s.interrupt = s :=
  if_neg (by simp [h])

theorem State.length_stretch_interrupt (s : State) : s.interrupt.stretch.length = s.stretch.length := by
  unfold State.interrupt
  split
  · dsimp only
    split <;> simp [State.interruptionRequest, State.putClip]
  · rfl

/-- What a HALT leaves of the stretch. -/
structure HaltKeepsStretch (s t : State) : Prop where
  length : t.stretch.length = s.stretch.length
  passed : ∀ q : Nat, q = 0 ∨ (73 ≤ q ∧ q ≤ 79) → t.clip q = s.clip q
  feeds : ∀ (k : Nat) (st : Station), 1 ≤ k → k ≤ 72 → s.station? k = some st →
    (st.feed = .idle → t.clip k = s.clip k) ∧ (t.clip k).call = (s.clip k).call ∧
      ((t.clip k).state = (s.clip k).state ∨ (t.clip k).state = .dropMissed)
  head : s.head.interrupts = false → t.clip 80 = s.clip 80

theorem HaltKeepsStretch.enterHalted (s : State) : HaltKeepsStretch s s.enterHalted where
  length := by
    have hhalted : s.enterHalted.stretch.length = s.beforeCut.interrupt.stretch.length := by
      simp [State.enterHalted_eq]
    rw [hhalted, State.length_stretch_interrupt, State.length_stretch_beforeCut]
  passed q hq := by
    rw [State.clip_enterHalted_eq, State.clip_interrupt_ne _ (by omega)]
    rcases hq with rfl | ⟨h73, -⟩
    · rw [State.clip_beforeCut, State.clip_haltFeeds_zero]; rfl
    · exact s.clip_beforeCut_of_lt (by omega)
  feeds k st _ h72 hst := by
    have hkeeps := FeedKeepsClip.haltFeeds k
      ({ s with machine := { state := .halted, returnState := none } } : State)
    rw [State.clip_enterHalted_eq, State.clip_interrupt_ne _ (by omega), State.clip_beforeCut]
    exact ⟨fun hidle => (hkeeps.idle st hst hidle).2, hkeeps.call, hkeeps.state⟩
  head hno := by
    rw [State.clip_enterHalted_eq, State.interrupt_of_not_interrupts (by rw [State.head_beforeCut, hno])]
    exact s.clip_beforeCut_of_lt (by decide)

theorem HaltKeepsStretch.haltIfMoving (s : State) : HaltKeepsStretch s s.haltIfMoving := by
  unfold State.haltIfMoving
  split
  · exact .enterHalted s
  · exact ⟨rfl, fun _ _ => rfl, fun _ _ _ _ _ => ⟨fun _ => rfl, rfl, .inl rfl⟩, fun _ => rfl⟩

/-! ## The index (R93, R96) -/

theorem exec_indexBegin {s : State} (h : Live s) :
    exec .indexBegin s = .next (if s.mayIndex then s.beginIndex else s) :=
  event_live h fun s => if s.mayIndex then s.beginIndex else s

theorem exec_indexTimeout {s : State} (h : Live s) : exec .indexTimeout s = .next s.chainJam :=
  event_live h State.chainJam

theorem exec_homeMarkEdge {s : State} (h : Live s) : exec .homeMarkEdge s = .next s.markEdge :=
  event_live h State.markEdge

theorem State.clipWaits_iff (s : State) (k : Nat) :
    s.clipWaits k = true ↔
      (s.clip k).state = .assigned ∧ ∃ c, (s.clip k).call = some c ∧ c.station = k := by
  unfold State.clipWaits
  cases (s.clip k).call <;> simp

theorem State.mayIndex_iff (s : State) :
    s.mayIndex = true ↔
      s.chain.indexState = .requested ∧ (s.machine.state = .running ∨ s.machine.state = .draining) ∧
        ∀ (k : Nat) (c : Call), 1 ≤ k → k ≤ 72 → (s.clip k).state = .assigned →
          (s.clip k).call = some c → c.station ≠ k := by
  simp only [State.mayIndex, Bool.and_eq_true, decide_eq_true_eq, State.working_iff, State.gateOpen,
    List.all_eq_true, mem_stationNumbers, Bool.not_eq_true', Bool.eq_false_iff, ne_eq, State.clipWaits_iff,
    and_assoc]
  refine and_congr_right fun _ => and_congr_right fun _ => ⟨fun h k c h1 h72 hstate hcall hk => ?_,
    fun h k hk hwaits => ?_⟩
  · exact h k ⟨h1, h72⟩ ⟨hstate, c, hcall, hk⟩
  · obtain ⟨hstate, c, hcall, hstation⟩ := hwaits
    exact h k c hk.1 hk.2 hstate hcall hstation

/-- The chain record as the index timer's expiry leaves it, before CHAIN_JAM (R96). -/
def State.indexStopped (s : State) : State :=
  { s with chain := { s.chain with indexState := .idle, indexTimer := none, markSeen := false } }

/-- After a HALT neither PAUSING nor DRAINING is left to end. -/
theorem State.settle_haltIfMoving (s : State) : s.haltIfMoving.settle = s.haltIfMoving := by
  have hstate : s.haltIfMoving.machine.state ≠ .pausing ∧ s.haltIfMoving.machine.state ≠ .draining := by
    unfold State.haltIfMoving
    split
    · simp [State.machine_enterHalted]
    next hno =>
      simp only [Bool.or_eq_true, State.working_iff, State.pausing_iff] at hno
      exact ⟨fun h => hno (.inr (.inl h)), fun h => hno (.inl (.inr h))⟩
  exact s.haltIfMoving.settle_of_settled ⟨fun h => hstate.1 h.1, fun h => hstate.2 h.1⟩

theorem State.chain_haltIfMoving {s : State} (h : s.chain.indexState = .idle) (ht : s.chain.indexTimer = none) :
    s.haltIfMoving.chain = s.chain := by
  unfold State.haltIfMoving
  split
  · rw [State.chain_enterHalted]
    cases hchain : s.chain
    simp_all [State.haltIndex]
  · rfl

end Sys2Proof.Machine

open Sys2Proof Sys2Proof.Machine

/-- Settles O36: CHAIN_JAM halts the machine, and `HaltKeepsStretch` says what that leaves of the stretch. -/
theorem indexBeginsAndTimesOut : Obligations.IndexBeginsAndTimesOut := by
  refine ⟨fun s h => ⟨fun hreq hrun hgate => ?_, fun hno => ?_⟩, fun s h => ⟨fun hindexing htimer hr => ?_,
    fun hindexing => ?_, fun hno => ?_⟩⟩
  · rw [exec_indexBegin h, if_pos ((s.mayIndex_iff).mpr ⟨hreq, hrun, hgate⟩)]
    rfl
  · rw [exec_indexBegin h, if_neg]
    rw [State.mayIndex_iff]
    rintro ⟨hreq, hrun, hgate⟩
    rcases hno with hf | hf | ⟨k, c, h1, h72, hstate, hcall, hstation⟩
    · exact hf hreq
    · exact not_or.mpr hf hrun
    · exact hgate k c h1 h72 hstate hcall hstation
  · have hjam : s.chainJam =
        (s.indexStopped.raise .chainJam (some (.counter s.chain.counter))).settle := if_pos ⟨hindexing, htimer⟩
    have hraise : s.indexStopped.raise .chainJam (some (.counter s.chain.counter)) =
        (s.indexStopped.raiseRecord .chainJam (some (.counter s.chain.counter))).haltIfMoving := by
      have hr' : (s.indexStopped.alarm .chainJam).reaction = .halt := hr
      rw [State.raise, hr']
      rfl
    have hraised : Raised s s.chainJam .chainJam (some (.counter s.chain.counter)) := by
      rw [hjam]
      exact State.raised_raise_settle_of rfl rfl _ _
    have hkeeps := HaltKeepsStretch.haltIfMoving
      (s.indexStopped.raiseRecord .chainJam (some (.counter s.chain.counter)))
    have hclip (q : Nat) : (s.indexStopped.raiseRecord .chainJam (some (.counter s.chain.counter))).clip q =
        s.clip q := clip_congr (by simp [State.indexStopped]) q
    have hchain := State.chain_haltIfMoving
      (s := s.indexStopped.raiseRecord .chainJam (some (.counter s.chain.counter)))
      (by simp [State.indexStopped]) (by simp [State.indexStopped])
    rw [hraise, State.settle_haltIfMoving] at hjam
    have hstopped : s.chainJam.chain = s.indexStopped.chain := by
      rw [hjam, hchain]
      simp
    rw [exec_indexTimeout h]
    refine ⟨_, rfl, by rw [hstopped]; rfl, by rw [hstopped]; rfl, by rw [hstopped]; rfl, by rw [hstopped]; rfl,
      hraised, ?_, ?_, fun q hq => ?_, fun k st h1 h72 hst => ?_,
      fun hform hdrive hclinch => ?_⟩
    · have hmachine :=
        (s.indexStopped.raiseRecord .chainJam (some (.counter s.chain.counter))).machine_react .halt
      rw [hjam, hr]
      simpa [State.react, State.indexStopped] using hmachine
    · rw [hjam, hkeeps.length]
      simp [State.indexStopped]
    · rw [hjam, hkeeps.passed q hq, hclip]
    · rw [hjam, ← hclip k]
      exact hkeeps.feeds k st h1 h72 ((station?_congr (by simp [State.indexStopped]) k).trans hst)
    · rw [hjam, hkeeps.head ?_, hclip]
      rw [Bool.eq_false_iff, ne_eq, Head.interrupts_iff]
      rintro ⟨-, hstate⟩
      simp only [State.raiseRecord_frame, State.indexStopped] at hstate
      rcases hstate with hf | hf | hf
      exacts [hform hf, hdrive hf, hclinch hf]
  · rw [exec_homeMarkEdge h, State.markEdge, if_pos hindexing]
  · rw [exec_homeMarkEdge h, State.markEdge, if_neg hno]
end

section
/-! PROOFS. The host's commands on stations and the advance timeout (R46, R56, R61 to R65). -/

namespace Sys2Proof.Machine

/-! ## A station through a reaction (R58) -/

/-- A record that differs in its feed alone, as a HALT leaves it. -/
def Station.SameButFeed (a b : Station) : Prop :=
  b = { a with committed := b.committed, feed := b.feed, work := b.work, advanceTimer := b.advanceTimer }

theorem Station.SameButFeed.refl (a : Station) : a.SameButFeed a := rfl

theorem Station.SameButFeed.trans {a b c : Station} (h : a.SameButFeed b) (h' : b.SameButFeed c) :
    a.SameButFeed c := by
  cases a
  cases b
  cases c
  simp_all [Station.SameButFeed]

theorem Station.SameButFeed.causes {a b : Station} (h : a.SameButFeed b) : b.causes = a.causes := by
  rw [h]
  rfl

/-- Station `k` is the same in both states, but for a feed that has ended. -/
def KeepsStation (k : Nat) (s t : State) : Prop :=
  ∀ st, s.station? k = some st → ∃ st', t.station? k = some st' ∧ st.SameButFeed st'

theorem KeepsStation.of_eq {k : Nat} {s t : State} (h : t.stations = s.stations) : KeepsStation k s t :=
  fun st hst => ⟨st, (station?_congr h k).trans hst, .refl st⟩

theorem KeepsStation.trans {k : Nat} {s t u : State} (h : KeepsStation k s t) (h' : KeepsStation k t u) :
    KeepsStation k s u := fun st hst => by
  obtain ⟨st', hst', hsame⟩ := h st hst
  obtain ⟨st'', hst'', hsame'⟩ := h' st' hst'
  exact ⟨st'', hst'', hsame.trans hsame'⟩

theorem KeepsStation.haltFeed (k : Nat) (s : State) (j : Nat) : KeepsStation k s (s.haltFeed j) := by
  unfold State.haltFeed
  split
  · exact .of_eq rfl
  · split
    · exact .of_eq rfl
    · intro st hst
      rw [State.station?_dropAt]
      split
      next hk => exact ⟨st.dropped, by rw [← hk, hst]; rfl, rfl⟩
      next => exact ⟨st, hst, .refl st⟩

theorem KeepsStation.haltFeeds (k : Nat) (s : State) : KeepsStation k s s.haltFeeds := by
  unfold State.haltFeeds
  generalize stationNumbers = l
  induction l generalizing s with
  | nil => exact .of_eq rfl
  | cons j l ih => exact (KeepsStation.haltFeed k s j).trans (ih _)

theorem KeepsStation.react (k : Nat) (s : State) (r : Reaction) : KeepsStation k s (s.react r) := by
  cases r with
  | note => exact .of_eq rfl
  | pause => exact .of_eq (by simp [State.react])
  | halt =>
    change KeepsStation k s s.haltIfMoving
    unfold State.haltIfMoving
    split
    · have hfeeds : s.enterHalted.stations =
          ({ s with machine := { state := .halted, returnState := none } } : State).haltFeeds.stations := by
        simp [State.enterHalted_eq, State.beforeCut]
      exact (KeepsStation.haltFeeds k
        { s with machine := { state := .halted, returnState := none } }).trans (.of_eq hfeeds)
    · exact .of_eq rfl

theorem KeepsStation.raise (k : Nat) (s : State) (kind : AlarmKind) (src : Option Source) :
    KeepsStation k s (s.raise kind src) :=
  (KeepsStation.of_eq (t := s.raiseRecord kind src) (by simp)).trans (KeepsStation.react k _ _)

theorem KeepsStation.raiseWhen (k : Nat) (s : State) (j : Nat) (kind : AlarmKind) (entered : Bool) :
    KeepsStation k s (s.raiseWhen j kind entered) := by
  cases entered with
  | false => exact .of_eq rfl
  | true => exact KeepsStation.raise k s kind _

theorem KeepsStation.judgeChange (k : Nat) (s : State) (j : Nat) (a b : Station) :
    KeepsStation k s (s.judgeChange j a b) :=
  (((KeepsStation.of_eq (t := s.stationConditions) (by simp)).trans (KeepsStation.raiseWhen k _ _ _ _)).trans
    (KeepsStation.raiseWhen k _ _ _ _)).trans (KeepsStation.raiseWhen k _ _ _ _)

/-! ## The judgments of a change, in the order of the commands (R46, R65) -/

theorem Station.entersLow_congr {a b b' : Station} (h : b'.causes = b.causes) :
    a.entersLow b' = a.entersLow b := by
  obtain ⟨hlow, -⟩ := Prod.mk.inj h
  simp only [Station.entersLow, hlow]

theorem Station.enters_congr {m : StationState} {a b b' : Station} (h : b'.causes = b.causes) :
    Station.enters m a b' = Station.enters m a b := by
  obtain ⟨-, hstate⟩ := Prod.mk.inj h
  simp only [Station.enters, hstate]

/-- A judgment of EMPTY after one of LOW, as LOAD makes them. -/
theorem State.judged_lowEmpty {u : State} {k : Nat} {a b : Station} (hb : u.station? k = some b)
    (hsuspect : Station.enters .suspect a b = false) :
    (u.stationConditions.raiseIfLow k a.low).raiseIfEmptied k a.state = u.judgeChange k a b := by
  have hconditions : u.stationConditions.station? k = some b := (station?_congr (by simp) k).trans hb
  obtain ⟨b', hb', hsame⟩ := KeepsStation.raiseWhen k u.stationConditions k .stationLow (a.entersLow b) b hconditions
  rw [State.raiseIfLow_eq hconditions, State.raiseIfEmptied_eq hb', Station.enters_congr hsame.causes,
    State.judgeChange, hsuspect]
  rfl

theorem State.judged_empty {u : State} {k : Nat} {a b : Station} (hb : u.station? k = some b)
    (hlow : a.entersLow b = false) (hsuspect : Station.enters .suspect a b = false) :
    u.stationConditions.raiseIfEmptied k a.state = u.judgeChange k a b := by
  have hconditions : u.stationConditions.station? k = some b := (station?_congr (by simp) k).trans hb
  rw [State.raiseIfEmptied_eq hconditions, State.judgeChange, hlow, hsuspect]
  rfl

theorem State.judged_low {u : State} {k : Nat} {a b : Station} (hb : u.station? k = some b)
    (hempty : Station.enters .empty a b = false) (hsuspect : Station.enters .suspect a b = false) :
    u.stationConditions.raiseIfLow k a.low = u.judgeChange k a b := by
  have hconditions : u.stationConditions.station? k = some b := (station?_congr (by simp) k).trans hb
  rw [State.raiseIfLow_eq hconditions, State.judgeChange, hempty, hsuspect]
  rfl

theorem State.judged_ends (u : State) (k : Nat) {a b : Station} (hlow : a.entersLow b = false)
    (hempty : Station.enters .empty a b = false) (hsuspect : Station.enters .suspect a b = false) :
    u.stationConditions = u.judgeChange k a b := by
  rw [State.judgeChange, hlow, hempty, hsuspect]
  rfl

theorem Station.entersLow_of_low {a b : Station} (h : b.low = a.low) : a.entersLow b = false := by
  simp [Station.entersLow, h]

theorem Station.enters_of_state {m : StationState} {a b : Station} (h : b.state = a.state ∨ b.state ≠ m) :
    Station.enters m a b = false := by
  rcases h with h | h
  · simp [Station.enters, h]
  · simp [Station.enters, h]

/-! ## What the judgment shows afterwards (R65) -/

theorem exists_causes_iff {l l' : List Station} (h : l'.map Station.causes = l.map Station.causes)
    (g : Bool × StationState → Prop) : (∃ st ∈ l', g st.causes) ↔ ∃ st ∈ l, g st.causes := by
  have hiff (m : List Station) : (∃ st ∈ m, g st.causes) ↔ ∃ c ∈ m.map Station.causes, g c := by simp
  rw [hiff l', hiff l, h]

/-- The judgment of one kind reads the record of the kind and the stations' causes alone. -/
theorem CauseJudged.congr {s t t' : State} {k : Nat} {kind : AlarmKind} {entered entered' : Prop}
    {g : Bool × StationState → Prop}
    (h : CauseJudged s t k kind entered fun st => g st.causes) (he : entered' ↔ entered)
    (ha : t'.alarm kind = t.alarm kind)
    (hc : t'.stations.map Station.causes = t.stations.map Station.causes) :
    CauseJudged s t' k kind entered' fun st => g st.causes := by
  obtain ⟨hraised, hstands, hends⟩ := h
  have hexists := exists_causes_iff hc g
  refine ⟨fun hin => ?_, fun hout hholds => ?_, fun hout hnone => ?_⟩
  · have hr := hraised (he.mp hin)
    unfold Raised at hr ⊢
    rw [ha]
    exact hr
  · rw [ha]
    exact hstands (fun hin => hout (he.mpr hin)) (hexists.mp hholds)
  · have hr := hends (fun hin => hout (he.mpr hin)) fun st hst hg =>
      (hexists.mpr ⟨st, hst, hg⟩).elim fun st' hst' => hnone st' hst'.1 hst'.2
    unfold Ended at hr ⊢
    rw [ha]
    exact hr

theorem CausesJudged.congr {s t t' : State} {k : Nat} {a b b' : Station} (h : CausesJudged s t k a b)
    (hb : b'.causes = b.causes)
    (ha : ∀ kind, kind = .stationLow ∨ kind = .stationEmpty ∨ kind = .stationSuspect →
      t'.alarm kind = t.alarm kind)
    (hc : t'.stations.map Station.causes = t.stations.map Station.causes) : CausesJudged s t' k a b' := by
  obtain ⟨hlow, hempty, hsuspect⟩ := h
  obtain ⟨hl, hs⟩ := Prod.mk.inj hb
  exact ⟨hlow.congr (g := fun c => c.1 = true) (by rw [hl]) (ha _ (by simp)) hc,
    hempty.congr (g := fun c => c.2 = .empty) (by rw [hs]) (ha _ (by simp)) hc,
    hsuspect.congr (g := fun c => c.2 = .suspect) (by rw [hs]) (ha _ (by simp)) hc⟩

/-- The judgment as a command leaves it: no end of PAUSING or DRAINING is judged with it. -/
theorem State.causesJudged_command {s u : State} {k : Nat} {a b b' : Station} (halarms : u.alarms = s.alarms)
    (hsettings : u.settings = s.settings) (hb : u.station? k = some b) (hcauses : b'.causes = b.causes) :
    CausesJudged s (u.judgeChange k a b) k a b' :=
  (causesJudged_judgeChange halarms hsettings hb).congr hcauses
    (fun kind _ => (alarm_congr (by simp) kind).symm) (by simp)

theorem CausesJudged.replied {s t : State} {k : Nat} {a b : Station} (h : CausesJudged s t k a b) (cmd : Byte)
    (code : ReplyCode) (payload : List Byte) : CausesJudged s (t.replied cmd code payload) k a b :=
  h.congr rfl (fun _ _ => rfl) rfl

theorem State.stretch_raiseWhen_of_ne_halt (s : State) (k : Nat) {kind : AlarmKind} {entered : Bool}
    (h : entered = true → (s.alarm kind).reaction ≠ .halt) :
    (s.raiseWhen k kind entered).stretch = s.stretch := by
  cases entered with
  | false => rfl
  | true =>
    obtain ⟨-, -, -, hstretch, -⟩ := s.raise_of_ne_halt kind (some (.station k)) (h rfl)
    exact hstretch

theorem State.stretch_judgeChange_of_ne_halt (s : State) (k : Nat) {a b : Station}
    (hlow : a.entersLow b = true → (s.alarm .stationLow).reaction ≠ .halt)
    (hempty : Station.enters .empty a b = true → (s.alarm .stationEmpty).reaction ≠ .halt)
    (hsuspect : Station.enters .suspect a b = true → (s.alarm .stationSuspect).reaction ≠ .halt) :
    (s.judgeChange k a b).stretch = s.stretch := by
  rw [State.judgeChange, State.stretch_raiseWhen_of_ne_halt, State.stretch_raiseWhen_of_ne_halt,
    State.stretch_raiseWhen_of_ne_halt]
  · simp
  · simpa using hlow
  · rw [State.alarm_raiseWhen_ne _ _ (by decide)]
    simpa using hempty
  · rw [State.alarm_raiseWhen_ne _ _ (by decide), State.alarm_raiseWhen_ne _ _ (by decide)]
    simpa using hsuspect

/-! ## The commands -/

theorem State.onStation_refused {s : State} {kind : Byte} {index : Half} (hshape : ShapeHolds s)
    (h : kind ≠ 3 ∨ index.toNat = 0 ∨ 72 < index.toNat) (act : Nat → Station → Answer) :
    s.onStation kind index act = s.reply .refusedRange := by
  unfold State.onStation
  split
  next hkind => rw [State.station?_eq_none hshape (h.resolve_left fun hne => hne hkind)]
  next => rfl

theorem taken_station {s : State} (h : Taking s) {index : Half} {st : Station}
    (hst : s.station? index.toNat = some st) (cmd : Byte) (act : State → Nat → Station → Answer) :
    taken cmd s (fun s => s.onStation 3 index (act s)) =
      .next ((act s index.toNat st).state.replied cmd (act s index.toNat st).code
        (act s index.toNat st).payload) := by
  have hon : s.onStation 3 index (act s) = act s index.toNat st := by
    rw [State.onStation, if_pos (show (3 : Byte) = kindStation from rfl), hst]
  rw [taken_taking h, hon]

theorem taken_otherStation {s : State} (h : Taking s) {kind : Byte} {index : Half} (hshape : ShapeHolds s)
    (hk : kind ≠ 3 ∨ index.toNat = 0 ∨ 72 < index.toNat) (cmd : Byte) (act : State → Nat → Station → Answer) :
    taken cmd s (fun s => s.onStation kind index (act s)) = .next (s.replied cmd .refusedRange []) := by
  rw [taken_taking h, State.onStation_refused hshape hk]
  rfl

theorem exec_load {s : State} {index : Half} {st : Station} (h : Taking s)
    (hst : s.station? index.toNat = some st) (remaining : Half) :
    exec (.load 3 index remaining) s =
      .next ((s.loadStation index.toNat remaining.toNat st).state.replied 10
        (s.loadStation index.toNat remaining.toNat st).code
        (s.loadStation index.toNat remaining.toNat st).payload) :=
  taken_station h hst 10 fun s k st => s.loadStation k remaining.toNat st

theorem exec_stationSetting {s : State} {index : Half} {st : Station} (h : Taking s)
    (hst : s.station? index.toNat = some st) (item : Byte) (value : Half) :
    exec (.stationSetting 3 index item value) s =
      .next ((s.stationSetting index.toNat item.toNat value.toNat st).state.replied 11
        (s.stationSetting index.toNat item.toNat value.toNat st).code
        (s.stationSetting index.toNat item.toNat value.toNat st).payload) :=
  taken_station h hst 11 fun s k st => s.stationSetting k item.toNat value.toNat st

/-- What STATION with the state item does (R63, R206). -/
def State.stationItem (s : State) (value : Nat) (k : Nat) (st : Station) : Answer :=
  match boolOfCode value with
  | some false => s.stationOffline k st
  | some true => s.stationOnline k st
  | none => s.reply .refusedRange

theorem exec_stationState {s : State} {index : Half} {st : Station} (h : Taking s)
    (hst : s.station? index.toNat = some st) (value : Half) :
    exec (.stationState 3 index value) s =
      .next ((s.stationItem value.toNat index.toNat st).state.replied 11
        (s.stationItem value.toNat index.toNat st).code
        (s.stationItem value.toNat index.toNat st).payload) :=
  taken_station h hst 11 fun s k st => s.stationItem value.toNat k st

theorem exec_clearStation {s : State} {index : Half} {st : Station} (h : Taking s)
    (hst : s.station? index.toNat = some st) :
    exec (.clearStation 3 index) s =
      .next ((s.clearStation index.toNat st).state.replied 12
        (s.clearStation index.toNat st).code (s.clearStation index.toNat st).payload) :=
  taken_station h hst 12 fun s k st => s.clearStation k st

/-! ## LOAD (R61) -/

/-- The record after an accepted LOAD, LOW set anew (R46, R61). -/
def Station.afterLoad (st : Station) (value : Nat) : Station :=
  { st.loaded value with low := (st.loaded value).lowFlag }

theorem Station.afterLoad_eq (st : Station) (value : Nat) :
    st.afterLoad value =
      { st with
        remaining := value
        low := decide (0 < value) && decide (value ≤ st.lowLevel)
        consecutiveMisses := if st.state = .empty ∧ 0 < value then 0 else st.consecutiveMisses
        state :=
          if st.state = .empty ∧ 0 < value then .ready
          else if st.state = .ready ∧ value = 0 then .empty else st.state } := by
  unfold Station.afterLoad Station.loaded Station.lowFlag
  split
  next h => by_cases hv : 0 < value <;> simp [h, hv]
  next h => by_cases hv : value = 0 <;> simp [h, hv]
  next hempty hready => simp [show st.state ≠ .empty from hempty, show st.state ≠ .ready from hready]

theorem Station.afterLoad_suspect (st : Station) (value : Nat) :
    Station.enters .suspect st (st.afterLoad value) = false := by
  refine Station.enters_of_state ?_
  rw [Station.afterLoad_eq]
  dsimp only
  split
  · exact .inr (by decide)
  · split
    · exact .inr (by decide)
    · exact .inl rfl

theorem State.loadStation_accepted {s : State} {k value : Nat} {st : Station} (hst : s.station? k = some st)
    (h : st.committed ≤ value) :
    s.loadStation k value st =
      ((s.putStation k (st.afterLoad value)).judgeChange k st (st.afterLoad value)).ok := by
  rw [State.loadStation, if_neg (Nat.not_lt.mpr h)]
  exact congrArg State.ok (State.judged_lowEmpty (State.station?_putStation_self hst _)
    (st.afterLoad_suspect value))

/-- The reply to a command that judges a change of a station. -/
theorem answered_judgeChange {s u : State} (hport : u.port = s.port) (hfree : u.freeCount = s.freeCount)
    (k : Nat) (a b : Station) (cmd : Byte) :
    Answered s ((u.judgeChange k a b).ok.state.replied cmd (u.judgeChange k a b).ok.code
      (u.judgeChange k a b).ok.payload) cmd .ok [] := by
  refine answered_replied s (u.judgeChange k a b) ?_ ?_ cmd .ok []
  · unfold State.judgeChange State.raiseWhen
    split_ifs <;> simp [hfree]
  · unfold State.judgeChange State.raiseWhen
    split_ifs <;> simp [hport]

end Sys2Proof.Machine

open Sys2Proof Sys2Proof.Machine

/-- Settles O33: an accepted LOAD writes the station and judges the change. -/
theorem loadSetsRemaining : Obligations.LoadSetsRemaining := by
  refine ⟨fun kind index remaining s h hshape hk =>
    taken_otherStation h hshape hk 10 fun s k st => s.loadStation k remaining.toNat st,
    fun index remaining s st h hshape hst => ⟨fun hvalue => ?_, fun hvalue => ?_⟩⟩
  · have hput := State.station?_putStation_self hst (st.afterLoad remaining.toNat)
    obtain ⟨st', hst', hsame⟩ := KeepsStation.judgeChange index.toNat
      (s.putStation index.toNat (st.afterLoad remaining.toNat)) index.toNat st (st.afterLoad remaining.toNat) _ hput
    rw [exec_load h hst, State.loadStation_accepted hst hvalue]
    refine ⟨_, st', rfl, hst', fun hlow hempty => ?_,
      (State.causesJudged_command (by simp) (by simp) hput hsame.causes).replied ..,
      answered_judgeChange (by simp) (by simp) ..⟩
    have halarm (kind : AlarmKind) :
        (s.putStation index.toNat (st.afterLoad remaining.toNat)).alarm kind = s.alarm kind :=
      alarm_congr (by simp) kind
    have hsuspect := st.afterLoad_suspect remaining.toNat
    obtain ⟨htable, -, hstations⟩ := State.judgeChange_of_ne_halt
      (s.putStation index.toNat (st.afterLoad remaining.toNat)) index.toNat (a := st)
      (b := st.afterLoad remaining.toNat) (fun _ => by rwa [halarm]) (fun _ => by rwa [halarm])
      (by simp [hsuspect])
    have hstretch := State.stretch_judgeChange_of_ne_halt
      (s.putStation index.toNat (st.afterLoad remaining.toNat)) index.toNat (a := st)
      (b := st.afterLoad remaining.toNat) (fun _ => by rwa [halarm]) (fun _ => by rwa [halarm])
      (by simp [hsuspect])
    refine ⟨?_, htable.trans (by simp), hstretch.trans (by simp)⟩
    have hsame' := hst'.symm.trans ((station?_congr hstations _).trans hput)
    rw [Option.some.inj hsame', Station.afterLoad_eq]
  · rw [exec_load h hst, State.loadStation, if_pos hvalue]
    rfl
end

section
/-! PROOFS. STATION and CLEAR of a station, CLEAR of a clip-condition entry, and the advance timeout
(R56, R62 to R64, R107). -/

namespace Sys2Proof.Machine

/-! ## STATION with a setting item (R62) -/

/-- The record with a changed low level, LOW set anew (R46). -/
def Station.withLowLevel (st : Station) (value : Nat) : Station :=
  { st with lowLevel := value, low := decide (0 < st.remaining) && decide (st.remaining ≤ value) }

theorem State.stationSetting_lowLevel {s : State} {k : Nat} {st : Station} (hst : s.station? k = some st)
    (value : Nat) :
    s.stationSetting k 1 value st =
      ((s.putStation k (st.withLowLevel value)).judgeChange k st (st.withLowLevel value)).ok :=
  congrArg State.ok (State.judged_low (State.station?_putStation_self hst _)
    (Station.enters_of_state (.inl rfl)) (Station.enters_of_state (.inl rfl)))

theorem State.stationSetting_writes {s : State} {k item value : Nat} {st st' : Station}
    (h : st.withSetting item value = some st') (hitem : item ≠ 1) :
    s.stationSetting k item value st = (s.putStation k st').ok := by
  simp only [State.stationSetting, h, if_neg hitem]

theorem State.stationSetting_refused {s : State} {k item value : Nat} {st : Station}
    (h : st.withSetting item value = none) : s.stationSetting k item value st = s.reply .refusedRange := by
  simp only [State.stationSetting, h]

theorem Station.withSetting_of_ge (st : Station) {item : Nat} (h : 5 ≤ item) (value : Nat) :
    st.withSetting item value = none := by
  obtain ⟨n, rfl⟩ := Nat.exists_eq_add_of_le' h
  rfl

theorem State.putStation_of_station? {s : State} {k : Nat} {st : Station} (h : s.station? k = some st)
    (st' : Station) : s.putStation k st' = { s with stations := s.stations.set (k - 1) st' } := by
  refine if_neg fun hk => ?_
  rw [State.station?, if_pos hk] at h
  cases h

/-- Without HALT, the change of one station leaves the table, the stretch and the other stations. -/
structure ChangesStation (k : Nat) (b : Station) (s t : State) : Prop where
  changed : t.station? k = some b
  table : t.table = s.table
  stretch : t.stretch = s.stretch
  others : ∀ j : Nat, j ≠ k → t.station? j = s.station? j

theorem changesStation_judgeChange {s : State} {k : Nat} {a b : Station} (hst : s.station? k = some a)
    (hlow : a.entersLow b = true → (s.alarm .stationLow).reaction ≠ .halt)
    (hempty : Station.enters .empty a b = true → (s.alarm .stationEmpty).reaction ≠ .halt)
    (hsuspect : Station.enters .suspect a b = false) :
    ChangesStation k b s ((s.putStation k b).judgeChange k a b) := by
  have halarm (kind : AlarmKind) : (s.putStation k b).alarm kind = s.alarm kind := alarm_congr (by simp) kind
  have hlow' : a.entersLow b = true → ((s.putStation k b).alarm .stationLow).reaction ≠ .halt := by
    rwa [halarm]
  have hempty' : Station.enters .empty a b = true → ((s.putStation k b).alarm .stationEmpty).reaction ≠ .halt := by
    rwa [halarm]
  have hsuspect' : Station.enters .suspect a b = true →
      ((s.putStation k b).alarm .stationSuspect).reaction ≠ .halt := by simp [hsuspect]
  obtain ⟨htable, -, hstations⟩ := (s.putStation k b).judgeChange_of_ne_halt k hlow' hempty' hsuspect'
  have hstretch := (s.putStation k b).stretch_judgeChange_of_ne_halt k hlow' hempty' hsuspect'
  exact ⟨(station?_congr hstations k).trans (State.station?_putStation_self hst b), htable.trans (by simp),
    hstretch.trans (by simp),
    fun j hj => (station?_congr hstations j).trans (State.station?_putStation_ne s hj b)⟩

/-! ## STATION with the state item (R63) -/

theorem State.judged_offline (u : State) (k : Nat) (st : Station) :
    u.judgeChange k st { st with state := .offline } = u.stationConditions :=
  (State.judged_ends _ k (Station.entersLow_of_low rfl) (Station.enters_of_state (.inr (by simp)))
    (Station.enters_of_state (.inr (by simp)))).symm

theorem State.stationOffline_eq (s : State) (k : Nat) (st : Station) :
    s.stationOffline k st =
      ((s.putStation k { st with state := .offline }).judgeChange k st { st with state := .offline }).ok :=
  congrArg State.ok (State.judged_offline ..).symm

/-- The ends of the lasting conditions change the alarm records alone. -/
theorem State.stationConditions_changes (s : State) :
    s.stationConditions = { s with alarms := s.stationConditions.alarms } := by
  have hframe := s.stationConditions_frame
  generalize s.stationConditions = t at hframe ⊢
  cases s
  cases t
  simp_all

/-- The record of a station that returns to service (R63, R64). -/
def Station.inService (st : Station) : Station :=
  { st with state := if 0 < st.remaining then .ready else .empty }

theorem Station.inService_suspect (st : Station) (a : Station) : Station.enters .suspect a st.inService = false := by
  refine Station.enters_of_state (.inr ?_)
  unfold Station.inService
  dsimp only
  split <;> decide

theorem State.stationOnline_offline {s : State} {k : Nat} {st : Station} (hst : s.station? k = some st)
    (h : st.state = .offline) :
    s.stationOnline k st = ((s.putStation k st.inService).judgeChange k st st.inService).ok := by
  have hput := State.station?_putStation_self hst st.inService
  simp only [State.stationOnline, h]
  split
  next hparts =>
    have hready : ({ st with state := .ready } : Station) = st.inService := by
      simp [Station.inService, hparts]
    rw [hready]
    exact congrArg State.ok (State.judged_ends _ k (Station.entersLow_of_low rfl)
      (Station.enters_of_state (.inr (by simp [← hready]))) (st.inService_suspect st))
  next hparts =>
    have hempty : ({ st with state := .empty } : Station) = st.inService := by
      simp [Station.inService, hparts]
    rw [hempty]
    refine congrArg State.ok ?_
    rw [← h]
    exact State.judged_empty hput (Station.entersLow_of_low rfl) (st.inService_suspect st)

theorem State.stationItem_offline (s : State) (k : Nat) (st : Station) :
    s.stationItem 0 k st = s.stationOffline k st := rfl

theorem State.stationItem_online (s : State) (k : Nat) (st : Station) :
    s.stationItem 1 k st = s.stationOnline k st := rfl

theorem State.stationItem_refused (s : State) {value : Nat} (h : 1 < value) (k : Nat) (st : Station) :
    s.stationItem value k st = s.reply .refusedRange := by
  have hnone : boolOfCode value = none := by
    obtain ⟨n, rfl⟩ := Nat.exists_eq_add_of_le' h
    rfl
  simp only [State.stationItem, hnone]

/-! ## CLEAR (R64, R107) -/

/-- The record that CLEAR leaves: the miss window emptied, and back in service (R64). -/
def Station.afterClear (st : Station) : Station :=
  { st with
    missWindow := [], consecutiveMisses := 0
    state := if 0 < st.remaining then .ready else .empty }

theorem State.clearStation_accepted {s : State} {k : Nat} {st : Station} (hst : s.station? k = some st)
    (h : st.state = .jammed ∨ st.state = .suspect) :
    s.clearStation k st = ((s.putStation k st.afterClear).judgeChange k st st.afterClear).ok := by
  rw [State.clearStation, if_pos h]
  refine congrArg State.ok (State.judged_empty (State.station?_putStation_self hst st.afterClear)
    (Station.entersLow_of_low rfl) (Station.enters_of_state (.inr ?_)))
  unfold Station.afterClear
  dsimp only
  split <;> decide

theorem exec_clearClipCondition {s : State} (h : Taking s) (index : Half) :
    exec (.clearClipCondition index) s =
      if index.toNat < 200 then
        .next (State.replied
          { s with conditions := s.conditions.set index.toNat { state := .ok, failCount := 0 } } 12 .ok [])
      else .next (s.replied 12 .refusedRange []) := by
  rw [exec, execClearClipCondition, taken_taking h]
  by_cases hi : index.toNat < 200
  · rw [if_pos hi]
    simp only [Config.clipCount, hi, if_true]
    rfl
  · rw [if_neg hi]
    simp only [Config.clipCount, hi, if_false]
    rfl

/-! ## The advance timeout (R56) -/

theorem exec_advanceTimeout {s : State} (hl : Live s) {k : Nat} (h1 : 1 ≤ k) (h72 : k ≤ 72) :
    exec (.advanceTimeout k) s = .next (s.jam k) := by
  change execAdvanceTimeout k s = _
  rw [execAdvanceTimeout, if_pos ⟨h1, h72⟩, event_live hl]

/-- The record of a station after a jam: the feed dropped, a READY station JAMMED (R56). -/
def Station.afterJam (st : Station) : Station :=
  { st.dropped with state := if st.state = .ready then .jammed else st.state }

theorem Station.afterJam_state (st : Station) {m : StationState} (h : m ≠ .jammed) :
    Station.enters m st st.afterJam = false := by
  refine Station.enters_of_state ?_
  unfold Station.afterJam
  dsimp only
  split
  · exact .inr h.symm
  · exact .inl rfl

/-- A jam before STATION_JAM is raised. -/
def State.jammedRecords (s : State) (k : Nat) (st : Station) : State :=
  ((s.dropAt k).putStation k st.afterJam).judgeChange k st st.afterJam

theorem State.jammedRecords_eq (s : State) (k : Nat) (st : Station) :
    s.jammedRecords k st = ((s.dropAt k).putStation k st.afterJam).stationConditions :=
  (State.judged_ends _ k (Station.entersLow_of_low (a := st) (b := st.afterJam) rfl)
    (st.afterJam_state (m := .empty) (by decide)) (st.afterJam_state (m := .suspect) (by decide))).symm

theorem State.station?_jammedRecords {s : State} {k : Nat} {st : Station} (hst : s.station? k = some st) :
    (s.jammedRecords k st).station? k = some st.afterJam :=
  (KeepsResting.judgeChange _ k st st.afterJam).station
    (State.station?_putStation_self (State.station?_dropAt_self hst) st.afterJam) rfl

theorem State.alarm_jammedRecords (s : State) (k : Nat) (st : Station) :
    (s.jammedRecords k st).alarm .stationJam = s.alarm .stationJam := by
  rw [State.jammedRecords_eq, State.stationConditions]
  simp only [State.alarm_endIfNone, reduceCtorEq, false_and, if_false]
  exact alarm_congr (by simp) _

theorem State.jam_eq {s : State} {k : Nat} {st : Station} (hst : s.station? k = some st)
    (h : st.advanceTimer.isSome = true) :
    s.jam k = ((s.jammedRecords k st).raise .stationJam (some (.station k))).settle := by
  have htimer : st.advanceTimer ≠ none := Option.isSome_iff_ne_none.mp h
  simp only [State.jam, hst, if_neg htimer, State.station?_dropAt_self hst, State.jammedRecords_eq]
  rfl

theorem State.jam_ignored {s : State} {k : Nat} {st : Station} (hst : s.station? k = some st)
    (h : st.advanceTimer = none) : s.jam k = s := by
  simp only [State.jam, hst, h, if_true]

end Sys2Proof.Machine

open Sys2Proof Sys2Proof.Machine

/-- Settles O35: a CLEAR judges the change of its station. -/
theorem clearRestoresStationsAndClips : Obligations.ClearRestoresStationsAndClips := by
  refine ⟨fun kind index s h hshape hk => taken_otherStation h hshape hk 12 fun s k st => s.clearStation k st,
    fun index s st h _ hst => ⟨fun hstate hempty => ?_, fun hjammed hsuspect => ?_⟩,
    fun index s h => ⟨fun hi => ?_, fun hi => ?_⟩⟩
  · have hput := State.station?_putStation_self hst st.afterClear
    have hsuspect : Station.enters .suspect st st.afterClear = false := st.inService_suspect st
    have hchanges := changesStation_judgeChange (b := st.afterClear) hst
      (by simp [Station.entersLow_of_low (a := st) (b := st.afterClear) rfl]) (fun _ => hempty) hsuspect
    rw [exec_clearStation h hst, State.clearStation_accepted hst hstate]
    exact ⟨_, st.afterClear, rfl, hchanges.changed, rfl,
      (State.causesJudged_command (by simp) (by simp) hput rfl).replied ..,
      answered_judgeChange (by simp) (by simp) ..⟩
  · rw [exec_clearStation h hst, State.clearStation, if_neg (not_or.mpr ⟨hjammed, hsuspect⟩)]
    rfl
  · rw [exec_clearClipCondition h, if_pos hi]
  · rw [exec_clearClipCondition h, if_neg (Nat.not_lt.mpr hi)]

/-- Settles O32: the jam's records are written before STATION_JAM, and its feed has ended. -/
theorem advanceTimeoutIsAJam : Obligations.AdvanceTimeoutIsAJam := by
  refine ⟨fun k s st h hshape h1 h72 hst => ⟨fun htimer => ?_, fun hnone => ?_⟩, fun k pocket s hk => ?_⟩
  · obtain ⟨-, -, hstretch, -⟩ := hshape
    have hjudged := State.station?_jammedRecords hst
    have hkeeps : KeepsResting (s.jammedRecords k st)
        ((s.jammedRecords k st).raise .stationJam (some (.station k))).settle :=
      (KeepsResting.raise ..).trans (.settle _)
    have hclip : (s.jammedRecords k st).clip k = { s.clip k with state := .dropMissed } := by
      rw [State.jammedRecords_eq, clip_congr (s := s.dropAt k) (by simp), State.clip_dropAt s hst (by omega),
        if_pos rfl]
    have halarm : (s.jammedRecords k st).alarm .stationJam = s.alarm .stationJam := State.alarm_jammedRecords ..
    rw [exec_advanceTimeout h h1 h72, State.jam_eq hst htimer]
    refine ⟨_, st.afterJam, rfl, hkeeps.station hjudged rfl, rfl, ?_, ?_, ?_, ?_, ?_, fun c u hcall hu => ?_⟩
    · have hput := State.station?_putStation_self (State.station?_dropAt_self hst) st.afterJam
      refine (State.causesJudged_command (by simp) (by simp) hput rfl).congr rfl (fun kind hkind => ?_) hkeeps.causes
      have hne : kind ≠ .stationJam := by
        rintro rfl
        simp at hkind
      have hraise := (s.jammedRecords k st).alarm_raise_ne hne (some (.station k))
      exact (alarm_congr (by simp) kind).trans hraise
    · exact raised_congr halarm (by simp [State.jammedRecords_eq]) (State.raised_raise_settle ..)
    · rw [State.machine_raise_settle, halarm]
      simp [State.jammedRecords_eq]
    · rw [hkeeps.clip h72 hjudged rfl, hclip]
    · rw [hkeeps.clip h72 hjudged rfl, hclip]
    · obtain ⟨hstatus, hrecalls⟩ := State.recall_dropAt hst hcall hu
      have hstatus' : (s.jammedRecords k st).statusOf c.placement c.parity = some { u with state := .callable } := by
        rw [State.jammedRecords_eq, ← hstatus]
        exact statusOf_congr (by simp) ..
      refine ⟨hkeeps.status hstatus' (by simp), fun hhalt => ?_⟩
      obtain ⟨-, hboards, -⟩ := (s.jammedRecords k st).raise_of_ne_halt .stationJam (some (.station k))
        (by rwa [halarm])
      rw [State.board_settle, board_congr hboards, State.jammedRecords_eq, ← hrecalls]
      exact congrArg BoardRecord.recalls (board_congr (by simp) _)
  · rw [exec_advanceTimeout h h1 h72, State.jam_ignored hst hnone]
  · have hnone : ¬ (1 ≤ k ∧ k ≤ Config.stationCount) := by
      simp only [Config.stationCount]
      omega
    exact ⟨if_neg hnone, if_neg hnone⟩

/-- Settles O34: a setting is written as it is, but for the low level, whose change is judged. -/
theorem stationCommandsSetTheStation : Obligations.StationCommandsSetTheStation := by
  refine ⟨fun kind index value item s h hshape hk =>
    ⟨taken_otherStation h hshape hk 11 fun s k st => s.stationSetting k item.toNat value.toNat st,
      taken_otherStation h hshape hk 11 fun s k st => s.stationItem value.toNat k st⟩,
    ?_⟩
  intro index value item s st h hshape hst v
  refine ⟨fun st' hitem => ?_, fun hitem => ?_, fun hitem => ?_, ?_, fun hstate hempty => ?_, fun hready => ?_,
    fun hoffline hready => ?_, fun hvalue => ?_⟩
  · have hsetting : st.withSetting item.toNat v = some st' ∧ item.toNat ≠ 1 := by
      rcases hitem with ⟨rfl, hv, rfl⟩ | ⟨rfl, hv, rfl⟩ | ⟨rfl, hv, hv', rfl⟩ | ⟨rfl, hv, hv', rfl⟩
      · exact ⟨if_pos hv, by decide⟩
      · exact ⟨if_pos hv, by decide⟩
      · exact ⟨if_pos ⟨hv, hv'⟩, by decide⟩
      · exact ⟨if_pos ⟨hv, hv'⟩, by decide⟩
    rw [exec_stationSetting h hst, State.stationSetting_writes hsetting.1 hsetting.2,
      State.putStation_of_station? hst]
    rfl
  · subst hitem
    have hput := State.station?_putStation_self hst (st.withLowLevel v)
    have hempty : Station.enters .empty st (st.withLowLevel v) = false := Station.enters_of_state (.inl rfl)
    have hsuspect : Station.enters .suspect st (st.withLowLevel v) = false := Station.enters_of_state (.inl rfl)
    obtain ⟨st', hst', hsame⟩ := KeepsStation.judgeChange index.toNat
      (s.putStation index.toNat (st.withLowLevel v)) index.toNat st (st.withLowLevel v) _ hput
    have hexec : exec (.stationSetting 3 index 1 value) s = _ := exec_stationSetting h hst 1 value
    rw [hexec, show (1 : Byte).toNat = 1 from rfl, State.stationSetting_lowLevel hst]
    refine ⟨_, st', rfl, hst', fun hlow => ?_, ?_, ?_, ?_, ?_,
      (State.causesJudged_command (by simp) (by simp) hput hsame.causes).replied ..,
      answered_judgeChange (by simp) (by simp) ..⟩
    · have hchanges := changesStation_judgeChange (b := st.withLowLevel v) hst (fun _ => hlow)
        (by simp [hempty]) hsuspect
      exact ⟨Option.some.inj (hst'.symm.trans hchanges.changed), hchanges.table, hchanges.stretch,
        fun j _ _ hj => hchanges.others j hj⟩
    · rw [hsame]; rfl
    · rw [hsame]; simp [Station.withLowLevel]
    · rw [hsame]; rfl
    · rw [hsame]; rfl
  · have hnone : st.withSetting item.toNat v = none := by
      rcases hitem with ⟨rfl, hv⟩ | ⟨rfl, hv⟩ | ⟨rfl, hv⟩ | ⟨rfl, hv⟩ | hge
      · exact if_neg (by omega)
      · exact if_neg (by omega)
      · exact if_neg (by omega)
      · exact if_neg (by omega)
      · exact st.withSetting_of_ge hge v
    rw [exec_stationSetting h hst, State.stationSetting_refused hnone]
    rfl
  · have hput := State.station?_putStation_self hst { st with state := .offline }
    rw [exec_stationState h hst, show (0 : Half).toNat = 0 from rfl, State.stationItem_offline,
      State.stationOffline_eq]
    refine ⟨_, rfl, ?_, (State.causesJudged_command (by simp) (by simp) hput rfl).replied ..,
      answered_judgeChange (by simp) (by simp) ..⟩
    rw [State.judged_offline, State.stationConditions_changes, State.putStation_of_station? hst]
    rfl
  · have hput := State.station?_putStation_self hst st.inService
    have hlow : st.entersLow st.inService = false := Station.entersLow_of_low rfl
    have hchanges := changesStation_judgeChange (b := st.inService) hst (by simp [hlow]) (fun _ => hempty)
      (st.inService_suspect st)
    rw [exec_stationState h hst, show (1 : Half).toNat = 1 from rfl, State.stationItem_online,
      State.stationOnline_offline hst hstate]
    exact ⟨_, st.inService, rfl, hchanges.changed, rfl,
      (State.causesJudged_command (by simp) (by simp) hput rfl).replied .., hchanges.table, hchanges.stretch,
      fun j _ _ hj => hchanges.others j hj, answered_judgeChange (by simp) (by simp) ..⟩
  · have honline : s.stationOnline index.toNat st = s.ok := by simp only [State.stationOnline, hready]
    rw [exec_stationState h hst, show (1 : Half).toNat = 1 from rfl, State.stationItem_online, honline]
    rfl
  · have honline : s.stationOnline index.toNat st = s.reply .refusedState := by
      unfold State.stationOnline
      split
      · contradiction
      · contradiction
      · rfl
    rw [exec_stationState h hst, show (1 : Half).toNat = 1 from rfl, State.stationItem_online, honline]
    rfl
  · rw [exec_stationState h hst, State.stationItem_refused s hvalue]
    rfl
end

section
/-! PROOFS. What the blocks of a completion and the reactions after them send to the placement table:
requests (R7 to R11) and the call request (R6), and what these keep of a status and of a board's counts. -/

namespace Sys2Proof.Machine

/-! ## Requests in a row (R6 to R11) -/

/-- What a request writes in the status it names, and what it reports to the board. -/
structure Sent where
  write : StatusSlot → StatusSlot
  report : Report

/-- `t` follows from `s` by requests that satisfy `ok`, by call requests of a machine that works, and by
changes outside the placement table and the boards in which no machine begins to work. -/
inductive TableSteps (ok : Sent → Prop) : State → State → Prop
  | same {s t : State} (htable : t.table = s.table) (hboards : t.boards = s.boards)
      (hworking : t.working = true → s.working = true) : TableSteps ok s t
  | request {w : Sent} (h : ok w) (s : State) (n : Nat) (p : Parity) :
      TableSteps ok s (s.request n p w.write w.report)
  | call {s : State} {n : Nat} {p : Parity} {r : Placement} (hworking : s.working = true)
      (hr : s.slot? n = some r) (hc : (r.status.get p).state = .callable) : TableSteps ok s (s.callRequest n p)
  | trans {s t u : State} (h : TableSteps ok s t) (h' : TableSteps ok t u) : TableSteps ok s u

theorem State.working_congr {s t : State} (h : t.machine = s.machine) : t.working = s.working := by
  simp only [State.working, h]

variable {ok : Sent → Prop}

theorem TableSteps.of_machine {s t : State} (htable : t.table = s.table) (hboards : t.boards = s.boards)
    (hmachine : t.machine = s.machine) : TableSteps ok s t :=
  .same htable hboards fun h => (State.working_congr hmachine).symm.trans h

theorem TableSteps.refl (s : State) : TableSteps ok s s := .of_machine rfl rfl rfl

theorem TableSteps.foldl {α : Type} {f : State → α → State} (h : ∀ s a, TableSteps ok s (f s a))
    (l : List α) (s : State) : TableSteps ok s (l.foldl f s) := by
  induction l generalizing s with
  | nil => exact .refl s
  | cons a l ih => exact (h s a).trans (ih (f s a))

theorem TableSteps.working {s t : State} (h : TableSteps ok s t) : t.working = true → s.working = true := by
  induction h with
  | same _ _ hworking => exact hworking
  | request _ s n p => exact fun h => (State.working_congr (by simp)).symm.trans h
  | call hworking => exact fun _ => hworking
  | trans _ _ ih ih' => exact fun h => ih (ih' h)

/-! ## What requests keep of a status -/

theorem State.statusOf_callRequest {s : State} {n : Nat} {r : Placement} (hr : s.slot? n = some r) (p : Parity)
    (m : Nat) (q : Parity) :
    (s.callRequest n p).statusOf m q =
      if m = n ∧ q = p then some { r.status.get p with state := .called } else s.statusOf m q := by
  have htable : (s.callRequest n p).table =
      (s.putSlot n (some { r with status := r.status.put p { r.status.get p with state := .called } })).table := by
    rw [State.callRequest, s.modifyStatus_of hr]
    simp
  rw [statusOf_congr htable]
  by_cases hm : m = n
  · subst hm
    rw [State.statusOf_of_slot? (State.slot?_putSlot_self hr _), Pair.get_put]
    by_cases hq : q = p
    · simp [hq]
    · simp [hq, State.statusOf_of_slot? hr]
  · rw [State.statusOf, s.slot?_putSlot_ne hm, if_neg fun h => hm h.1]
    rfl

/-- What no request that may be sent changes of a status, and no call. -/
theorem TableSteps.status_field {α : Type} {g : StatusSlot → α} {s t : State} (h : TableSteps ok s t)
    (hcall : ∀ u : StatusSlot, g { u with state := .called } = g u)
    (hok : ∀ w, ok w → ∀ u, g (w.write u) = g u) {n : Nat} {p : Parity} {u : StatusSlot}
    (hu : s.statusOf n p = some u) : ∃ u', t.statusOf n p = some u' ∧ g u' = g u := by
  induction h generalizing u with
  | same htable => exact ⟨u, (statusOf_congr htable n p).trans hu, rfl⟩
  | @request w hw s m q =>
    rcases s.request_cases m q w.write w.report with hsame | ⟨r, hr, hopen, hc⟩
    · rw [hsame]
      exact ⟨u, hu, rfl⟩
    · rw [State.statusOf_request hr hopen hc]
      split
      next hnp =>
        obtain ⟨rfl, rfl⟩ := hnp
        obtain rfl := Option.some.inj ((State.statusOf_of_slot? hr p).symm.trans hu)
        exact ⟨_, rfl, hok w hw _⟩
      next => exact ⟨u, hu, rfl⟩
  | @call s m q r _ hr hc =>
    rw [State.statusOf_callRequest hr]
    split
    next hnp =>
      obtain ⟨rfl, rfl⟩ := hnp
      obtain rfl := Option.some.inj ((State.statusOf_of_slot? hr p).symm.trans hu)
      exact ⟨_, rfl, hcall _⟩
    next => exact ⟨u, hu, rfl⟩
  | trans _ _ ih ih' =>
    obtain ⟨u', hu', hg⟩ := ih hu
    obtain ⟨u'', hu'', hg'⟩ := ih' hu'
    exact ⟨u'', hu'', hg'.trans hg⟩

/-- A status that is not CALLED stands, where it is not CALLABLE or the machine does not work (R12, R78). -/
theorem TableSteps.uncalled {s t : State} (h : TableSteps ok s t) {n : Nat} {p : Parity} {u : StatusSlot}
    (hu : s.statusOf n p = some u) (hcalled : u.state ≠ .called)
    (hcallable : u.state ≠ .callable ∨ s.working = false) : t.statusOf n p = some u := by
  induction h with
  | same htable => exact (statusOf_congr htable n p).trans hu
  | request _ s m q => exact State.statusOf_request_of_ne_called hu hcalled ..
  | @call s m q r hworking hr hc =>
    rw [State.statusOf_callRequest hr, if_neg, hu]
    rintro ⟨rfl, rfl⟩
    obtain rfl := Option.some.inj ((State.statusOf_of_slot? hr p).symm.trans hu)
    simp [hworking, hc] at hcallable
  | trans h _ ih ih' =>
    refine ih' (ih hu hcallable) (hcallable.imp_right fun hidle => ?_)
    exact Bool.eq_false_iff.mpr fun hw => by simp [h.working hw] at hidle

/-! ## What requests keep of a board -/

/-- A board after one request: as it was, or with the report counted. -/
def Counts (rep : Report) (b b' : BoardRecord) : Prop :=
  b' = b ∨ b' = { b.count rep with phase := b'.phase }

theorem State.counts_request (s : State) (n : Nat) (p : Parity) (f : StatusSlot → StatusSlot) (rep : Report)
    (q : Parity) : Counts rep (s.board q) ((s.request n p f rep).board q) := by
  rcases s.request_cases n p f rep with hsame | ⟨r, hr, hopen, hc⟩
  · exact .inl (by rw [hsame])
  · obtain ⟨hboard, hother⟩ := s.board_request hr hopen hc f rep
    rcases eq_or_eq_otherParity p q with rfl | rfl
    · exact .inr hboard
    · exact .inl hother

theorem State.counts_callRequest (s : State) (n : Nat) (p : Parity) (q : Parity) :
    Counts .call (s.board q) ((s.callRequest n p).board q) := by
  unfold State.callRequest
  rcases eq_or_eq_otherParity p q with rfl | rfl
  · refine .inr ?_
    rw [State.board_report, board_congr (s := s) (by simp)]
  · refine .inl ?_
    rw [State.board_report_ne _ (otherParity_ne p), board_congr (s := s) (by simp)]

/-- What no request that may be sent changes of a board. -/
theorem TableSteps.board_field {α : Type} {g : BoardRecord → α} {s t : State} (h : TableSteps ok s t)
    (hphase : ∀ b ph, g { b with phase := ph } = g b) (hok : ∀ w, ok w → ∀ b, g (b.count w.report) = g b)
    (p : Parity) : g (t.board p) = g (s.board p) := by
  have hcounts {rep : Report} {b b' : BoardRecord} (h : Counts rep b b') (hrep : g (b.count rep) = g b) :
      g b' = g b := by
    rcases h with h | h
    · rw [h]
    · rw [h, hphase, hrep]
  induction h with
  | same _ hboards => rw [board_congr hboards]
  | request hw s n q => exact hcounts (s.counts_request ..) (hok _ hw _)
  | call => exact hcounts (State.counts_callRequest ..) rfl
  | trans _ _ ih ih' => exact ih'.trans ih

theorem Counts.recalls {rep : Report} {b b' : BoardRecord} (h : Counts rep b b') {m : Nat}
    (hm : min 65535 m ≤ b.recalls) : min 65535 m ≤ b'.recalls := by
  have hsat : min 65535 m ≤ saturate 65535 b.recalls := by
    simp only [saturate]
    omega
  rcases h with rfl | h
  · exact hm
  · rw [h]
    cases rep with
    | returned => exact hsat
    | deferral => exact hsat
    | _ => exact hm

/-- No step lowers the recalls of a board (R29). -/
theorem TableSteps.recalls {s t : State} (h : TableSteps ok s t) {p : Parity} {m : Nat}
    (hm : min 65535 m ≤ (s.board p).recalls) : min 65535 m ≤ (t.board p).recalls := by
  induction h with
  | same _ hboards => rwa [board_congr hboards]
  | request _ s n q => exact (s.counts_request ..).recalls hm
  | call => exact (State.counts_callRequest ..).recalls hm
  | trans _ _ ih ih' => exact ih' (ih hm)

/-! ## What each block sends -/

/-- The uncounted recall (R7). -/
def Sent.recall : Sent := ⟨fun u => { u with state := .callable }, .returned⟩

/-- The counted recall (R7). -/
def Sent.counted : Sent := ⟨fun u => { u with state := .callable, attempts := u.attempts + 1 }, .returned⟩

/-- The miss at the recall limit (R8). -/
def Sent.miss : Sent := ⟨fun u => { u with state := .missed, attempts := u.attempts + 1 }, .miss⟩

/-- The deferral (R7). -/
def Sent.deferral : Sent :=
  ⟨fun u => { u with state := .callable, deferrals := saturate 15 u.deferrals }, .deferral⟩

/-- The interruption request (R10). -/
def Sent.interruption : Sent := ⟨fun u => { u with state := .interrupted }, .interruption⟩

/-- The out-of-travel request (R11). -/
def Sent.travel : Sent := ⟨fun u => { u with state := .skipped, skipReason := some .outOfTravel }, .skipTravel⟩

/-- The requests that a block may send at a completion. -/
def sentBy : Reactor → List Sent
  | .scan => []
  | .station _ => [.recall]
  | .verify => [.counted, .miss]
  | .gate => [.deferral]
  | .planner => [.travel]

/-- The requests that a HALT sends (R58, R167). -/
def haltSends : List Sent := [.recall, .interruption]

theorem TableSteps.dropAt (h : ok .recall) (s : State) (k : Nat) : TableSteps ok s (s.dropAt k) := by
  cases hst : s.station? k with
  | none => exact .of_machine (by simp [State.dropAt, hst]) (by simp [State.dropAt, hst]) (by simp)
  | some st =>
    have hmarked : TableSteps ok s ((s.putStation k st.dropped).markClip k .dropMissed) :=
      .of_machine (by simp) (by simp) (by simp)
    cases hcall : (s.clip k).call with
    | none => rwa [State.dropAt_of_no_call hst hcall]
    | some c =>
      rw [State.dropAt_of_call hst hcall]
      exact hmarked.trans (.request h ..)

theorem TableSteps.scanFrom {s : State} (hworking : s.working = true) (fuel : Nat) (l : List Nat) :
    TableSteps ok s (s.scanFrom fuel l).1 := by
  induction fuel generalizing l with
  | zero => exact .refl s
  | succ fuel ih =>
    unfold State.scanFrom
    split
    · exact .refl s
    next p c hleast =>
      obtain ⟨hslot, hmay, -⟩ := State.mem_candidates.mp (leastCandidate_mem (State.leastPair_mem hleast).2)
      split
      · exact .refl s
      · split
        next t ht =>
          obtain ⟨st, -, -, rfl⟩ := s.commit_eq t ht
          refine .trans (t := State.putClip _ 0 _) (.of_machine (by simp) (by simp) (by simp)) (.call ?_
            ((slot?_congr (s := s) (by simp) _).trans hslot) (State.mayBeCalled_callable hmay hslot))
          exact (State.working_congr (by simp)).trans hworking
        · exact ih _

theorem TableSteps.callScan (s : State) : TableSteps ok s s.callScan.1 := by
  unfold State.callScan
  split
  next h =>
    rw [Bool.and_eq_true] at h
    have hscan := TableSteps.scanFrom (ok := ok) h.1 (Config.stationCount + 1) []
    split
    next hresult =>
      rw [hresult] at hscan
      exact hscan.trans (.of_machine (by simp) (by simp) (by simp))
    next hresult =>
      rw [hresult] at hscan
      exact hscan
  next => exact .refl s

theorem TableSteps.stationReacts (h : ok .recall) (s : State) (k : Nat) : TableSteps ok s (s.stationReacts k) := by
  unfold State.stationReacts
  split
  · split
    · exact .refl s
    · split
      · exact .dropAt h s k
      · split
        · exact .of_machine (by simp) (by simp) (by simp)
        · exact .of_machine (by simp) (by simp) (by simp)
  · exact .refl s

theorem TableSteps.recallCounted (hcounted : ok .counted) (hmiss : ok .miss) (s : State) (n : Nat) (p : Parity) :
    TableSteps ok s (s.recallCounted n p) := by
  unfold State.recallCounted
  split
  · exact .request hmiss ..
  · exact .request hcounted ..

theorem TableSteps.countedRecallOf (hcounted : ok .counted) (hmiss : ok .miss) (s : State) (c : Option Call) :
    TableSteps ok s (s.countedRecallOf c).1 := by
  unfold State.countedRecallOf
  split
  · exact .refl s
  next k =>
    have hrecall := TableSteps.recallCounted hcounted hmiss s k.placement k.parity
    split
    · exact hrecall.trans (.of_machine (by simp) (by simp) (by simp))
    · exact hrecall

theorem TableSteps.verifyReacts (hcounted : ok .counted) (hmiss : ok .miss) (s : State) (present leads : Bool) :
    TableSteps ok s (s.verifyReacts present leads).1 := by
  unfold State.verifyReacts
  split
  · dsimp only
    split
    · exact .of_machine (by simp) (by simp) (by simp)
    · refine .trans (t := (s.reportCondition (s.clip 76).clipId (judgeLoaded present leads)).writeJudgment .bad
        (judgeLoaded present leads)) (.of_machine (by simp) (by simp) (by simp)) ?_
      exact .countedRecallOf hcounted hmiss ..
  · exact .of_machine (by simp) (by simp) (by simp)
  · exact .of_machine (by simp) (by simp) (by simp)
  · exact .of_machine (by simp) (by simp) (by simp)
  · exact .refl s

theorem TableSteps.gateReacts (h : ok .deferral) (s : State) : TableSteps ok s s.gateReacts := by
  unfold State.gateReacts
  split
  · exact .of_machine (by simp) (by simp) (by simp)
  · exact .of_machine (by simp) (by simp) (by simp)
  · split
    · exact .refl s
    · split
      · exact .refl s
      · exact .trans (t := State.markClip _ _ _) (.of_machine (by simp) (by simp) (by simp)) (.request h ..)
  · exact .refl s

theorem TableSteps.planInsert (h : ok .travel) (s : State) (pos : SlotPosition) (j : Job) :
    TableSteps ok s (s.planInsert pos j) := by
  unfold State.planInsert
  split
  · split
    · exact .of_machine (by simp) (by simp) (by simp)
    · exact .trans (t := State.putClip _ _ _) (.of_machine (by simp) (by simp) (by simp)) (.request h ..)
  · exact .of_machine (by simp) (by simp) (by simp)

theorem TableSteps.plannerReacts (h : ok .travel) (s : State) : TableSteps ok s s.plannerReacts := by
  unfold State.plannerReacts
  split
  · exact .of_machine (by simp) (by simp) (by simp)
  · split
    · exact .refl s
    · split
      · exact .refl s
      · exact .planInsert h ..
  · exact .refl s

theorem TableSteps.reacts {r : Reactor} (h : ∀ w ∈ sentBy r, ok w) (s : State) (present leads : Bool) :
    TableSteps ok s (s.reacts present leads r).1 := by
  cases r with
  | scan => exact .callScan s
  | station k => exact .stationReacts (h _ (by simp [sentBy])) s k
  | verify => exact .verifyReacts (h _ (by simp [sentBy])) (h _ (by simp [sentBy])) s present leads
  | gate => exact .gateReacts (h _ (by simp [sentBy])) s
  | planner => exact .plannerReacts (h _ (by simp [sentBy])) s

theorem TableSteps.reactInOrder {rs : List Reactor} (h : ∀ r ∈ rs, ∀ w ∈ sentBy r, ok w) (present leads : Bool)
    (s : State) : TableSteps ok s (State.reactInOrder present leads rs s).1 := by
  induction rs generalizing s with
  | nil => exact .refl s
  | cons r rs ih =>
    exact (TableSteps.reacts (h r (by simp)) s present leads).trans (ih (fun x hx => h x (by simp [hx])) _)

/-! ## What the reactions send (R194) -/

theorem TableSteps.enterHalted (h : ∀ w ∈ haltSends, ok w) (s : State) : TableSteps ok s s.enterHalted := by
  have hrecall : ok .recall := h _ (by simp [haltSends])
  have hfeeds (u : State) : TableSteps ok u u.haltFeeds :=
    .foldl (fun u k => by
      unfold State.haltFeed
      split
      · exact .refl u
      · split
        · exact .refl u
        · exact .dropAt hrecall u k) stationNumbers u
  have hcut (u : State) : TableSteps ok u u.interrupt := by
    unfold State.interrupt
    split
    · dsimp only
      split
      · exact .of_machine (by simp) (by simp) (by simp)
      · exact .trans (t := State.putClip _ _ _) (.of_machine (by simp) (by simp) (by simp))
          (.request (h Sent.interruption (by simp [haltSends])) ..)
    · exact .refl u
  unfold State.enterHalted State.haltBlocks State.haltHead
  generalize hv : ({ s with machine := { state := .halted, returnState := none } } : State) = v
  have hstart : TableSteps ok s v := by
    subst hv
    exact .same rfl rfl fun h => nomatch h
  have hbefore : TableSteps ok v.haltFeeds v.haltFeeds.haltIndex.haltExchange :=
    .of_machine (by simp) (by simp) (by simp)
  exact (((hstart.trans (hfeeds v)).trans hbefore).trans (hcut _)).trans
    (.of_machine (by simp) (by simp) (by simp))

theorem State.working_pausingQuiet (s : State) (h : s.pausingQuiet.working = true) : s.working = true := by
  unfold State.pausingQuiet at h
  split at h
  · exact absurd h (by simp [State.working])
  · exact h

theorem State.working_settle (s : State) (h : s.settle.working = true) : s.working = true := by
  refine s.working_pausingQuiet ?_
  unfold State.settle State.drainEnd at h
  split at h
  · exact absurd h (by simp [State.endDraining, State.working])
  · exact h

theorem TableSteps.settle (s : State) : TableSteps ok s s.settle :=
  .same (by simp) (by simp) s.working_settle

theorem TableSteps.react (h : ∀ w ∈ haltSends, ok w) (s : State) (r : Reaction) : TableSteps ok s (s.react r) := by
  cases r with
  | note => exact .refl s
  | pause =>
    refine .same (by simp [State.react]) (by simp [State.react]) fun hworking => ?_
    change s.enterPausing.working = true at hworking
    unfold State.enterPausing at hworking
    split at hworking
    next hrun => exact s.working_iff.mpr (.inl hrun)
    next hrun => exact s.working_iff.mpr (.inr hrun)
    next => exact hworking
  | halt =>
    change TableSteps ok s s.haltIfMoving
    unfold State.haltIfMoving
    split
    · exact .enterHalted h s
    · exact .refl s

theorem TableSteps.reactAll (h : ∀ w ∈ haltSends, ok w) (s : State) (ks : List AlarmKind) :
    TableSteps ok s (s.reactAll ks) :=
  .foldl (fun u _ => .react h u _) ks s

/-! ## The blocks after the first, and the reactions (R70, R97) -/

/-- What follows the block that acts first at a completion. -/
theorem TableSteps.afterFirst {s : State} (hi : s.chain.indexState = .indexing) {r : Reactor}
    (hr : r ∈ allReactors) (hok : ∀ x, x ≠ r → ∀ w ∈ sentBy x, ok w) (hhalt : ∀ w ∈ haltSends, ok w)
    (present leads : Bool) (rest : List Reactor) :
    TableSteps ok (s.shift.reacts present leads r).1 (s.indexCompletion present leads (r :: rest)) := by
  obtain ⟨l, hl, hnot⟩ := fullOrder_cons r rest hr
  rw [s.indexCompletion_eq hi, hl]
  have hblocks : TableSteps ok (s.shift.reacts present leads r).1
      (State.reactInOrder present leads (r :: l) s.shift).1 :=
    .reactInOrder (fun x hx => hok x fun hxr => hnot (hxr ▸ hx)) present leads _
  have hjudged (u : State) : TableSteps ok u u.homingCheck.headJudge := .of_machine (by simp) (by simp) (by simp)
  exact ((hblocks.trans (hjudged _)).trans (.reactAll hhalt _ _)).trans (.settle _)

end Sys2Proof.Machine
end

section
/-! PROOFS. The reject gate as the block that acts first at a completion (R116 to R120). -/

namespace Sys2Proof.Machine

/-! ## A request for a CALLED placement (R12) -/

theorem State.request_called {s : State} {n : Nat} {p : Parity} {u : StatusSlot} (hopen : s.isOpen p = true)
    (hu : s.statusOf n p = some u) (hc : u.state = .called) (f : StatusSlot → StatusSlot) (rep : Report) :
    (s.request n p f rep).statusOf n p = some (f u) ∧
      ∃ phase, (s.request n p f rep).board p = { (s.board p).count rep with phase := phase } := by
  obtain ⟨r, hr, rfl⟩ := Option.map_eq_some_iff.mp hu
  exact ⟨(State.statusOf_request hr hopen hc f rep n p).trans (if_pos ⟨rfl, rfl⟩), _,
    (s.board_request hr hopen hc f rep).1⟩

theorem CalledFor.congr {s t : State} {c : Call} {u : StatusSlot} (h : CalledFor s c u)
    (htable : t.table = s.table) (hboards : t.boards = s.boards) : CalledFor t c u := by
  obtain ⟨hopen, hu, hc⟩ := h
  exact ⟨(State.isOpen_congr hboards _).trans hopen, (statusOf_congr htable _ _).trans hu, hc⟩

/-- The request leaves the deferrals of the placement and of the board. -/
def Sent.KeepsDeferrals (w : Sent) : Prop :=
  (∀ u, (w.write u).deferrals = u.deferrals) ∧ ∀ b : BoardRecord, (b.count w.report).deferrals = b.deferrals

theorem keepsDeferrals_of_ne_gate (x : Reactor) (hx : x ≠ .gate) : ∀ w ∈ sentBy x, w.KeepsDeferrals := by
  intro w hw
  cases x with
  | scan => simp [sentBy] at hw
  | station k =>
    obtain rfl : w = .recall := by simpa [sentBy] using hw
    exact ⟨fun _ => rfl, fun _ => rfl⟩
  | verify =>
    obtain rfl | rfl : w = .counted ∨ w = .miss := by simpa [sentBy] using hw
    · exact ⟨fun _ => rfl, fun _ => rfl⟩
    · exact ⟨fun _ => rfl, fun _ => rfl⟩
  | gate => exact absurd rfl hx
  | planner =>
    obtain rfl : w = .travel := by simpa [sentBy] using hw
    exact ⟨fun _ => rfl, fun _ => rfl⟩

theorem keepsDeferrals_halt : ∀ w ∈ haltSends, w.KeepsDeferrals := by
  intro w hw
  obtain rfl | rfl : w = .recall ∨ w = .interruption := by simpa [haltSends] using hw
  · exact ⟨fun _ => rfl, fun _ => rfl⟩
  · exact ⟨fun _ => rfl, fun _ => rfl⟩

/-! ## The pass condition (R118) -/

theorem State.mem_admitted {s : State} {n : Nat} {r : Placement} (h : s.slot? n = some r) : n ∈ s.admitted := by
  have hget : s.table[n]? = some (some r) := Option.join_eq_some_iff.mp h
  exact List.mem_filterMap.mpr ⟨(some r, n), List.mem_zipIdx_iff_getElem?.mpr hget, rfl⟩

theorem State.mem_pairs {s : State} {n : Nat} {r : Placement} (h : s.slot? n = some r) (p : Parity) :
    (n, p) ∈ s.pairs := by
  refine List.mem_flatMap.mpr ⟨n, State.mem_admitted h, ?_⟩
  cases p <;> simp

theorem State.mem_pairs_of_mustPrecede {s : State} {m q : Nat} {b c : Parity} (h : s.mustPrecede m b q c = true) :
    (m, b) ∈ s.pairs := by
  unfold State.mustPrecede at h
  cases hm : s.slot? m with
  | none => simp [hm] at h
  | some r => exact State.mem_pairs hm b

theorem State.predecessorsAtHead_iff (s : State) (q : Nat) (c : Parity) :
    s.predecessorsAtHead q c = true ↔
      ∀ m b, s.mustPrecede m b q c = true → s.carriedAtHead m b = true := by
  unfold State.predecessorsAtHead
  rw [List.all_eq_true]
  constructor
  · intro h m b hprecedes
    simpa [hprecedes] using h (m, b) (State.mem_pairs_of_mustPrecede hprecedes)
  · intro h e _
    cases hprecedes : s.mustPrecede e.1 e.2 q c with
    | false => simp
    | true => simp [h _ _ hprecedes]

/-! ## The gate by what it finds at 78 (R116) -/

theorem State.gateReacts_ejects {s : State} (h : (s.clip 78).state = .bad ∨ (s.clip 78).state = .stray) :
    s.gateReacts = s.eject.markClip 78 .rejected := by
  rcases h with h | h <;> simp only [State.gateReacts, h]

theorem State.gateReacts_passes {s : State}
    (h : (s.clip 78).state = .passedEmpty ∨ (s.clip 78).state = .unknown) : s.gateReacts = s := by
  rcases h with h | h <;> simp only [State.gateReacts, h]

theorem State.gateReacts_ordered {s : State} {c : Call} (h : (s.clip 78).state = .verified)
    (hcall : (s.clip 78).call = some c) (hahead : s.predecessorsAtHead c.placement c.parity = true) :
    s.gateReacts = s := by
  simp only [State.gateReacts, h, hcall, hahead, if_true]

theorem State.gateReacts_defers {s : State} {c : Call} (h : (s.clip 78).state = .verified)
    (hcall : (s.clip 78).call = some c) (hahead : s.predecessorsAtHead c.placement c.parity = false) :
    s.gateReacts = (s.eject.markClip 78 .deferred).recallDeferral c.placement c.parity := by
  simp only [State.gateReacts, h, hcall, hahead, Bool.false_eq_true, if_false]

theorem State.clip_markClip_self (s : State) {p : Nat} (h : p < s.stretch.length) (c : ClipState) :
    (s.markClip p c).clip p = { s.clip p with state := c } :=
  (s.clip_putClip p p _).trans (if_pos ⟨rfl, h⟩)

/-- The gate writes the state of its record alone (R117, R119). -/
theorem State.clip_gateReacts (s : State) :
    ∃ c : ClipState, s.gateReacts.clip 78 = { s.clip 78 with state := c } := by
  have hmarked (c : ClipState) : ∃ d : ClipState, (s.eject.markClip 78 c).clip 78 = { s.clip 78 with state := d } := by
    rw [State.markClip, State.clip_putClip]
    split
    · exact ⟨c, rfl⟩
    · exact ⟨_, rfl⟩
  unfold State.gateReacts
  split
  · exact hmarked _
  · exact hmarked _
  · split
    · exact ⟨_, rfl⟩
    · split
      · exact ⟨_, rfl⟩
      · rw [State.recallDeferral, State.clip_request]
        exact hmarked _
  · exact ⟨_, rfl⟩

/-- REJECT_GATE is as the gate leaves it (R120). -/
theorem State.rejectGate_indexCompletion {s : State} (hi : s.chain.indexState = .indexing) (present leads : Bool)
    (rest : List Reactor) :
    (s.indexCompletion present leads (.gate :: rest)).outputs.rejectGate = s.shift.gateReacts.outputs.rejectGate := by
  obtain ⟨l, hl, hnot⟩ := fullOrder_cons .gate rest (by decide)
  rw [s.indexCompletion_eq hi, hl]
  simp [State.rejectGate_reactAll, State.reactInOrder, State.outputs_reactInOrder _ _ _ _ hnot, State.reacts]

end Sys2Proof.Machine

open Sys2Proof Sys2Proof.Machine

/-- Settles O41: the gate's own step, and what the blocks and reactions after it keep. -/
theorem rejectGateDecides : Obligations.RejectGateDecides := by
  intro present leads rest s hl hshape hi
  obtain ⟨-, -, hlength, -⟩ := id hshape
  obtain ⟨id', hmoved⟩ := s.clip_shift_succ hlength (q := 77) (by omega)
  have hlength' : 78 < s.shift.stretch.length := by
    rw [s.length_stretch_shift, hlength]
    omega
  have hclip : (s.indexCompletion present leads (.gate :: rest)).clip 78 = s.shift.gateReacts.clip 78 :=
    s.clip_indexCompletion_first hi present leads .gate rest (by decide) (.inr (by decide))
  have hgate := State.rejectGate_indexCompletion hi present leads rest
  obtain ⟨htable, hboards, houtputs, hmachine, -⟩ := s.shift_values
  refine ⟨_, exec_indexCompletion hl .., fun h => ?_, fun h => ?_, ?_, fun c h hcall hahead => ?_,
    fun c m b h hcall hprecedes hbehind => ?_⟩
  · have h78 : (s.shift.clip 78).state = .bad ∨ (s.shift.clip 78).state = .stray := by rwa [hmoved]
    rw [hclip, hgate, State.gateReacts_ejects h78, State.clip_markClip_self _ (by simpa using hlength')]
    exact ⟨rfl, by simp [State.eject]⟩
  · have h78 : (s.shift.clip 78).state = .passedEmpty ∨ (s.shift.clip 78).state = .unknown := by rwa [hmoved]
    rw [hclip, hgate, State.gateReacts_passes h78, hmoved, houtputs]
    exact ⟨rfl, rfl⟩
  · obtain ⟨d, hd⟩ := s.shift.clip_gateReacts
    rw [hclip, hd, hmoved]
    exact ⟨rfl, rfl, rfl⟩
  · have h78 : (s.shift.clip 78).state = .verified := by rwa [hmoved]
    have hcall78 : (s.shift.clip 78).call = some c := by rwa [hmoved]
    rw [hclip, hgate, State.gateReacts_ordered h78 hcall78 ((State.predecessorsAtHead_iff ..).mpr hahead), houtputs]
    exact ⟨h78, rfl⟩
  · have h78 : (s.shift.clip 78).state = .verified := by rwa [hmoved]
    have hcall78 : (s.shift.clip 78).call = some c := by rwa [hmoved]
    have hfails : s.shift.predecessorsAtHead c.placement c.parity = false :=
      Bool.eq_false_iff.mpr fun h => by simp [(State.predecessorsAtHead_iff ..).mp h m b hprecedes] at hbehind
    have hdefers := State.gateReacts_defers h78 hcall78 hfails
    refine ⟨?_, ?_, fun u hu => ?_⟩
    · rw [hclip, hdefers, State.recallDeferral, State.clip_request,
        State.clip_markClip_self _ (by simpa using hlength')]
    · rw [hgate, hdefers]
      simp [State.eject]
    · obtain ⟨hopen, hstatus, hcalled⟩ :=
        hu.congr (t := s.shift.eject.markClip 78 .deferred) (by simp) (by simp)
      obtain ⟨hwritten, phase, hcounted⟩ := State.request_called hopen hstatus hcalled Sent.deferral.write .deferral
      have hfirst : (s.shift.reacts present leads .gate).1 =
          (s.shift.eject.markClip 78 .deferred).recallDeferral c.placement c.parity := hdefers
      have hafter := TableSteps.afterFirst hi (r := .gate) (by decide) keepsDeferrals_of_ne_gate keepsDeferrals_halt
        present leads rest
      rw [hfirst] at hafter
      have hboard : (s.shift.eject.markClip 78 .deferred).board c.parity = s.board c.parity := board_congr (by simp) _
      rw [hboard] at hcounted
      refine ⟨hafter.status_field (g := StatusSlot.deferrals) (fun _ => rfl) (fun w hw => hw.1) hwritten,
        fun hpausing => hafter.uncalled hwritten (by simp) (.inr ?_), ?_, hafter.recalls ?_⟩
      · rw [State.working_congr (s := s) (by simp [State.recallDeferral])]
        simp [State.working, hpausing]
      · refine (hafter.board_field (g := BoardRecord.deferrals) (fun _ _ => rfl) (fun w hw => hw.2) _).trans ?_
        exact congrArg BoardRecord.deferrals hcounted
      · exact (congrArg BoardRecord.recalls hcounted).symm.le
end

section
/-! PROOFS. Verify as the block that acts first at a completion (R106, R109 to R113). -/

namespace Sys2Proof.Machine

/-! ## What verify alone writes (R70) -/

/-- The entries of the clip-condition table change by verify alone (R106). -/
theorem State.conditions_reactInOrder {rs : List Reactor} (h : Reactor.verify ∉ rs) (present leads : Bool)
    (s : State) : (State.reactInOrder present leads rs s).1.conditions = s.conditions := by
  induction rs generalizing s with
  | nil => rfl
  | cons r rs ih =>
    obtain ⟨hr, hrs⟩ := not_or.mp (List.mem_cons.not.mp h)
    refine (ih hrs _).trans ?_
    cases r with
    | verify => exact absurd rfl hr
    | _ => simp [State.reacts]

/-- PLACEMENT_MISSED is raised by verify alone (R115). -/
theorem State.placementMissed_reactInOrder {rs : List Reactor} (h : Reactor.verify ∉ rs) (present leads : Bool)
    (s : State) : (State.reactInOrder present leads rs s).1.alarm .placementMissed = s.alarm .placementMissed := by
  induction rs generalizing s with
  | nil => rfl
  | cons r rs ih =>
    obtain ⟨hr, hrs⟩ := not_or.mp (List.mem_cons.not.mp h)
    refine (ih hrs _).trans ?_
    cases r with
    | verify => exact absurd rfl hr
    | scan =>
      change s.callScan.1.alarm _ = _
      have hscan := s.scanFrom_frame (Config.stationCount + 1) []
      obtain ⟨-, -, -, -, -, -, -, -, -, -, -, halarms, -⟩ := hscan
      unfold State.callScan
      split
      · split
        next hresult =>
          rw [hresult] at halarms
          rw [State.alarm_raiseRecord_ne _ (by decide), alarm_congr halarms]
        next hresult =>
          rw [hresult] at halarms
          exact alarm_congr halarms _
      · rfl
    | _ => exact alarm_congr (by simp [State.reacts]) _

theorem State.condition_indexCompletion {s : State} (hi : s.chain.indexState = .indexing) (present leads : Bool)
    (rest : List Reactor) (id : Nat) :
    (s.indexCompletion present leads (.verify :: rest)).condition id =
      (s.shift.verifyReacts present leads).1.condition id := by
  obtain ⟨l, hl, hnot⟩ := fullOrder_cons .verify rest (by decide)
  have hconditions : (s.indexCompletion present leads (.verify :: rest)).conditions =
      (s.shift.verifyReacts present leads).1.conditions := by
    rw [s.indexCompletion_eq hi, hl]
    simp [State.reactInOrder, State.conditions_reactInOrder hnot, State.reacts]
  simp only [State.condition, hconditions]

theorem State.placementMissed_indexCompletion {s : State} (hi : s.chain.indexState = .indexing)
    (present leads : Bool) (rest : List Reactor) :
    (s.indexCompletion present leads (.verify :: rest)).alarm .placementMissed =
      (s.shift.verifyReacts present leads).1.alarm .placementMissed := by
  obtain ⟨l, hl, hnot⟩ := fullOrder_cons .verify rest (by decide)
  refine (alarm_congr ?_ _).trans
    (State.placementMissed_reactInOrder hnot present leads (s.shift.verifyReacts present leads).1)
  rw [s.indexCompletion_eq hi, hl]
  simp [State.reactInOrder, State.reacts]

/-! ## The judgments (R110, R111) -/

theorem State.verifyReacts_good {s : State} (h : (s.clip 76).state = .loaded) :
    s.verifyReacts true true =
      ((s.reportCondition (s.clip 76).clipId .good).writeJudgment .verified .good, []) := by
  simp only [State.verifyReacts, h]
  rfl

/-- The judgment of a LOADED clip that fails (R110). -/
def failedJudgment (present : Bool) : Judgment := if present = true then .leadFault else .empty

/-- The records of a failing judgment, before the recall. -/
def State.judgedBad (s : State) (present : Bool) : State :=
  (s.reportCondition (s.clip 76).clipId (failedJudgment present)).writeJudgment .bad (failedJudgment present)

theorem State.verifyReacts_bad {s : State} {present leads : Bool} (h : (s.clip 76).state = .loaded)
    (hfails : present = false ∨ leads = false) :
    s.verifyReacts present leads = (s.judgedBad present).countedRecallOf (s.clip 76).call := by
  have hjudgment : judgeLoaded present leads = failedJudgment present := by
    rcases hfails with rfl | rfl
    · rfl
    · cases present <;> rfl
  have hne : failedJudgment present ≠ .good := by cases present <;> decide
  simp only [State.verifyReacts, h, hjudgment, if_neg hne]
  rfl

theorem State.verifyReacts_uncarried {s : State} (present leads : Bool)
    (h : (s.clip 76).state = .empty ∨ (s.clip 76).state = .unknown ∨ (s.clip 76).state = .dropMissed) :
    s.verifyReacts present leads = (s.judgeUncarried present, []) := by
  rcases h with h | h | h <;> simp only [State.verifyReacts, h]

theorem State.clip_writeJudgment {s : State} (h : 76 < s.stretch.length) (c : ClipState) (j : Judgment) :
    (s.writeJudgment c j).clip 76 = { s.clip 76 with state := c, verify := some j } :=
  (s.clip_putClip 76 76 _).trans (if_pos ⟨rfl, h⟩)

theorem State.condition_reportCondition {s : State} {id : Nat} (h : id < s.conditions.length) (j : Judgment) :
    (s.reportCondition (some id) j).condition id = (s.condition id).judged s.settings.badThreshold j :=
  (s.condition_putCondition id id _).trans (if_pos ⟨rfl, h⟩)

theorem ClipCondition.judged_failed (e : ClipCondition) (threshold : Nat) (present : Bool) :
    e.judged threshold (failedJudgment present) =
      { failCount := saturate 7 e.failCount
        state := if threshold ≤ saturate 7 e.failCount then .bad else .watch } := by
  cases present <;> rfl

/-! ## The recall of a failed judgment (R7, R8) -/

theorem State.countedRecallOf_miss {s : State} {c : Call} (h : s.exceedsLimit c.placement c.parity = true) :
    (s.countedRecallOf (some c)).1 =
      (s.request c.placement c.parity Sent.miss.write .miss).raiseRecord .placementMissed
        (some (.slot c.placement)) := by
  simp only [State.countedRecallOf, State.recallCounted, h, if_true]
  rfl

theorem State.countedRecallOf_recall {s : State} {c : Call} (h : s.exceedsLimit c.placement c.parity = false) :
    (s.countedRecallOf (some c)).1 = s.request c.placement c.parity Sent.counted.write .returned := by
  simp only [State.countedRecallOf, State.recallCounted, h, Bool.false_eq_true, if_false]
  rfl

/-- The request leaves the attempts of the placement. -/
def Sent.KeepsAttempts (w : Sent) : Prop := ∀ u, (w.write u).attempts = u.attempts

theorem keepsAttempts_of_ne_verify (x : Reactor) (hx : x ≠ .verify) : ∀ w ∈ sentBy x, w.KeepsAttempts := by
  intro w hw
  cases x with
  | scan => simp [sentBy] at hw
  | station k =>
    obtain rfl : w = .recall := by simpa [sentBy] using hw
    exact fun _ => rfl
  | verify => exact absurd rfl hx
  | gate =>
    obtain rfl : w = .deferral := by simpa [sentBy] using hw
    exact fun _ => rfl
  | planner =>
    obtain rfl : w = .travel := by simpa [sentBy] using hw
    exact fun _ => rfl

theorem keepsAttempts_halt : ∀ w ∈ haltSends, w.KeepsAttempts := by
  intro w hw
  obtain rfl | rfl : w = .recall ∨ w = .interruption := by simpa [haltSends] using hw
  · exact fun _ => rfl
  · exact fun _ => rfl

end Sys2Proof.Machine

open Sys2Proof Sys2Proof.Machine

/-- Settles O40: the judgment as verify writes it, which the later blocks and reactions keep. -/
theorem verifyJudgesTheRecord : Obligations.VerifyJudgesTheRecord := by
  intro present leads rest s hl hshape hi
  obtain ⟨-, -, hlength, hconditions⟩ := id hshape
  obtain ⟨id', hmoved⟩ := s.clip_shift_succ hlength (q := 75) (by omega)
  have hlength' : 76 < s.shift.stretch.length := by
    rw [s.length_stretch_shift, hlength]
    omega
  have hclip : (s.indexCompletion present leads (.verify :: rest)).clip 76 =
      (s.shift.verifyReacts present leads).1.clip 76 :=
    s.clip_indexCompletion_first hi present leads .verify rest (by decide) (.inr (by decide))
  have hcondition := State.condition_indexCompletion hi present leads rest
  have hmissed := State.placementMissed_indexCompletion hi present leads rest
  obtain ⟨htable, hboards, -, -, hsettings, hsameConditions, -⟩ := s.shift_values
  have hconditions' : s.shift.conditions.length = 200 := by rw [hsameConditions, hconditions]
  have hentry (id : Nat) : s.shift.condition id = s.condition id := by
    simp only [State.condition, hsameConditions]
  refine ⟨_, exec_indexCompletion hl .., fun h hpresent hleads => ?_, fun h hfails => ?_, fun h => ?_⟩
  · subst hpresent hleads
    have h76 : (s.shift.clip 76).state = .loaded := by rwa [hmoved]
    rw [hclip, State.verifyReacts_good h76, State.clip_writeJudgment (by simpa using hlength')]
    refine ⟨rfl, rfl, fun id hid hclipId => ?_⟩
    rw [hcondition, State.verifyReacts_good h76, hclipId]
    exact State.condition_reportCondition (by omega) .good
  · have h76 : (s.shift.clip 76).state = .loaded := by rwa [hmoved]
    have hbad := State.verifyReacts_bad h76 hfails
    have hrecord : (s.shift.judgedBad present).clip 76 = _ :=
      State.clip_writeJudgment (by simpa using hlength') .bad (failedJudgment present)
    rw [hclip, hbad, State.clip_countedRecallOf, hrecord]
    refine ⟨rfl, rfl, fun id hid hclipId => ?_, fun c u hcall hopen hu hc => ?_⟩
    · have hjudged : (s.shift.verifyReacts present leads).1.condition id = _ :=
        calc (s.shift.verifyReacts present leads).1.condition id
            = (s.shift.judgedBad present).condition id := by simp [hbad, State.condition]
          _ = (s.shift.reportCondition (some id) (failedJudgment present)).condition id := by
            rw [State.judgedBad, hclipId]; rfl
          _ = _ := State.condition_reportCondition (by omega) _
      rw [hcondition, hjudged, ClipCondition.judged_failed, hentry, hsettings]
      exact ⟨rfl, rfl⟩
    · have hcall76 : (s.shift.clip 76).call = some c := by rwa [hmoved]
      rw [hcall76] at hbad
      have hfirst : (s.shift.reacts present leads .verify).1 = _ := congrArg Prod.fst hbad
      have hafter := TableSteps.afterFirst hi (r := .verify) (by decide) keepsAttempts_of_ne_verify keepsAttempts_halt
        present leads rest
      rw [hfirst] at hafter
      obtain ⟨hopen', hu', hc'⟩ := CalledFor.congr (t := s.shift.judgedBad present) ⟨hopen, hu, hc⟩
        (by simp [State.judgedBad]) (by simp [State.judgedBad])
      have hlimit : (s.shift.judgedBad present).exceedsLimit c.placement c.parity = true ↔
          s.settings.recallLimit < u.attempts + 1 := by
        rw [State.exceedsLimit_iff hopen' hu' hc']
        simp [State.judgedBad]
      cases hexceeds : (s.shift.judgedBad present).exceedsLimit c.placement c.parity with
      | true =>
        have hmiss := State.countedRecallOf_miss hexceeds
        have hwritten := (State.request_called hopen' hu' hc' Sent.miss.write .miss).1
        rw [hmiss] at hafter
        refine ⟨Sent.miss.write u, hafter.uncalled ((statusOf_congr (by simp) _ _).trans hwritten) (by simp [Sent.miss])
          (.inl (by simp [Sent.miss])), rfl, fun _ => ⟨rfl, ?_⟩⟩
        exact (raised_of_alarm (by rw [hmissed, hbad, hmiss])).state_ne_clear
      | false =>
        have hwritten := (State.request_called hopen' hu' hc' Sent.counted.write .returned).1
        rw [State.countedRecallOf_recall hexceeds] at hafter
        obtain ⟨u', hstatus, hattempts⟩ := hafter.status_field (g := StatusSlot.attempts) (fun _ => rfl)
          (fun _ hw => hw) hwritten
        exact ⟨u', hstatus, hattempts, fun h => absurd (hlimit.mpr h) (by simp [hexceeds])⟩
  · have h76 : (s.shift.clip 76).state = .empty ∨ (s.shift.clip 76).state = .unknown ∨
        (s.shift.clip 76).state = .dropMissed := by rwa [hmoved]
    rw [hclip, State.verifyReacts_uncarried present leads h76]
    cases present with
    | true => exact ⟨congrArg Clip.state (State.clip_writeJudgment hlength' _ _),
        congrArg Clip.verify (State.clip_writeJudgment hlength' _ _)⟩
    | false => exact ⟨congrArg Clip.state (State.clip_writeJudgment hlength' _ _),
        congrArg Clip.verify (State.clip_writeJudgment hlength' _ _)⟩
end

section
/-! PROOFS. The move planner as the block that acts first at a completion (R140 to R143, R132). -/

namespace Sys2Proof.Machine

/-! ## The slot that is taken (R141) -/

theorem State.slotToTake_of {s : State} {p : Parity}
    (hfirst : p = s.alternation ∨ (s.moveSlot s.alternation).state ≠ .free)
    (hfree : p ≠ s.alternation ∨ (s.moveSlot p).state = .free) : s.slotToTake = p := by
  by_cases h : (s.moveSlot s.alternation).state = .free
  · rw [State.slotToTake_of_free h]
    exact (hfirst.resolve_right fun hne => hne h).symm
  · have hne : p ≠ s.alternation := by
      rintro rfl
      exact h (hfree.resolve_left fun hne => hne rfl)
    rw [State.slotToTake, if_neg h]
    exact ((eq_or_eq_otherParity s.alternation p).resolve_left hne).symm

theorem State.moveSlot_shift (s : State) (p : Parity) : s.shift.moveSlot p = (s.moveSlot p).advanced := by
  rw [State.moveSlot, s.shift_values.2.2.2.2.2.2.2.2, Pair.get_map]
  rfl

theorem MoveSlot.state_advanced (m : MoveSlot) : m.advanced.state = m.state := by
  unfold MoveSlot.advanced
  split <;> rfl

theorem State.slotToTake_shift (s : State) : s.shift.slotToTake = s.slotToTake := by
  obtain ⟨-, -, -, -, -, -, -, halternation, -⟩ := s.shift_values
  simp only [State.slotToTake, State.moveSlot_shift, MoveSlot.state_advanced, halternation]

theorem State.moveSlot_takeSlot_self (s : State) (m : MoveSlot) : (s.takeSlot m).moveSlot s.slotToTake = m :=
  (Pair.get_put ..).trans (if_pos rfl)

/-! ## The planner by what it finds at 79 (R140) -/

theorem State.plannerReacts_unknown {s : State} (h : (s.clip 79).state = .unknown) :
    s.plannerReacts = s.takeSlot (MoveSlot.dumpPlan .p79 s.dumpTargets) := by
  simp only [State.plannerReacts, h]
  rfl

theorem State.plannerReacts_verified {s : State} {c : Call} (h : (s.clip 79).state = .verified)
    (hdump : (s.clip 79).dump = false) (hcall : (s.clip 79).call = some c) :
    s.plannerReacts = s.planInsert .p79 c.job := by
  simp only [State.plannerReacts, h, hdump, hcall, Bool.false_eq_true, if_false]

theorem State.plannerReacts_passes {s : State} (h : (s.clip 79).state = .passedEmpty ∨
    (s.clip 79).state = .rejected ∨ (s.clip 79).state = .deferred) : s.plannerReacts = s := by
  rcases h with h | h | h <;> simp only [State.plannerReacts, h]

theorem State.planInsert_awaiting {s : State} {j : Job} (h : s.isAligned j.board = false) (pos : SlotPosition) :
    s.planInsert pos j = s.takeSlot (MoveSlot.without .awaitingBoard pos j) := by
  simp only [State.planInsert, h, Bool.false_eq_true, if_false]

theorem State.planInsert_planned {s : State} {j : Job} {g : Quad Nat} (h : s.isAligned j.board = true)
    (hg : s.computed j = some g) (pos : SlotPosition) :
    s.planInsert pos j = s.takeSlot (MoveSlot.planned pos j g) := by
  simp only [State.planInsert, h, hg, if_true]

theorem State.planInsert_void {s : State} {j : Job} (h : s.isAligned j.board = true) (hg : s.computed j = none)
    (pos : SlotPosition) :
    s.planInsert pos j = (s.takeSlot (MoveSlot.without .void pos j)).outOfTravel pos.number j := by
  simp only [State.planInsert, h, hg, if_true]

theorem State.alternation_planInsert (s : State) (pos : SlotPosition) (j : Job) :
    (s.planInsert pos j).alternation = otherParity s.slotToTake := by
  unfold State.planInsert
  split
  · split
    · rfl
    · simp [State.outOfTravel, State.takeSlot]
  · rfl

theorem State.clip_outOfTravel {s : State} {pos : Nat} (h : pos < s.stretch.length) (j : Job) :
    (s.outOfTravel pos j).clip pos = { s.clip pos with dump := true } := by
  rw [State.outOfTravel, State.travelRequest, State.clip_request, State.clip_putClip, if_pos ⟨rfl, h⟩]

theorem State.isAligned_congr {s t : State} (h : t.boards = s.boards) (number : Nat) :
    t.isAligned number = s.isAligned number := by
  simp only [State.isAligned, State.isOpenNumber, State.isOpen, board_congr h]

theorem State.computed_congr {s t : State} (htable : t.table = s.table) (hboards : t.boards = s.boards)
    (hsettings : t.settings = s.settings) (j : Job) : t.computed j = s.computed j := by
  simp only [State.computed, slot?_congr htable, board_congr hboards, hsettings]

/-! ## What stands of it at the end of the completion (R70) -/

theorem State.alternation_indexCompletion {s : State} (hi : s.chain.indexState = .indexing)
    (present leads : Bool) (rest : List Reactor) :
    (s.indexCompletion present leads (.planner :: rest)).alternation = s.shift.plannerReacts.alternation := by
  obtain ⟨l, hl, hnot⟩ := fullOrder_cons .planner rest (by decide)
  obtain ⟨-, halternation⟩ := State.slots_reactInOrder present leads l s.shift.plannerReacts hnot
  rw [s.indexCompletion_eq hi, hl, ← halternation]
  simp [State.reactInOrder, State.reacts]

/-- A slot that the planner has filled stands: it is not ACTIVE. -/
theorem State.moveSlot_indexCompletion {s : State} (hi : s.chain.indexState = .indexing) (present leads : Bool)
    (rest : List Reactor) (hstarve : (s.alarm .starve).reaction ≠ .halt)
    (hsync : (s.alarm .chainSync).reaction ≠ .halt) (hmissed : (s.alarm .placementMissed).reaction ≠ .halt)
    {p : Parity} (h : (s.shift.plannerReacts.moveSlot p).state ≠ .active) :
    (s.indexCompletion present leads (.planner :: rest)).moveSlot p = s.shift.plannerReacts.moveSlot p := by
  obtain ⟨l, hl, hnot⟩ := fullOrder_cons .planner rest (by decide)
  obtain ⟨hplanned, -⟩ := State.slots_reactInOrder present leads l s.shift.plannerReacts hnot
  obtain ⟨-, hslots, -⟩ :=
    s.indexCompletion_of_ne_halt hi present leads (.planner :: rest) hstarve hsync hmissed
  rw [hl] at hslots
  have hblocks : (State.reactInOrder present leads (.planner :: l) s.shift).1.slots = s.shift.plannerReacts.slots :=
    hplanned
  rw [hblocks] at hslots
  rcases hslots with hslots | hslots
  · exact congrArg (Pair.get · p) hslots
  · rw [State.moveSlot, hslots, Pair.get_map]
    exact if_neg h

/-- The request leaves the skips of the board. -/
def Sent.KeepsSkips (w : Sent) : Prop :=
  ∀ b : BoardRecord, ((b.count w.report).skipped, (b.count w.report).outOfTravel) = (b.skipped, b.outOfTravel)

theorem keepsSkips_of_ne_planner (x : Reactor) (hx : x ≠ .planner) : ∀ w ∈ sentBy x, w.KeepsSkips := by
  intro w hw
  cases x with
  | scan => simp [sentBy] at hw
  | station k =>
    obtain rfl : w = .recall := by simpa [sentBy] using hw
    exact fun _ => rfl
  | verify =>
    obtain rfl | rfl : w = .counted ∨ w = .miss := by simpa [sentBy] using hw
    · exact fun _ => rfl
    · exact fun _ => rfl
  | gate =>
    obtain rfl : w = .deferral := by simpa [sentBy] using hw
    exact fun _ => rfl
  | planner => exact absurd rfl hx

theorem keepsSkips_halt : ∀ w ∈ haltSends, w.KeepsSkips := by
  intro w hw
  obtain rfl | rfl : w = .recall ∨ w = .interruption := by simpa [haltSends] using hw
  · exact fun _ => rfl
  · exact fun _ => rfl

end Sys2Proof.Machine

open Sys2Proof Sys2Proof.Machine

/-- Settles O42: the planner's own step; no other block changes a slot, and none that it fills is ACTIVE. -/
theorem plannerTakesASlot : Obligations.PlannerTakesASlot := by
  intro present leads rest s p hl hshape hi hstarve hsync hmissed hfirst hfree
  obtain ⟨-, -, hlength, -⟩ := id hshape
  obtain ⟨id', hmoved⟩ := s.clip_shift_succ hlength (q := 78) (by omega)
  have hlength' : 79 < s.shift.stretch.length := by
    rw [s.length_stretch_shift, hlength]
    omega
  obtain ⟨htable, hboards, -, -, hsettings, -, -, halternation, -⟩ := s.shift_values
  have htaken : s.shift.slotToTake = p := s.slotToTake_shift.trans (State.slotToTake_of hfirst hfree)
  have hclip : (s.indexCompletion present leads (.planner :: rest)).clip 79 = s.shift.plannerReacts.clip 79 :=
    s.clip_indexCompletion_first hi present leads .planner rest (by decide) (.inr (by decide))
  have hnames := State.alternation_indexCompletion hi present leads rest
  have hfilled {m : MoveSlot} (h : s.shift.plannerReacts.moveSlot p = m) (hm : m.state ≠ .active) :
      (s.indexCompletion present leads (.planner :: rest)).moveSlot p = m :=
    (State.moveSlot_indexCompletion hi present leads rest hstarve hsync hmissed (h.symm ▸ hm)).trans h
  have htakes (m : MoveSlot) : (s.shift.takeSlot m).alternation = otherParity p ∧ (s.shift.takeSlot m).moveSlot p = m :=
    ⟨congrArg otherParity htaken, htaken ▸ s.shift.moveSlot_takeSlot_self m⟩
  refine ⟨_, exec_indexCompletion hl .., fun h => ?_, fun c h hdump hcall => ?_, fun h => ?_⟩
  · have hplan := State.plannerReacts_unknown (s := s.shift) (by rwa [hmoved])
    obtain ⟨hother, hslot⟩ := htakes (MoveSlot.dumpPlan .p79 s.shift.dumpTargets)
    rw [hnames, hplan]
    refine ⟨hother, (hfilled (by rw [hplan, hslot]) (by simp [MoveSlot.dumpPlan])).trans ?_⟩
    simp only [MoveSlot.dumpPlan, State.dumpTargets, hsettings]
  · have hplan : s.shift.plannerReacts = s.shift.planInsert .p79 c.job :=
      State.plannerReacts_verified (by rwa [hmoved]) (by rwa [hmoved]) (by rwa [hmoved])
    have haligned : s.shift.isAligned c.job.board = s.isAligned c.board := State.isAligned_congr hboards _
    have hcomputed : s.shift.computed c.job = s.computed c.job := State.computed_congr htable hboards hsettings _
    refine ⟨?_, fun h => ?_, fun g h hg => ?_, fun h hg => ?_⟩
    · rw [hnames, hplan, State.alternation_planInsert, htaken]
    · have hawaits := hplan.trans (State.planInsert_awaiting (haligned.trans h) _)
      exact hfilled (by rw [hawaits, (htakes _).2]) (by simp [MoveSlot.without])
    · have hplanned := hplan.trans (State.planInsert_planned (haligned.trans h) (hcomputed.trans hg) _)
      exact hfilled (by rw [hplanned, (htakes _).2]) (by simp [MoveSlot.planned])
    · have hvoid := hplan.trans (State.planInsert_void (haligned.trans h) (hcomputed.trans hg) _)
      obtain ⟨-, hslot⟩ := htakes (MoveSlot.without .void .p79 c.job)
      generalize hv : s.shift.takeSlot (MoveSlot.without .void .p79 c.job) = v at hvoid hslot
      have hvoided : (v.outOfTravel 79 c.job).moveSlot p = MoveSlot.without .void .p79 c.job :=
        (moveSlot_congr (by simp) p).trans hslot
      refine ⟨hfilled (by rw [hvoid]; exact hvoided) (by simp [MoveSlot.without]), ?_, fun u hu => ?_⟩
      · rw [hclip, hvoid]
        exact congrArg Clip.dump (State.clip_outOfTravel (pos := 79) (by simpa [← hv] using hlength') _)
      · have hafter := TableSteps.afterFirst hi (r := .planner) (by decide) keepsSkips_of_ne_planner keepsSkips_halt
          present leads rest
        have hmarked : (s.shift.reacts present leads .planner).1 =
            (v.putClip 79 { v.clip 79 with dump := true }).request c.placement c.parity Sent.travel.write .skipTravel :=
          hvoid
        obtain ⟨hopen, hstatus, hcalled⟩ :=
          hu.congr (t := v.putClip 79 { v.clip 79 with dump := true }) (by simp [← hv]) (by simp [← hv])
        obtain ⟨hwritten, phase, hcounted⟩ :=
          State.request_called hopen hstatus hcalled Sent.travel.write .skipTravel
        have hboard : (v.putClip 79 { v.clip 79 with dump := true }).board c.parity = s.board c.parity :=
          board_congr (by simp [← hv]) _
        rw [hmarked] at hafter
        rw [hboard] at hcounted
        have hkept := hafter.board_field (g := fun b => (b.skipped, b.outOfTravel)) (fun _ _ => rfl) (fun _ hw => hw)
          c.parity
        obtain ⟨hskipped, htravel⟩ := Prod.mk.inj hkept
        exact ⟨hafter.uncalled hwritten (by simp) (.inl (by simp)),
          hskipped.trans (congrArg BoardRecord.skipped hcounted),
          htravel.trans (congrArg BoardRecord.outOfTravel hcounted)⟩
  · rw [hnames, State.plannerReacts_passes (by rwa [hmoved]), halternation]
end

section
/-! PROOFS. The stretch through the blocks of a completion: every block acts once, at its own position
(R70). -/

namespace Sys2Proof.Machine

/-! ## Every block acts once (R70) -/

theorem nodup_eraseDups {α : Type} [DecidableEq α] (l : List α) : l.eraseDups.Nodup := by
  induction hn : l.length using Nat.strong_induction_on generalizing l with
  | _ n ih =>
    cases l with
    | nil => simp
    | cons a l =>
      rw [List.eraseDups_cons, List.nodup_cons]
      refine ⟨fun hmem => ?_, ih _ ?_ _ rfl⟩
      · simpa using (List.mem_filter.mp (List.mem_eraseDups.mp hmem)).2
      · have hle := List.length_filter_le (fun b => !b == a) l
        rw [← hn, List.length_cons]
        omega

theorem nodup_fullOrder (order : List Reactor) : (fullOrder order).Nodup := by
  refine List.Nodup.append (nodup_eraseDups _) (List.Nodup.filter _ ?_) fun x hx hx' => ?_
  · have hstations : (stationNumbers.map Reactor.station).Nodup :=
      List.Nodup.map (fun a b h => by simpa using h) (by decide)
    simp [allReactors, List.nodup_append, hstations]
  · have hnamed := (List.mem_filter.mp (List.mem_eraseDups.mp hx)).1
    simp [hnamed] at hx'

theorem mem_fullOrder {r : Reactor} (h : r ∈ allReactors) (order : List Reactor) : r ∈ fullOrder order := by
  by_cases hnamed : r ∈ order
  · exact List.mem_append_left _ (List.mem_eraseDups.mpr (List.mem_filter.mpr ⟨hnamed, by simpa using h⟩))
  · exact List.mem_append_right _ (List.mem_filter.mpr ⟨h, by simpa using hnamed⟩)

/-- The blocks before and after a given one. -/
theorem fullOrder_split {r : Reactor} (h : r ∈ allReactors) (order : List Reactor) :
    ∃ l₁ l₂, fullOrder order = l₁ ++ r :: l₂ ∧ r ∉ l₁ ∧ r ∉ l₂ := by
  obtain ⟨l₁, l₂, hl⟩ := List.append_of_mem (mem_fullOrder h order)
  have hnodup := nodup_fullOrder order
  rw [hl, List.nodup_middle, List.nodup_cons, List.mem_append, not_or] at hnodup
  obtain ⟨hnot, -⟩ := hnodup
  exact ⟨l₁, l₂, hl, hnot⟩

theorem State.reactInOrder_append (present leads : Bool) (l₁ l₂ : List Reactor) (s : State) :
    (State.reactInOrder present leads (l₁ ++ l₂) s).1 =
      (State.reactInOrder present leads l₂ (State.reactInOrder present leads l₁ s).1).1 := by
  induction l₁ generalizing s with
  | nil => rfl
  | cons r l₁ ih => exact ih _

/-- A record is as the block at its position finds and leaves it. -/
theorem State.clip_blocks {r : Reactor} (h : r ∈ allReactors) (order : List Reactor) (present leads : Bool)
    (s : State) :
    ∃ l₁ l₂, fullOrder order = l₁ ++ r :: l₂ ∧ r ∉ l₁ ∧ r ∉ l₂ ∧
      (State.reactInOrder present leads l₁ s).1.clip (reactorPosition r) = s.clip (reactorPosition r) ∧
      (State.reactInOrder present leads (fullOrder order) s).1.clip (reactorPosition r) =
        ((State.reactInOrder present leads l₁ s).1.reacts present leads r).1.clip (reactorPosition r) := by
  obtain ⟨l₁, l₂, hl, hbefore, hafter⟩ := fullOrder_split h order
  have hother {l : List Reactor} (hsub : ∀ x ∈ l, x ∈ fullOrder order) (hnot : r ∉ l) :
      ∀ x ∈ l, reactorPosition r ≠ reactorPosition x := fun x hx hp =>
    hnot (reactorPosition_injective h (mem_allReactors_of_fullOrder (hsub x hx)) hp ▸ hx)
  refine ⟨l₁, l₂, hl, hbefore, hafter, ?_, ?_⟩
  · exact State.clip_reactInOrder_ne _ _ _ _ (hother (fun x hx => by simp [hl, hx]) hbefore)
  · rw [hl, State.reactInOrder_append]
    exact State.clip_reactInOrder_ne _ _ _ _ (hother (fun x hx => by simp [hl, hx]) hafter)

/-! ## What a block changes of its record (R70) -/

/-- A block at position `p` changes the state and the judgment at 76, the state at 78 and the dump mark at
79, and nothing else of a record. -/
structure Clip.Passes (p : Nat) (e e' : Clip) : Prop where
  call : e'.call = e.call
  state : p ≠ 76 → p ≠ 78 → e'.state = e.state
  verify : p ≠ 76 → e'.verify = e.verify
  dump : p ≠ 79 → e'.dump = e.dump

theorem Clip.Passes.of_eq {p : Nat} {e e' : Clip} (h : e' = e) : Clip.Passes p e e' := by
  subst h
  exact ⟨rfl, fun _ _ => rfl, fun _ => rfl, fun _ => rfl⟩

theorem State.passes_writeJudgment (s : State) (c : ClipState) (j : Judgment) :
    Clip.Passes 76 (s.clip 76) ((s.writeJudgment c j).clip 76) := by
  rw [State.writeJudgment, State.clip_putClip]
  split
  · exact ⟨rfl, fun h => absurd rfl h, fun h => absurd rfl h, fun _ => rfl⟩
  · exact .of_eq rfl

theorem State.passes_verifyReacts (s : State) (present leads : Bool) :
    Clip.Passes 76 (s.clip 76) ((s.verifyReacts present leads).1.clip 76) := by
  have hjudged (id : Option Nat) (reported : Judgment) (c : ClipState) (j : Judgment) :
      Clip.Passes 76 (s.clip 76) (((s.reportCondition id reported).writeJudgment c j).clip 76) := by
    have hclip : (s.reportCondition id reported).clip 76 = s.clip 76 := clip_congr (by simp) _
    exact hclip ▸ (s.reportCondition id reported).passes_writeJudgment c j
  have huncarried : Clip.Passes 76 (s.clip 76) ((s.judgeUncarried present).clip 76) := by
    unfold State.judgeUncarried
    split
    · exact s.passes_writeJudgment ..
    · exact s.passes_writeJudgment ..
  unfold State.verifyReacts
  split
  · dsimp only
    split
    · exact hjudged ..
    · rw [State.clip_countedRecallOf]
      exact hjudged ..
  · exact huncarried
  · exact huncarried
  · exact huncarried
  · exact .of_eq rfl

theorem State.passes_planInsert (s : State) (j : Job) :
    Clip.Passes 79 (s.clip 79) ((s.planInsert .p79 j).clip 79) := by
  unfold State.planInsert
  split
  · split
    · exact .of_eq (clip_congr (by simp) _)
    · rw [State.outOfTravel, State.travelRequest, State.clip_request, State.clip_putClip]
      split
      · rw [State.clip_takeSlot]
        exact ⟨rfl, fun _ _ => rfl, fun _ => rfl, fun h => absurd rfl h⟩
      · exact .of_eq (s.clip_takeSlot _ _)
  · exact .of_eq (clip_congr (by simp) _)

theorem State.passes_plannerReacts (s : State) : Clip.Passes 79 (s.clip 79) (s.plannerReacts.clip 79) := by
  unfold State.plannerReacts
  split
  · exact .of_eq (clip_congr (by simp) _)
  · split
    · exact .of_eq rfl
    · split
      · exact .of_eq rfl
      · exact s.passes_planInsert _
  · exact .of_eq rfl

/-- A record that does not wait at the station passes it, and every later position (R70). -/
theorem State.passes_reacts {s : State} {r : Reactor} (hscan : r ≠ .scan)
    (hwaits : ∀ k, r = .station k → s.clipWaits k = false) (present leads : Bool) :
    Clip.Passes (reactorPosition r) (s.clip (reactorPosition r))
      ((s.reacts present leads r).1.clip (reactorPosition r)) := by
  cases r with
  | scan => exact absurd rfl hscan
  | station k =>
    refine .of_eq ?_
    change (s.stationReacts k).clip k = _
    rw [State.stationReacts, if_neg (by simp [hwaits k rfl])]
    rfl
  | verify => exact s.passes_verifyReacts present leads
  | gate =>
    obtain ⟨c, hc⟩ := s.clip_gateReacts
    change Clip.Passes 78 (s.clip 78) (s.gateReacts.clip 78)
    rw [hc]
    exact ⟨rfl, fun _ h => absurd rfl h, fun _ => rfl, fun _ => rfl⟩
  | planner => exact s.passes_plannerReacts

theorem State.clipWaits_congr {s t : State} {k : Nat} (h : t.clip k = s.clip k) : t.clipWaits k = s.clipWaits k := by
  simp only [State.clipWaits, h]

/-- A record behind position 0 through all the blocks. -/
theorem State.passes_blocks {s : State} {p : Nat} (h1 : 1 ≤ p) (hwaits : p ≤ 72 → s.clipWaits p = false)
    (present leads : Bool) (order : List Reactor) :
    Clip.Passes p (s.clip p) ((State.reactInOrder present leads (fullOrder order) s).1.clip p) := by
  by_cases hblock : ∃ r ∈ allReactors, reactorPosition r = p
  · obtain ⟨r, hr, rfl⟩ := hblock
    obtain ⟨l₁, l₂, -, -, -, hbefore, hafter⟩ := s.clip_blocks hr order present leads
    rw [hafter, ← hbefore]
    refine State.passes_reacts (by rintro rfl; simp [reactorPosition] at h1) (fun k hk => ?_) present leads
    subst hk
    obtain ⟨-, h72⟩ := station_mem_allReactors hr
    exact (State.clipWaits_congr hbefore).trans (hwaits h72)
  · refine .of_eq (State.clip_reactInOrder_ne _ _ _ _ fun r hr hp => hblock ⟨r, ?_, hp.symm⟩)
    exact mem_allReactors_of_fullOrder hr

/-! ## The record that enters (R70, R81) -/

theorem State.clip_callRequest (s : State) (n : Nat) (p : Parity) (q : Nat) :
    (s.callRequest n p).clip q = s.clip q := clip_congr (by simp) q

theorem State.clip_assign (s : State) (p : Parity) (n k : Nat) :
    ((s.assign p n k).clip 0).verify = (s.clip 0).verify ∧ ((s.assign p n k).clip 0).dump = (s.clip 0).dump := by
  rw [State.assign, State.clip_callRequest, State.clip_putClip]
  split
  · exact ⟨rfl, rfl⟩
  · exact ⟨rfl, rfl⟩

theorem State.clip_scanFrom (s : State) (fuel : Nat) (l : List Nat) :
    ((s.scanFrom fuel l).1.clip 0).verify = (s.clip 0).verify ∧
      ((s.scanFrom fuel l).1.clip 0).dump = (s.clip 0).dump := by
  induction fuel generalizing l with
  | zero => exact ⟨rfl, rfl⟩
  | succ fuel ih =>
    unfold State.scanFrom
    split
    · exact ⟨rfl, rfl⟩
    · split
      · exact ⟨rfl, rfl⟩
      · split
        next t ht =>
          obtain ⟨st, -, -, rfl⟩ := s.commit_eq t ht
          refine (State.clip_assign _ _ _ _).imp (fun h => h.trans ?_) fun h => h.trans ?_
          · exact congrArg Clip.verify (clip_congr (by simp) _)
          · exact congrArg Clip.dump (clip_congr (by simp) _)
        · exact ih _

theorem State.clip_callScan (s : State) :
    (s.callScan.1.clip 0).verify = (s.clip 0).verify ∧ (s.callScan.1.clip 0).dump = (s.clip 0).dump := by
  unfold State.callScan
  split
  · have hscan := s.clip_scanFrom (Config.stationCount + 1) []
    split
    next t k hresult =>
      rw [hresult] at hscan
      have hraised : (t.raiseRecord .starve (some (.station k))).clip 0 = t.clip 0 := clip_congr (by simp) 0
      exact hraised.symm ▸ hscan
    next hresult =>
      rw [hresult] at hscan
      exact hscan
  · exact ⟨rfl, rfl⟩

end Sys2Proof.Machine
end

section
/-! PROOFS. An index completion on the stretch and the stations (R49, R70, R95). -/

namespace Sys2Proof.Machine

/-! ## The index has ended (R95) -/

/-- No index is in flight, and its timer does not run. -/
def State.IndexRests (s : State) : Prop := s.chain.indexState ≠ .indexing ∧ s.chain.indexTimer = none

theorem State.IndexRests.of_eq {s t : State} (h : s.IndexRests) (hchain : t.chain = s.chain) : t.IndexRests := by
  unfold State.IndexRests at h ⊢
  rwa [hchain]

theorem State.IndexRests.requestIndex {s : State} (h : s.IndexRests) : s.requestIndex.IndexRests := by
  unfold State.requestIndex
  split
  · exact ⟨by simp, h.2⟩
  · exact h

theorem State.IndexRests.headJudge {s : State} (h : s.IndexRests) : s.headJudge.IndexRests := by
  unfold State.headJudge
  split
  · exact h.requestIndex
  · exact h

theorem State.IndexRests.homingCheck {s : State} (h : s.IndexRests) : s.homingCheck.IndexRests := by
  unfold State.homingCheck
  split
  · exact State.IndexRests.headJudge (s := { s with head := { s.head with state := .idle, phaseTimer := none } }) h
  · exact h

theorem State.indexRests_haltIndex (s : State) : s.haltIndex.IndexRests := ⟨by simp [State.haltIndex], rfl⟩

theorem State.IndexRests.react {s : State} (h : s.IndexRests) (r : Reaction) : (s.react r).IndexRests := by
  cases r with
  | note => exact h
  | pause =>
    change s.enterPausing.IndexRests
    have hcheck (m) : ({ s with machine := m } : State).homingCheck.pausingQuiet.IndexRests :=
      (State.IndexRests.homingCheck (s := { s with machine := m }) h).of_eq (by simp)
    unfold State.enterPausing
    split
    · exact hcheck _
    · exact hcheck _
    · exact h
  | halt =>
    change s.haltIfMoving.IndexRests
    unfold State.haltIfMoving
    split
    · exact s.indexRests_haltIndex.of_eq s.chain_enterHalted
    · exact h

theorem State.IndexRests.reactAll {s : State} (h : s.IndexRests) (ks : List AlarmKind) :
    (s.reactAll ks).IndexRests := by
  induction ks generalizing s with
  | nil => exact h
  | cons k ks ih => exact ih (h.react _)

theorem State.IndexRests.settle {s : State} (h : s.IndexRests) : s.settle.IndexRests := by
  unfold State.settle State.drainEnd
  have hquiet : s.pausingQuiet.IndexRests := h.of_eq (by simp)
  split
  · refine ⟨?_, hquiet.2⟩
    change (if _ then _ else _) ≠ _
    split
    · decide
    · exact hquiet.1
  · exact hquiet

/-- The judgment of the mark leaves the index and its timer, which the completion has ended. -/
theorem Chain.completed_rests (c : Chain) (nf nb : Nat) :
    (c.completed nf nb).chain.indexState = .idle ∧ (c.completed nf nb).chain.indexTimer = none := by
  have hunlocked (d : Chain) : (d.judgeUnlocked nb).chain.indexState = d.indexState ∧
      (d.judgeUnlocked nb).chain.indexTimer = d.indexTimer := by
    unfold Chain.judgeUnlocked
    split_ifs <;> exact ⟨rfl, rfl⟩
  have hlocking (d : Chain) : (d.judgeLocking nb).chain.indexState = d.indexState ∧
      (d.judgeLocking nb).chain.indexTimer = d.indexTimer := by
    unfold Chain.judgeLocking
    split_ifs <;> exact ⟨rfl, rfl⟩
  have hlocked (d : Chain) : (d.judgeLocked nf).chain.indexState = d.indexState ∧
      (d.judgeLocked nf).chain.indexTimer = d.indexTimer := by
    unfold Chain.judgeLocked
    split_ifs <;> exact ⟨rfl, rfl⟩
  unfold Chain.completed
  split
  · exact hunlocked _
  · exact hlocking _
  · exact hlocked _

theorem State.indexRests_shift (s : State) : s.shift.IndexRests := by
  obtain ⟨hstate, htimer⟩ := s.chain.completed_rests s.settings.forwardProtection s.settings.backwardProtection
  unfold State.IndexRests
  rw [State.chain_shift, hstate]
  exact ⟨by decide, htimer⟩

theorem State.indexRests_indexCompletion {s : State} (hi : s.chain.indexState = .indexing) (present leads : Bool)
    (order : List Reactor) : (s.indexCompletion present leads order).IndexRests := by
  rw [s.indexCompletion_eq hi]
  refine (State.IndexRests.reactAll (State.IndexRests.headJudge (State.IndexRests.homingCheck ?_)) _).settle
  obtain ⟨-, -, -, hchain, -⟩ := State.reactInOrder_frame present leads (fullOrder order) s.shift
  exact s.indexRests_shift.of_eq hchain

/-! ## A station through the blocks (R49, R48) -/

/-- Station `k` from `s` to `t`: at most a commitment to it while it is READY and the machine works. -/
structure Commits (k : Nat) (s t : State) : Prop where
  machine : t.machine = s.machine
  station : ∀ st, s.station? k = some st → ∃ st', t.station? k = some st' ∧
    st' = { st with committed := st'.committed } ∧ (st.state ≠ .ready ∨ s.working = false → st' = st)

theorem Commits.of_eq {k : Nat} {s t : State} (hmachine : t.machine = s.machine)
    (h : t.station? k = s.station? k) : Commits k s t :=
  ⟨hmachine, fun st hst => ⟨st, h.trans hst, rfl, fun _ => rfl⟩⟩

theorem Commits.trans {k : Nat} {s t u : State} (h : Commits k s t) (h' : Commits k t u) : Commits k s u := by
  refine ⟨h'.machine.trans h.machine, fun st hst => ?_⟩
  obtain ⟨st', hst', hsame, hrests⟩ := h.station st hst
  obtain ⟨st'', hst'', hsame', hrests'⟩ := h'.station st' hst'
  refine ⟨st'', hst'', ?_, fun hready => ?_⟩
  · rw [hsame', hsame]
  · have hst := hrests hready
    rw [← State.working_congr h.machine, ← hst] at hready
    exact (hrests' hready).trans hst

theorem Commits.scanFrom {s : State} (hworking : s.working = true) (k fuel : Nat) (l : List Nat) :
    Commits k s (s.scanFrom fuel l).1 := by
  induction fuel generalizing l with
  | zero => exact .of_eq rfl rfl
  | succ fuel ih =>
    unfold State.scanFrom
    split
    · exact .of_eq rfl rfl
    · split
      · exact .of_eq rfl rfl
      next j _ =>
        split
        next t ht =>
          obtain ⟨st, hst, havailable, rfl⟩ := s.commit_eq t ht
          refine .trans (t := s.putStation j { st with committed := st.committed + 1 }) ?_
            (.of_eq (by simp) (station?_congr (by simp) k))
          refine ⟨by simp, fun st' hst' => ?_⟩
          by_cases hk : k = j
          · subst hk
            obtain rfl := Option.some.inj (hst.symm.trans hst')
            refine ⟨_, State.station?_putStation_self hst _, rfl, fun h => ?_⟩
            simp only [Station.available, Bool.and_eq_true, decide_eq_true_eq] at havailable
            simp [havailable.1, hworking] at h
          · exact ⟨st', (State.station?_putStation_ne s hk _).trans hst', rfl, fun _ => rfl⟩
        · exact ih _

theorem Commits.callScan (k : Nat) (s : State) : Commits k s s.callScan.1 := by
  unfold State.callScan
  split
  next h =>
    rw [Bool.and_eq_true] at h
    have hscan := Commits.scanFrom h.1 k (Config.stationCount + 1) []
    split
    next t j hresult =>
      rw [hresult] at hscan
      exact hscan.trans (t := t) (.of_eq (by simp) (station?_congr (by simp) k))
    next hresult =>
      rw [hresult] at hscan
      exact hscan
  next => exact .of_eq rfl rfl

theorem State.station?_stationReacts_ne (s : State) {j k : Nat} (h : k ≠ j) :
    (s.stationReacts j).station? k = s.station? k := by
  unfold State.stationReacts
  split
  · split
    · rfl
    · split
      · rw [State.station?_dropAt, if_neg h]
      · split
        · unfold State.takeOn
          split
          · rfl
          · exact State.station?_putStation_ne s h _
        · exact State.station?_putStation_ne s h _
  · rfl

theorem Commits.reacts {k : Nat} {r : Reactor} (h : r ≠ .station k) (s : State) (present leads : Bool) :
    Commits k s (s.reacts present leads r).1 := by
  cases r with
  | scan => exact .callScan k s
  | station j => exact .of_eq (by simp) (s.station?_stationReacts_ne fun hk => h (hk ▸ rfl))
  | _ => exact .of_eq (by simp) (station?_congr (by simp [State.reacts]) k)

theorem Commits.reactInOrder {k : Nat} {rs : List Reactor} (h : Reactor.station k ∉ rs) (present leads : Bool)
    (s : State) : Commits k s (State.reactInOrder present leads rs s).1 := by
  induction rs generalizing s with
  | nil => exact .of_eq rfl rfl
  | cons r rs ih =>
    obtain ⟨hr, hrs⟩ := not_or.mp (List.mem_cons.not.mp h)
    exact (Commits.reacts (fun hk => hr hk.symm) s present leads).trans (ih hrs _)

/-! ## The station beneath which a clip has come (R49) -/

theorem State.stationReacts_drops {s : State} {k : Nat} {st : Station} (hw : s.clipWaits k = true)
    (hst : s.station? k = some st) (h : st.state ≠ .ready) : s.stationReacts k = s.dropAt k := by
  simp only [State.stationReacts, hw, hst, if_pos h, if_true]

theorem State.stationReacts_takesOn {s : State} {k : Nat} {st : Station} (hw : s.clipWaits k = true)
    (hst : s.station? k = some st) (h : st.state = .ready) (hworking : s.working = true) :
    s.stationReacts k = s.putStation k st.takenOn := by
  have hready : ¬ st.state ≠ .ready := not_not.mpr h
  simp only [State.stationReacts, hw, hst, if_neg hready, hworking, if_true, State.takeOn]
  rfl

theorem State.stationReacts_keepsDue {s : State} {k : Nat} {st : Station} (hw : s.clipWaits k = true)
    (hst : s.station? k = some st) (h : st.state = .ready) (hworking : s.working = false) :
    s.stationReacts k = s.putStation k { st with feed := .due } := by
  have hready : ¬ st.state ≠ .ready := not_not.mpr h
  simp only [State.stationReacts, hw, hst, if_neg hready, hworking, if_true, Bool.false_eq_true, if_false]

theorem mem_allReactors_station {k : Nat} (h1 : 1 ≤ k) (h72 : k ≤ 72) : Reactor.station k ∈ allReactors := by
  simp [allReactors, mem_stationNumbers, h1, h72]

/-- A station through the blocks of a completion: the commitments before and after its own block. -/
theorem State.station_blocks {k : Nat} (h1 : 1 ≤ k) (h72 : k ≤ 72) (order : List Reactor) (present leads : Bool)
    (s : State) :
    ∃ v, Commits k s v ∧ v.clip k = s.clip k ∧ v.stretch.length = s.stretch.length ∧
      Commits k (v.stationReacts k) (State.reactInOrder present leads (fullOrder order) s).1 ∧
      (State.reactInOrder present leads (fullOrder order) s).1.clip k = (v.stationReacts k).clip k := by
  obtain ⟨l₁, l₂, hl, hbefore, hafter, hclip, hblock⟩ :=
    s.clip_blocks (mem_allReactors_station h1 h72) order present leads
  refine ⟨_, Commits.reactInOrder hbefore present leads s, hclip, State.length_stretch_reactInOrder .., ?_, hblock⟩
  rw [hl, State.reactInOrder_append]
  exact Commits.reactInOrder hafter present leads _

/-- The record that enters, through the blocks of a completion (R70, R81). -/
theorem State.clip_blocks_zero (s : State) (present leads : Bool) (order : List Reactor) :
    ((State.reactInOrder present leads (fullOrder order) s).1.clip 0).verify = (s.clip 0).verify ∧
      ((State.reactInOrder present leads (fullOrder order) s).1.clip 0).dump = (s.clip 0).dump := by
  obtain ⟨l₁, l₂, -, -, -, hbefore, hafter⟩ := s.clip_blocks (r := .scan) (by decide) order present leads
  have hscan := (State.reactInOrder present leads l₁ s).1.clip_callScan
  change (State.reactInOrder present leads (fullOrder order) s).1.clip 0 = _ at hafter
  rw [hafter, ← show (State.reactInOrder present leads l₁ s).1.clip 0 = s.clip 0 from hbefore]
  exact hscan

/-! ## Reactions that are not HALT (R194) -/

theorem State.stations_reactAll (s : State) (ks : List AlarmKind) (h : ∀ k ∈ ks, (s.alarm k).reaction ≠ .halt) :
    (s.reactAll ks).stations = s.stations := by
  induction ks generalizing s with
  | nil => rfl
  | cons k ks ih =>
    obtain ⟨-, -, hstations, -⟩ := s.react_of_ne_halt (h k (by simp))
    have hrest : ∀ l ∈ ks, ((s.react (s.alarm k).reaction).alarm l).reaction ≠ .halt := fun l hl => by
      rw [alarm_congr (s := s) (by simp)]
      exact h l (by simp [hl])
    exact (ih _ hrest).trans hstations

theorem State.stations_indexCompletion {s : State} (hi : s.chain.indexState = .indexing) (present leads : Bool)
    (order : List Reactor) (hstarve : (s.alarm .starve).reaction ≠ .halt)
    (hsync : (s.alarm .chainSync).reaction ≠ .halt) (hmissed : (s.alarm .placementMissed).reaction ≠ .halt) :
    (s.indexCompletion present leads order).stations =
      (State.reactInOrder present leads (fullOrder order) s.shift).1.stations := by
  have hkinds := State.kinds_reactInOrder present leads (fullOrder order) s.shift
  have hreaction (k : AlarmKind) :
      ((State.reactInOrder present leads (fullOrder order) s.shift).1.alarm k).reaction = (s.alarm k).reaction := by
    rw [State.reaction_reactInOrder, State.reaction_shift]
  rw [s.indexCompletion_eq hi]
  generalize State.reactInOrder present leads (fullOrder order) s.shift = b at hkinds hreaction ⊢
  have hblocks : ∀ k ∈ b.2, (s.alarm k).reaction ≠ .halt := fun k hk => by
    rcases hkinds k hk with rfl | rfl
    · exact hstarve
    · exact hmissed
  have hall : ∀ k ∈ if s.losesLock then AlarmKind.chainSync :: b.2 else b.2,
      (b.1.homingCheck.headJudge.alarm k).reaction ≠ .halt := fun k hk => by
    rw [alarm_congr (s := b.1) (by simp), hreaction]
    split at hk
    · rcases List.mem_cons.mp hk with rfl | hk
      · exact hsync
      · exact hblocks k hk
    · exact hblocks k hk
  simpa using State.stations_reactAll b.1.homingCheck.headJudge _ hall

end Sys2Proof.Machine

open Sys2Proof Sys2Proof.Machine

/-- Settles O37: every block acts once on the shifted stretch, at its own position. -/
theorem indexCompletionShiftsTheStretch : Obligations.IndexCompletionShiftsTheStretch := by
  refine ⟨fun present leads order s hl => ⟨fun hi hshape hstarve hsync hmissed => ?_, fun hi => ?_⟩,
    fun present leads rest s k st c u hl hshape hi h1 h72 hst hready hassigned hcall hstation hu => ?_⟩
  · obtain ⟨-, -, hlength, -⟩ := id hshape
    obtain ⟨hstretch, -⟩ := s.indexCompletion_of_ne_halt hi present leads order hstarve hsync hmissed
    have hstations := State.stations_indexCompletion hi present leads order hstarve hsync hmissed
    obtain ⟨hidle, htimer⟩ := State.indexRests_indexCompletion hi present leads order
    have hclip := clip_congr hstretch
    obtain ⟨-, -, -, hmachine, -, -, hsame, -⟩ := s.shift_values
    have hwaits {q : Nat} (hq : q < 80) : s.shift.clipWaits (q + 1) = true ↔
        (s.clip q).state = .assigned ∧ ∃ c, (s.clip q).call = some c ∧ c.station = q + 1 := by
      obtain ⟨id', hmoved⟩ := s.clip_shift_succ hlength hq
      rw [State.clipWaits_iff, hmoved]
    obtain ⟨-, -, hverify, hdump⟩ := s.clip_shift_zero hlength
    obtain ⟨hkeptVerify, hkeptDump⟩ := s.shift.clip_blocks_zero present leads order
    refine ⟨_, exec_indexCompletion hl .., ?_, hidle, htimer, (congrArg Clip.verify (hclip 0)).trans
      (hkeptVerify.trans hverify), (congrArg Clip.dump (hclip 0)).trans (hkeptDump.trans hdump), fun q hq hpasses => ?_,
      fun q c st hq hassigned hcall hstation hst => ?_⟩
    · rw [hstretch, State.length_stretch_reactInOrder, s.length_stretch_shift, hlength]
    · obtain ⟨id', hmoved⟩ := s.clip_shift_succ hlength hq
      have hnot : q + 1 ≤ 72 → s.shift.clipWaits (q + 1) = false := fun h72 =>
        Bool.eq_false_iff.mpr fun hw => by
          obtain ⟨hassigned, c, hcall, hstation⟩ := (hwaits hq).mp hw
          exact hpasses hassigned (by omega) c hcall hstation
      obtain ⟨hcall, hstate, hverify, hdump⟩ := State.passes_blocks (by omega) hnot present leads order
      rw [hmoved] at hcall hstate hverify hdump
      rw [hclip]
      exact ⟨hcall, fun h75 h77 => hstate (by omega) (by omega), fun h75 => hverify (by omega),
        fun h78 => hdump (by omega)⟩
    · obtain ⟨id', hmoved⟩ := s.clip_shift_succ hlength (q := q) (by omega)
      obtain ⟨v, hbefore, hfound, hlong, hafter, hleft⟩ :=
        s.shift.station_blocks (k := q + 1) (by omega) (by omega) order present leads
      have hlong' : q + 1 < v.stretch.length := by
        rw [hlong, s.length_stretch_shift, hlength]
        omega
      have hwaiting : v.clipWaits (q + 1) = true :=
        (State.clipWaits_congr hfound).trans ((hwaits (by omega)).mpr ⟨hassigned, c, hcall, hstation⟩)
      have hworking : v.working = s.working := State.working_congr (hbefore.machine.trans hmachine)
      obtain ⟨w, hw, hcommitted, hrests⟩ := hbefore.station st ((station?_congr hsame _).trans hst)
      rw [State.working_congr hmachine] at hrests
      have hstate : w.state = st.state := by rw [hcommitted]
      have htaken (k : Nat) := station?_congr hstations k
      rw [hclip, hleft]
      by_cases hready : st.state = .ready
      · have hput (b : Station) : (v.putStation (q + 1) b).clip (q + 1) = { s.clip q with clipId := id' } :=
          (clip_congr (by simp) _).trans (hfound.trans hmoved)
        cases hidle : s.working with
        | true =>
          rw [State.stationReacts_takesOn hwaiting hw (hstate.trans hready) (hworking.trans hidle)] at hafter ⊢
          obtain ⟨st', hst', hlast, -⟩ := hafter.station _ (State.station?_putStation_self hw _)
          refine ⟨by rw [hput]; exact hcall, st', (htaken _).trans hst', fun h => absurd hready h, fun _ _ => ?_,
            fun _ hrunning hdraining => ?_⟩
          · rw [hput]
            refine ⟨?_, hassigned⟩
            rw [hlast, hcommitted]
            rfl
          · rcases s.working_iff.mp hidle with h | h
            · exact absurd h hrunning
            · exact absurd h hdraining
        | false =>
          obtain rfl := hrests (.inr hidle)
          rw [State.stationReacts_keepsDue hwaiting hw hready (hworking.trans hidle)] at hafter ⊢
          obtain ⟨st', hst', -, hlast⟩ := hafter.station _ (State.station?_putStation_self hw _)
          refine ⟨by rw [hput]; exact hcall, st', (htaken _).trans hst', fun h => absurd hready h, fun _ hruns => ?_,
            fun _ _ _ => ?_⟩
          · exact absurd (s.working_iff.mpr hruns) (by simp [hidle])
          · rw [hput]
            exact ⟨hlast (.inr ((State.working_congr (by simp)).trans (hworking.trans hidle))), hassigned⟩
      · obtain rfl := hrests (.inl hready)
        rw [State.stationReacts_drops hwaiting hw hready] at hafter ⊢
        obtain ⟨st', hst', -, hlast⟩ := hafter.station _ (State.station?_dropAt_self hw)
        rw [State.clip_dropAt v hw hlong', if_pos rfl, hfound, hmoved]
        exact ⟨hcall, st', (htaken _).trans hst', fun _ => ⟨hlast (.inl hready), rfl⟩, fun h => absurd h hready,
          fun h => absurd h hready⟩
  · rw [exec_indexCompletion hl, State.indexCompletion, if_neg hi]
  · obtain ⟨-, -, hlength, -⟩ := id hshape
    obtain ⟨q, rfl⟩ := Nat.exists_eq_add_of_le' h1
    obtain ⟨id', hmoved⟩ := s.clip_shift_succ hlength (q := q) (by omega)
    obtain ⟨htable, hboards, -, hmachine, -, -, hsame, -⟩ := s.shift_values
    have hwaiting : s.shift.clipWaits (q + 1) = true := by
      rw [State.clipWaits_iff, hmoved]
      exact ⟨hassigned, c, hcall, hstation⟩
    have hst' : s.shift.station? (q + 1) = some st := (station?_congr hsame _).trans hst
    have hfirst : (s.shift.reacts present leads (.station (q + 1))).1 = s.shift.dropAt (q + 1) :=
      State.stationReacts_drops hwaiting hst' hready
    have hafter := TableSteps.afterFirst (ok := fun _ => True) hi (mem_allReactors_station h1 h72)
      (fun _ _ _ _ => trivial) (fun _ _ => trivial) present leads rest
    obtain ⟨hstatus, hrecalls⟩ := State.recall_dropAt hst' (by rw [hmoved]; exact hcall)
      (hu.congr htable hboards)
    rw [hfirst] at hafter
    rw [board_congr hboards] at hrecalls
    refine ⟨_, exec_indexCompletion hl .., hafter.recalls hrecalls.symm.le, fun hpausing => ?_⟩
    refine hafter.uncalled hstatus (by simp) (.inr ?_)
    rw [State.working_congr (s := s) (by simp)]
    simp [State.working, hpausing]
end

section
/-! PROOFS. The choice of the call scan (R78 to R83). -/

namespace Sys2Proof.Machine

/-! ## The least calling key (R80) -/

theorem keyLess_iff (a b : Nat × Nat × Nat) :
    keyLess a b = true ↔
      a.1 < b.1 ∨ (a.1 = b.1 ∧ (a.2.1 < b.2.1 ∨ (a.2.1 = b.2.1 ∧ a.2.2 < b.2.2))) := by
  simp [keyLess]

theorem keyLess_asymm {a b : Nat × Nat × Nat} (h : keyLess a b = true) : keyLess b a ≠ true := by
  rw [keyLess_iff] at h
  rw [Ne, keyLess_iff]
  omega

theorem keyLess_trans_not {a b c : Nat × Nat × Nat} (h : keyLess a b ≠ true) (h' : keyLess b c ≠ true) :
    keyLess a c ≠ true := by
  rw [Ne, keyLess_iff] at h h' ⊢
  omega

/-- The key of a candidate (R80). -/
def Candidate.key (c : Candidate) : Nat × Nat × Nat := callingKey c.slot c.record

theorem leastCandidate_least {l : List Candidate} {c d : Candidate} (h : leastCandidate l = some c) (hd : d ∈ l) :
    keyLess d.key c.key ≠ true := by
  induction l generalizing c with
  | nil => simp at hd
  | cons e l ih =>
    unfold leastCandidate at h
    split at h
    next hnone =>
      have hempty : l = [] := by
        cases l with
        | nil => rfl
        | cons e' l =>
          unfold leastCandidate at hnone
          split at hnone <;> simp at hnone
      obtain rfl := Option.some.inj h
      obtain rfl : d = e := by simpa [hempty] using hd
      exact fun h => keyLess_asymm h h
    next f hf =>
      obtain rfl := Option.some.inj h
      unfold lesser
      split
      next hless =>
        rcases List.mem_cons.mp hd with rfl | hd
        · exact keyLess_asymm hless
        · exact ih hf hd
      next hnot =>
        rcases List.mem_cons.mp hd with rfl | hd
        · exact fun h => keyLess_asymm h h
        · exact keyLess_trans_not (ih hf hd) hnot

theorem leastCandidate_exists {l : List Candidate} {d : Candidate} (hd : d ∈ l) : ∃ c, leastCandidate l = some c := by
  cases l with
  | nil => simp at hd
  | cons e l =>
    unfold leastCandidate
    split
    · exact ⟨_, rfl⟩
    · exact ⟨_, rfl⟩

/-! ## The pair of least calling key (R80) -/

theorem State.mem_candidates_of {s : State} {n : Nat} {p : Parity} {r : Placement} {fourth : Placement → Bool}
    (hmay : s.mayBeCalled n p = true) (hr : s.slot? n = some r) (hfourth : fourth r = true) :
    ({ slot := n, record := r } : Candidate) ∈ s.candidates p fourth :=
  State.mem_candidates.mpr ⟨hr, hmay, hfourth, State.mem_admitted hr⟩

theorem State.isOpen_of_mayBeCalled {s : State} {n : Nat} {p : Parity} (h : s.mayBeCalled n p = true) :
    s.isOpen p = true := by
  unfold State.mayBeCalled at h
  rw [Bool.and_eq_true] at h
  exact h.1

theorem State.leastPair_exists {s : State} {n : Nat} {p : Parity} {r : Placement} {fourth : Placement → Bool}
    (hmay : s.mayBeCalled n p = true) (hr : s.slot? n = some r) (hfourth : fourth r = true) :
    ∃ q c, s.leastPair fourth = some (q, c) := by
  obtain ⟨d, hd⟩ := leastCandidate_exists (State.mem_candidates_of hmay hr hfourth)
  have hsome : (s.leastPair fourth).isSome = true := by
    unfold State.leastPair
    rw [List.findSome?_isSome_iff]
    exact ⟨p, (s.mem_boardsByAge p).mpr (State.isOpen_of_mayBeCalled hmay), by rw [hd]; rfl⟩
  obtain ⟨⟨q, c⟩, hc⟩ := Option.isSome_iff_exists.mp hsome
  exact ⟨q, c, hc⟩

theorem State.boardsByAge_of_older {s : State} {p q : Parity} (h : s.isOlder p q = true) : s.boardsByAge = [p, q] := by
  have hasymm := State.isOlder_asymm h
  have hp : s.isOpen p = true := by simp_all [State.isOlder]
  have hq : s.isOpen q = true := by simp_all [State.isOlder]
  cases p <;> cases q
  case even.even => simp [h] at hasymm
  case odd.odd => simp [h] at hasymm
  case even.odd => simp [State.boardsByAge, hasymm, State.openBoards, hp, hq]
  case odd.even => simp [State.boardsByAge, h, State.openBoards, hp, hq]

/-- No eligible pair comes before the one that is chosen (R80). -/
theorem State.leastPair_least {s : State} {n : Nat} {p q : Parity} {r : Placement} {c : Candidate}
    {fourth : Placement → Bool} (h : s.leastPair fourth = some (q, c)) (hmay : s.mayBeCalled n p = true)
    (hr : s.slot? n = some r) (hfourth : fourth r = true) : ¬ CalledBefore s n p r c.slot q c.record := by
  have hmem := State.mem_candidates_of hmay hr hfourth
  rintro (holder | ⟨rfl, hkey⟩)
  · obtain ⟨d, hd⟩ := leastCandidate_exists hmem
    rw [State.leastPair, State.boardsByAge_of_older holder, List.findSome?_cons, hd] at h
    obtain ⟨rfl, -⟩ := Prod.mk.inj (Option.some.inj h)
    exact absurd (State.isOlder_asymm holder) (by simp [holder])
  · refine leastCandidate_least (State.leastPair_mem h).2 hmem ?_
    rw [keyLess_iff]
    exact hkey

theorem State.leastPair_eligible {s : State} {q : Parity} {c : Candidate} {fourth : Placement → Bool}
    (h : s.leastPair fourth = some (q, c)) :
    s.slot? c.slot = some c.record ∧ s.mayBeCalled c.slot q = true ∧ fourth c.record = true := by
  obtain ⟨hslot, hmay, hfourth, -⟩ := State.mem_candidates.mp (leastCandidate_mem (State.leastPair_mem h).2)
  exact ⟨hslot, hmay, hfourth⟩

theorem State.leastPair_none {s : State} {fourth : Placement → Bool}
    (h : ∀ (m : Nat) (q : Parity) (u : Placement), s.mayBeCalled m q = true → s.slot? m = some u → fourth u = false) :
    s.leastPair fourth = none := by
  cases hleast : s.leastPair fourth with
  | none => rfl
  | some e =>
    obtain ⟨hslot, hmay, hfourth⟩ := State.leastPair_eligible (q := e.1) (c := e.2) hleast
    simp [h _ _ _ hmay hslot] at hfourth

theorem State.mayBeCalled_slot {s : State} {n : Nat} {p : Parity} (h : s.mayBeCalled n p = true) :
    ∃ r, s.slot? n = some r := by
  cases hr : s.slot? n with
  | none => simp [State.mayBeCalled, hr] at h
  | some r => exact ⟨r, rfl⟩

/-! ## The scan (R77 to R83) -/

/-- The serving station is available (R79). -/
theorem State.available_of_serving {s : State} {l : List Nat} {r : Placement} {k : Nat} {st : Station}
    (h : s.servingStation l r = some k) (hst : s.station? k = some st) : st.available = true := by
  have havailable : s.availableFor l k = true := by
    unfold State.servingStation at h
    split at h
    next hnamed => exact Option.some.inj h ▸ hnamed
    next =>
      split at h
      · split at h
        · cases h
        · split at h
          · cases h
          · exact (Bool.and_eq_true _ _ ▸ List.find?_some h).1
      · cases h
  simp only [State.availableFor, hst, Bool.and_eq_true] at havailable
  exact havailable.2

theorem State.enteringIsBad_iff (s : State) :
    s.enteringIsBad = true ↔
      s.chain.syncState = .locked ∧ ∃ id, (s.clip 0).clipId = some id ∧ (s.condition id).state = .bad := by
  unfold State.enteringIsBad
  cases (s.clip 0).clipId <;> simp

/-- A station with one more commitment (R48). -/
def Station.committedOnce (st : Station) : Station := { st with committed := st.committed + 1 }

theorem State.callScan_assigns {s : State} {n k : Nat} {p : Parity} {r : Placement} {st : Station}
    (hworking : s.working = true) (hgood : s.enteringIsBad = false)
    (hleast : s.leastPair (fun r => (s.servingStation [] r).isSome) = some (p, { slot := n, record := r }))
    (hserving : s.servingStation [] r = some k) (hst : s.station? k = some st) :
    s.callScan = ((s.putStation k st.committedOnce).assign p n k, []) := by
  have hcommit : s.commit k = some (s.putStation k st.committedOnce) := by
    simp only [State.commit, hst, State.available_of_serving hserving hst, if_true]
    rfl
  have hscan : s.scanFrom (Config.stationCount + 1) [] = ((s.putStation k st.committedOnce).assign p n k, none) := by
    simp only [State.scanFrom, hleast, hserving, hcommit]
  simp [State.callScan, hworking, hgood, hscan]

theorem State.callScan_starves {s : State} {q : Parity} {c : Candidate} (hworking : s.working = true)
    (hgood : s.enteringIsBad = false) (hnone : s.leastPair (fun r => (s.servingStation [] r).isSome) = none)
    (hleast : s.leastPair (fun r => (s.servingStation [] r).isNone) = some (q, c)) :
    s.callScan = (s.raiseRecord .starve (some (.station c.record.station)), [.starve]) := by
  have hscan : s.scanFrom (Config.stationCount + 1) [] = (s, some c.record.station) := by
    simp only [State.scanFrom, hnone, State.starvedStation, hleast, Option.map_some]
  simp [State.callScan, hworking, hgood, hscan]

theorem State.callScan_rests {s : State} (h : s.working = false ∨ s.enteringIsBad = true) :
    s.callScan = (s, []) := by
  rcases h with h | h
  · simp [State.callScan, h]
  · simp [State.callScan, h]

/-! ## The committed station and its placement after the scan (R48, R70) -/

/-- A READY station keeps its commitments through every block but the scan. -/
def KeepsCommitted (k : Nat) (s t : State) : Prop :=
  ∀ st, s.station? k = some st → st.state = .ready →
    ∃ st', t.station? k = some st' ∧ st'.state = .ready ∧ st'.committed = st.committed

theorem KeepsCommitted.of_eq {k : Nat} {s t : State} (h : t.station? k = s.station? k) : KeepsCommitted k s t :=
  fun st hst hready => ⟨st, h.trans hst, hready, rfl⟩

theorem KeepsCommitted.trans {k : Nat} {s t u : State} (h : KeepsCommitted k s t) (h' : KeepsCommitted k t u) :
    KeepsCommitted k s u := fun st hst hready => by
  obtain ⟨st', hst', hready', hsame⟩ := h st hst hready
  obtain ⟨st'', hst'', hready'', hsame'⟩ := h' st' hst' hready'
  exact ⟨st'', hst'', hready'', hsame'.trans hsame⟩

theorem KeepsCommitted.stationReacts (k : Nat) (s : State) (j : Nat) : KeepsCommitted k s (s.stationReacts j) := by
  by_cases hk : k = j
  · subst hk
    intro st hst hready
    cases hw : s.clipWaits k with
    | false => exact ⟨st, by simpa [State.stationReacts, hw] using hst, hready, rfl⟩
    | true =>
      cases hworking : s.working with
      | true =>
        rw [State.stationReacts_takesOn hw hst hready hworking]
        exact ⟨_, State.station?_putStation_self hst _, hready, rfl⟩
      | false =>
        rw [State.stationReacts_keepsDue hw hst hready hworking]
        exact ⟨_, State.station?_putStation_self hst _, hready, rfl⟩
  · exact .of_eq (s.station?_stationReacts_ne hk)

theorem KeepsCommitted.reactInOrder {rs : List Reactor} (h : Reactor.scan ∉ rs) (k : Nat) (present leads : Bool)
    (s : State) : KeepsCommitted k s (State.reactInOrder present leads rs s).1 := by
  induction rs generalizing s with
  | nil => exact .of_eq rfl
  | cons r rs ih =>
    obtain ⟨hr, hrs⟩ := not_or.mp (List.mem_cons.not.mp h)
    refine .trans ?_ (ih hrs _)
    cases r with
    | scan => exact absurd rfl hr
    | station j => exact .stationReacts k s j
    | _ => exact .of_eq (station?_congr (by simp [State.reacts]) k)

/-- The clip carries no placement `n` for the board of parity `p`. -/
def Clip.FreeOf (n : Nat) (p : Parity) (e : Clip) : Prop :=
  ∀ c : Call, e.call = some c → c.placement = n → c.parity = p →
    e.state ≠ .assigned ∧ e.state ≠ .loaded ∧ e.state ≠ .verified

theorem State.statusOf_request_ne (s : State) {n m : Nat} {p q : Parity} (h : m = n → q ≠ p)
    (f : StatusSlot → StatusSlot) (rep : Report) : (s.request m q f rep).statusOf n p = s.statusOf n p := by
  rcases s.request_cases m q f rep with hsame | ⟨r, hr, hopen, hc⟩
  · rw [hsame]
  · rw [State.statusOf_request hr hopen hc, if_neg fun hnp => h hnp.1.symm hnp.2.symm]

end Sys2Proof.Machine
end

section
/-! PROOFS. The call scan as the block that acts first at a completion (R77 to R83). -/

namespace Sys2Proof.Machine

/-! ## A placement that no clip carries (R7) -/

theorem State.statusOf_dropAt_free {s : State} {n k : Nat} {p : Parity} (hassigned : (s.clip k).state = .assigned)
    (hfree : (s.clip k).FreeOf n p) : (s.dropAt k).statusOf n p = s.statusOf n p := by
  cases hst : s.station? k with
  | none => simp only [State.dropAt, hst]
  | some st =>
    have hmarked : ((s.putStation k st.dropped).markClip k .dropMissed).statusOf n p = s.statusOf n p :=
      statusOf_congr (by simp) n p
    cases hcall : (s.clip k).call with
    | none => rw [State.dropAt_of_no_call hst hcall, hmarked]
    | some c =>
      have hother : c.placement = n → c.parity ≠ p := fun hn hp => (hfree c hcall hn hp).1 hassigned
      rw [State.dropAt_of_call hst hcall, State.recallUncounted, State.statusOf_request_ne _ hother, hmarked]

theorem State.statusOf_stationReacts_free {s : State} {n k : Nat} {p : Parity} (hfree : (s.clip k).FreeOf n p) :
    (s.stationReacts k).statusOf n p = s.statusOf n p := by
  unfold State.stationReacts
  split
  next hw =>
    obtain ⟨hassigned, -⟩ := (s.clipWaits_iff k).mp hw
    split
    · rfl
    · split
      · exact State.statusOf_dropAt_free hassigned hfree
      · split
        · exact statusOf_congr (by simp) n p
        · exact statusOf_congr (by simp) n p
  next => rfl

theorem State.statusOf_recallCounted_ne (s : State) {n m : Nat} {p q : Parity} (h : m = n → q ≠ p) :
    (s.recallCounted m q).statusOf n p = s.statusOf n p := by
  unfold State.recallCounted
  split
  · exact s.statusOf_request_ne h ..
  · exact s.statusOf_request_ne h ..

theorem State.statusOf_countedRecallOf_ne (s : State) {n : Nat} {p : Parity} {c : Option Call}
    (h : ∀ k, c = some k → k.placement = n → k.parity ≠ p) :
    (s.countedRecallOf c).1.statusOf n p = s.statusOf n p := by
  unfold State.countedRecallOf
  split
  · rfl
  next k =>
    have hrecall := s.statusOf_recallCounted_ne (h k rfl)
    split
    · exact (statusOf_congr (by simp) n p).trans hrecall
    · exact hrecall

theorem State.statusOf_verifyReacts_free {s : State} {n : Nat} {p : Parity} (hfree : (s.clip 76).FreeOf n p)
    (present leads : Bool) : (s.verifyReacts present leads).1.statusOf n p = s.statusOf n p := by
  have hframe {t : State} (h : t.table = s.table) : t.statusOf n p = s.statusOf n p := statusOf_congr h n p
  unfold State.verifyReacts
  split
  next hloaded =>
    dsimp only
    split
    · exact hframe (by simp)
    · refine (State.statusOf_countedRecallOf_ne _ fun c hcall hn hp => ?_).trans (hframe (by simp))
      exact (hfree c hcall hn hp).2.1 hloaded
  · exact hframe (by simp)
  · exact hframe (by simp)
  · exact hframe (by simp)
  · rfl

theorem State.statusOf_gateReacts_free {s : State} {n : Nat} {p : Parity} (hfree : (s.clip 78).FreeOf n p) :
    s.gateReacts.statusOf n p = s.statusOf n p := by
  have hframe {t : State} (h : t.table = s.table) : t.statusOf n p = s.statusOf n p := statusOf_congr h n p
  unfold State.gateReacts
  split
  · exact hframe (by simp)
  · exact hframe (by simp)
  next hverified =>
    split
    · rfl
    next c hcall =>
      split
      · rfl
      · have hother : c.placement = n → c.parity ≠ p := fun hn hp => (hfree c hcall hn hp).2.2 hverified
        exact (State.statusOf_request_ne _ hother ..).trans (hframe (by simp))
  · rfl

theorem State.statusOf_plannerReacts_free {s : State} {n : Nat} {p : Parity} (hfree : (s.clip 79).FreeOf n p) :
    s.plannerReacts.statusOf n p = s.statusOf n p := by
  have hframe {t : State} (h : t.table = s.table) : t.statusOf n p = s.statusOf n p := statusOf_congr h n p
  unfold State.plannerReacts
  split
  · exact hframe (by simp)
  next hverified =>
    split
    · rfl
    · split
      · rfl
      next c hcall =>
        have hother : c.job.placement = n → parityOf c.job.board ≠ p :=
          fun hn hp => (hfree c hcall hn hp).2.2 hverified
        unfold State.planInsert
        split
        · split
          · exact hframe (by simp)
          · exact (State.statusOf_request_ne _ hother ..).trans (hframe (by simp))
        · exact hframe (by simp)
  · rfl

theorem State.statusOf_reacts_free {s : State} {n : Nat} {p : Parity} {r : Reactor} (hscan : r ≠ .scan)
    (hfree : (s.clip (reactorPosition r)).FreeOf n p) (present leads : Bool) :
    (s.reacts present leads r).1.statusOf n p = s.statusOf n p := by
  cases r with
  | scan => exact absurd rfl hscan
  | station k => exact State.statusOf_stationReacts_free hfree
  | verify => exact State.statusOf_verifyReacts_free hfree present leads
  | gate => exact State.statusOf_gateReacts_free hfree
  | planner => exact State.statusOf_plannerReacts_free hfree

/-- Blocks at whose positions no clip carries the placement leave its status. -/
theorem State.statusOf_reactInOrder_free {n : Nat} {p : Parity} {rs : List Reactor} (hnodup : rs.Nodup)
    (hblocks : ∀ r ∈ rs, r ∈ allReactors ∧ r ≠ .scan) (present leads : Bool) (s : State)
    (hfree : ∀ r ∈ rs, (s.clip (reactorPosition r)).FreeOf n p) :
    (State.reactInOrder present leads rs s).1.statusOf n p = s.statusOf n p := by
  induction rs generalizing s with
  | nil => rfl
  | cons r rs ih =>
    obtain ⟨hr, hnodup'⟩ := List.nodup_cons.mp hnodup
    obtain ⟨hmem, hscan⟩ := hblocks r (by simp)
    refine (ih hnodup' (fun x hx => hblocks x (by simp [hx])) _ fun x hx => ?_).trans
      (State.statusOf_reacts_free hscan (hfree r (by simp)) present leads)
    have hne : reactorPosition x ≠ reactorPosition r := fun hp =>
      hr (reactorPosition_injective (hblocks x (by simp [hx])).1 hmem hp ▸ hx)
    rw [State.clip_reacts_ne _ _ _ _ hne]
    exact hfree x (by simp [hx])

/-! ## STARVE (R83) -/

/-- STARVE is raised by the scan alone (R83). -/
theorem State.starve_reactInOrder {rs : List Reactor} (h : Reactor.scan ∉ rs) (present leads : Bool) (s : State) :
    (State.reactInOrder present leads rs s).1.alarm .starve = s.alarm .starve := by
  induction rs generalizing s with
  | nil => rfl
  | cons r rs ih =>
    obtain ⟨hr, hrs⟩ := not_or.mp (List.mem_cons.not.mp h)
    refine (ih hrs _).trans ?_
    cases r with
    | scan => exact absurd rfl hr
    | verify =>
      have hrecall (u : State) (c : Option Call) : (u.countedRecallOf c).1.alarm .starve = u.alarm .starve := by
        unfold State.countedRecallOf
        split
        · rfl
        · split
          · exact (State.alarm_raiseRecord_ne _ (by decide) _).trans (alarm_congr (by simp) _)
          · exact alarm_congr (by simp) _
      change (s.verifyReacts present leads).1.alarm _ = _
      unfold State.verifyReacts
      split
      · dsimp only
        split
        · exact alarm_congr (by simp) _
        · exact (hrecall _ _).trans (alarm_congr (by simp) _)
      · exact alarm_congr (by simp) _
      · exact alarm_congr (by simp) _
      · exact alarm_congr (by simp) _
      · rfl
    | _ => exact alarm_congr (by simp [State.reacts]) _

theorem State.starve_indexCompletion {s : State} (hi : s.chain.indexState = .indexing) (present leads : Bool)
    (rest : List Reactor) :
    (s.indexCompletion present leads (.scan :: rest)).alarm .starve = s.shift.callScan.1.alarm .starve := by
  obtain ⟨l, hl, hnot⟩ := fullOrder_cons .scan rest (by decide)
  refine (alarm_congr ?_ _).trans (State.starve_reactInOrder hnot present leads s.shift.callScan.1)
  rw [s.indexCompletion_eq hi, hl]
  simp [State.reactInOrder, State.reacts]

theorem State.starve_shift (s : State) : s.shift.alarm .starve = s.alarm .starve := by
  unfold State.shift
  dsimp only
  split
  · exact State.alarm_raiseRecord_ne _ (by decide) _
  · split
    · rw [State.alarm_endCondition, if_neg (by decide)]
      rfl
    · rfl

/-! ## The scan on the shifted stretch (R77, R81) -/

theorem CalledBefore.congr {s t : State} {n m : Nat} {p q : Parity} {r u : Placement}
    (h : CalledBefore s n p r m q u) (hboards : t.boards = s.boards) : CalledBefore t n p r m q u := by
  refine h.imp_left fun holder => ?_
  simpa only [State.isOlder, State.isOpen, board_congr hboards] using holder

theorem State.enteringIsBad_shift (s : State) :
    s.shift.enteringIsBad = true ↔ ∃ id, s.shift.chain.syncState = .locked ∧ (s.shift.clip 0).clipId = some id ∧
      (s.condition id).state = .bad := by
  obtain ⟨-, -, -, -, -, hconditions, -⟩ := s.shift_values
  rw [State.enteringIsBad_iff]
  simp only [State.condition, hconditions, exists_and_left]

theorem State.clip_assign_zero {s : State} (h : 0 < s.stretch.length) (p : Parity) (n k : Nat) :
    (s.assign p n k).clip 0 =
      { s.clip 0 with
        state := .assigned
        call := some { board := (s.board p).number, placement := n, station := k } } := by
  rw [State.assign, State.clip_callRequest, State.clip_putClip, if_pos ⟨rfl, h⟩]

theorem State.statusOf_assign {s : State} {n : Nat} {r : Placement} (hr : s.slot? n = some r) (p : Parity) (k : Nat) :
    (s.assign p n k).statusOf n p = some { r.status.get p with state := .called } := by
  have hr' : (s.putClip 0 { s.clip 0 with
      state := .assigned
      call := some { board := (s.board p).number, placement := n, station := k } }).slot? n = some r :=
    (slot?_congr (by simp) n).trans hr
  rw [State.assign, State.statusOf_callRequest hr', if_pos ⟨rfl, rfl⟩]

/-- The pair that comes before every other eligible one is the one the scan chooses (R80, R81). -/
theorem State.callScan_shift {s : State} {n k : Nat} {p : Parity} {r : Placement} {st : Station}
    (hworking : s.shift.working = true) (hgood : s.shift.enteringIsBad = false)
    (hmay : s.shift.mayBeCalled n p = true) (hr : s.shift.slot? n = some r)
    (hserving : s.shift.servingStation [] r = some k) (hst : s.shift.station? k = some st)
    (hleast : ∀ (m : Nat) (q : Parity) (u : Placement), s.shift.mayBeCalled m q = true → s.shift.slot? m = some u →
      (s.shift.servingStation [] u).isSome = true → (m = n ∧ q = p) ∨ CalledBefore s.shift n p r m q u) :
    s.shift.callScan = ((s.shift.putStation k st.committedOnce).assign p n k, []) := by
  have hsome : (s.shift.servingStation [] r).isSome = true := by rw [hserving]; rfl
  obtain ⟨q, ⟨m, u⟩, hchosen⟩ :=
    State.leastPair_exists (fourth := fun r => (s.shift.servingStation [] r).isSome) hmay hr hsome
  obtain ⟨hslot, hmay', hsome'⟩ := State.leastPair_eligible hchosen
  rcases hleast m q u hmay' hslot hsome' with ⟨rfl, rfl⟩ | hbefore
  · obtain rfl := Option.some.inj (hslot.symm.trans hr)
    exact State.callScan_assigns hworking hgood hchosen hserving hst
  · exact absurd hbefore (State.leastPair_least hchosen hmay hr hsome)

/-- A clip of the stretch behind position 0 comes from the position before it (R70). -/
theorem Clip.FreeOf.shifted {s : State} {n : Nat} {p : Parity} (hlength : s.stretch.length = 81)
    (h : ∀ q, q < 80 → (s.clip q).FreeOf n p) {q : Nat} (h1 : 1 ≤ q) (h80 : q ≤ 80) :
    (s.shift.clip q).FreeOf n p := by
  obtain ⟨q, rfl⟩ := Nat.exists_eq_add_of_le' h1
  obtain ⟨id', hmoved⟩ := s.clip_shift_succ hlength (q := q) (by omega)
  rw [hmoved]
  exact h q (by omega)

theorem reactorPosition_range {r : Reactor} (h : r ∈ allReactors) (hscan : r ≠ .scan) :
    1 ≤ reactorPosition r ∧ reactorPosition r ≤ 80 := by
  cases r with
  | scan => exact absurd rfl hscan
  | station k =>
    obtain ⟨h1, h72⟩ := station_mem_allReactors h
    exact ⟨h1, h72.trans (by decide)⟩
  | _ => exact ⟨by decide, by decide⟩

/-! ## What stands of the scan at the end of the completion (R70) -/

theorem State.clip_afterScan {s : State} (hi : s.chain.indexState = .indexing) (present leads : Bool)
    (rest : List Reactor) :
    (s.indexCompletion present leads (.scan :: rest)).clip 0 = s.shift.callScan.1.clip 0 :=
  s.clip_indexCompletion_first hi present leads .scan rest (by decide) (.inl rfl)

theorem State.station_afterScan {s : State} (hi : s.chain.indexState = .indexing) (present leads : Bool)
    (rest : List Reactor) (hstarve : (s.alarm .starve).reaction ≠ .halt)
    (hsync : (s.alarm .chainSync).reaction ≠ .halt) (hmissed : (s.alarm .placementMissed).reaction ≠ .halt)
    {k : Nat} {st : Station} (h : s.shift.callScan.1.station? k = some st) (hready : st.state = .ready) :
    ∃ st', (s.indexCompletion present leads (.scan :: rest)).station? k = some st' ∧ st'.committed = st.committed := by
  obtain ⟨l, hl, hnot⟩ := fullOrder_cons .scan rest (by decide)
  have hsame := State.stations_indexCompletion hi present leads (.scan :: rest) hstarve hsync hmissed
  rw [hl] at hsame
  obtain ⟨st', hst', -, hkept⟩ := KeepsCommitted.reactInOrder hnot k present leads s.shift.callScan.1 st h hready
  exact ⟨st', (station?_congr hsame k).trans hst', hkept⟩

theorem State.statusOf_afterScan {s : State} (hi : s.chain.indexState = .indexing) (hlength : s.stretch.length = 81)
    (present leads : Bool) (rest : List Reactor) (hstarve : (s.alarm .starve).reaction ≠ .halt)
    (hsync : (s.alarm .chainSync).reaction ≠ .halt) (hmissed : (s.alarm .placementMissed).reaction ≠ .halt)
    {n : Nat} {p : Parity} (hfree : ∀ q, q < 80 → (s.clip q).FreeOf n p) :
    (s.indexCompletion present leads (.scan :: rest)).statusOf n p = s.shift.callScan.1.statusOf n p := by
  obtain ⟨l, hl, hnot⟩ := fullOrder_cons .scan rest (by decide)
  obtain ⟨-, -, htable, -⟩ :=
    s.indexCompletion_of_ne_halt hi present leads (.scan :: rest) hstarve hsync hmissed
  rw [hl] at htable
  have hblocks : ∀ x ∈ l, x ∈ allReactors ∧ x ≠ .scan := fun x hx =>
    ⟨mem_allReactors_of_fullOrder (order := .scan :: rest) (by simp [hl, hx]), fun h => hnot (h ▸ hx)⟩
  have hnodup : l.Nodup := (List.nodup_cons.mp (hl ▸ nodup_fullOrder (.scan :: rest))).2
  refine (statusOf_congr htable n p).trans
    (State.statusOf_reactInOrder_free hnodup hblocks present leads s.shift.callScan.1 fun x hx => ?_)
  obtain ⟨h1, h80⟩ := reactorPosition_range (hblocks x hx).1 (hblocks x hx).2
  rw [State.clip_callScan_ne _ (by omega)]
  exact Clip.FreeOf.shifted hlength hfree h1 h80

end Sys2Proof.Machine

open Sys2Proof Sys2Proof.Machine

/-- Settles O39: the pair of least key that the scan finds, and what the later blocks keep of its call. -/
theorem callScanAssignsOrStarves : Obligations.CallScanAssignsOrStarves := by
  refine ⟨fun present leads rest s n k p r st hl hshape hi hrun hgood hmay hr hserving hst hleast => ?_,
    fun present leads rest s hl hshape hi => ⟨fun hrun hgood hnone hcallable => ?_, fun hrests => ?_⟩⟩
  · obtain ⟨-, -, hlength, -⟩ := id hshape
    obtain ⟨htable, hboards, -, hmachine, -, -, hstations, -⟩ := s.shift_values
    have hlength' : 0 < s.shift.stretch.length := by
      rw [s.length_stretch_shift, hlength]
      omega
    have hr' : s.shift.slot? n = some r := (slot?_congr htable n).trans hr
    have hst' : s.shift.station? k = some st := (station?_congr hstations k).trans hst
    have hworking : s.shift.working = true := (State.working_congr hmachine).trans (s.working_iff.mpr hrun)
    have hscan := State.callScan_shift hworking (Bool.eq_false_iff.mpr fun hbad => by
      obtain ⟨id, hlocked, hid, hstate⟩ := s.enteringIsBad_shift.mp hbad
      exact hgood id hlocked hid hstate) hmay hr' hserving hst' fun m q u hm hu hs =>
        (hleast m q u hm ((slot?_congr htable m).symm.trans hu) hs).imp_right fun h => h.congr hboards
    have hclip := State.clip_afterScan hi present leads rest
    rw [hscan, State.clip_assign_zero (by simpa using hlength')] at hclip
    have hnumber : ((s.shift.putStation k st.committedOnce).board p).number = (s.board p).number :=
      congrArg BoardRecord.number (board_congr (by simp) p)
    refine ⟨_, exec_indexCompletion hl .., congrArg Clip.state hclip, ?_,
      fun hstarve hsync hmissed => ⟨?_, fun hfree => ?_⟩⟩
    · rw [hclip, hnumber]
    · have hcommitted : s.shift.callScan.1.station? k = some st.committedOnce := by
        rw [hscan]
        exact (station?_congr (by simp) k).trans (State.station?_putStation_self hst' _)
      have havailable := State.available_of_serving hserving hst'
      simp only [Station.available, Bool.and_eq_true, decide_eq_true_eq] at havailable
      exact State.station_afterScan hi present leads rest hstarve hsync hmissed hcommitted havailable.1
    · rw [State.statusOf_afterScan hi hlength present leads rest hstarve hsync hmissed fun q hq c => hfree q c hq, hscan]
      exact State.statusOf_assign ((slot?_congr (by simp) n).trans hr') p k
  · obtain ⟨-, -, hlength, -⟩ := id hshape
    obtain ⟨htable, hboards, -, hmachine, -⟩ := s.shift_values
    have hworking : s.shift.working = true := (State.working_congr hmachine).trans (s.working_iff.mpr hrun)
    have hgood' : s.shift.enteringIsBad = false := Bool.eq_false_iff.mpr fun hbad => by
      obtain ⟨id, hlocked, hid, hstate⟩ := s.enteringIsBad_shift.mp hbad
      exact hgood id hlocked hid hstate
    have hstarved {m : Nat} {q : Parity} {u : Placement} (hm : s.shift.mayBeCalled m q = true)
        (hu : s.shift.slot? m = some u) : s.shift.servingStation [] u = none :=
      hnone m q u hm ((slot?_congr htable m).symm.trans hu)
    obtain ⟨m, q, hm⟩ := hcallable
    obtain ⟨u, hu⟩ := State.mayBeCalled_slot hm
    obtain ⟨q', c, hchosen⟩ := State.leastPair_exists
      (fourth := fun r => (s.shift.servingStation [] r).isNone) hm hu (by rw [hstarved hm hu]; rfl)
    obtain ⟨hslot, hmay, -⟩ := State.leastPair_eligible hchosen
    have hscan := State.callScan_starves hworking hgood'
      (State.leastPair_none fun m q u hm hu => by rw [hstarved hm hu]; rfl) hchosen
    have hclip := State.clip_afterScan hi present leads rest
    refine ⟨_, c.slot, q', c.record, exec_indexCompletion hl .., ?_, hmay, (slot?_congr htable _).symm.trans hslot, ?_,
      fun n p r hn hr hfirst => ?_⟩
    · rw [hclip, hscan]
      exact (congrArg Clip.state (clip_congr (by simp) 0)).trans (s.clip_shift_zero hlength).1
    · refine raised_congr s.starve_shift (by simp) (raised_of_alarm (s := s.shift) ?_)
      rw [State.starve_indexCompletion hi, hscan]
    · have hr' : s.shift.slot? n = some r := (slot?_congr htable n).trans hr
      refine (hfirst c.slot q' c.record hmay ((slot?_congr htable _).symm.trans hslot)).resolve_right fun hbefore => ?_
      exact State.leastPair_least hchosen hn hr' (by rw [hstarved hn hr']; rfl) (hbefore.congr hboards)
  · obtain ⟨-, -, hlength, -⟩ := id hshape
    obtain ⟨-, -, -, hmachine, -⟩ := s.shift_values
    have hscan : s.shift.callScan = (s.shift, []) := by
      refine State.callScan_rests (hrests.imp (fun hpausing => ?_) s.enteringIsBad_shift.mpr)
      rw [State.working_congr hmachine]
      simp [State.working, hpausing]
    have hclip := State.clip_afterScan hi present leads rest
    refine ⟨_, exec_indexCompletion hl .., ?_⟩
    rw [hclip, hscan]
    exact (s.clip_shift_zero hlength).1
end
